-- ==== Sys2Proof/Word.lean ====
section
/-! DEFINITION. The word types of the FOCUS CPU (spec/00_scope.md rule R6): word 32 bits, halfword 16, byte 8,
doubleword 64. Bit 0 is the most significant bit (R7); the field helpers are in Machine/Fields.lean. -/

namespace Sys2Proof

/-- A 32-bit word: the content of every register but FLAGS (R20). -/
abbrev Word := BitVec 32

/-- A 16-bit halfword. -/
abbrev Half := BitVec 16

/-- An 8-bit byte. -/
abbrev Byte := BitVec 8

/-- A 64-bit doubleword, its first word the most significant half (R7). -/
abbrev DWord := BitVec 64

end Sys2Proof
end

