-- ==== Sys2Proof/Syntax.lean ====
section
/-! DEFINITION. The instructions of the FOCUS CPU: one constructor per row of spec/opcode_table.json,
its arguments the fields that spec/30_encoding.md (rules R161 to R176) gives the row, decoded. -/

namespace Sys2Proof

/-- The eight base specifications of the BASE field (R101): P+, P-, DB+, DL-, Q+, Q-, SB+, S-. -/
inductive Base where
  | pPlus | pMinus | dbPlus | dlMinus | qPlus | qMinus | sbPlus | sMinus
  deriving DecidableEq, Repr

/-- The BASE code of a base specification (R101). -/
def Base.code : Base → BitVec 3
  | .pPlus => 0
  | .pMinus => 1
  | .dbPlus => 2
  | .dlMinus => 3
  | .qPlus => 4
  | .qMinus => 5
  | .sbPlus => 6
  | .sMinus => 7

/-- The base specification of a BASE code (R101). -/
def Base.ofCode (c : BitVec 3) : Base :=
  match c.toNat with
  | 0 => .pPlus
  | 1 => .pMinus
  | 2 => .dbPlus
  | 3 => .dlMinus
  | 4 => .qPlus
  | 5 => .qMinus
  | 6 => .sbPlus
  | _ => .sMinus

/-- One constructor per row of the opcode table. Argument names: `i` indirect, `x` index, `b3` the special
bit 3 = CIR(19:1) of formats 3 and 4, `off` an offset field as encoded, `n` the format-5 operand. -/
inductive Instr where
  /-- LDS, R202 (format 1, opcode 2o). -/
  | lds (i : Bool) (x : Bool) (base : Base) (off : BitVec 8)
  /-- LRAS, R220 (format 1, opcode 3o). -/
  | lras (i : Bool) (x : Bool) (base : Base) (off : BitVec 8)
  /-- LDDS, R207 (format 1, opcode 4o). -/
  | ldds (i : Bool) (x : Bool) (base : Base) (off : BitVec 8)
  /-- STS, R231 (format 1, opcode 5o). -/
  | sts (i : Bool) (x : Bool) (base : Base) (off : BitVec 8)
  /-- BCCS, R445 (format 1, opcode 6o). -/
  | bccs (i : Bool) (ccf : BitVec 3) (sign : Bool) (off : BitVec 8)
  /-- EXF, R300 (format 6, opcode 0o). -/
  | exf (e : Bool) (x : Bool) (k : BitVec 5) (j : BitVec 5)
  /-- DPF, R301 (format 6, opcode 1o). -/
  | dpf (x : Bool) (k : BitVec 5) (j : BitVec 5)
  /-- CHEK, R584 (format 6, opcode 2o). -/
  | chek (lo : BitVec 5) (hi : BitVec 19)
  /-- PCL, R470 (format 6, opcode 3o). -/
  | pcl (off : BitVec 19)
  /-- LPP, R221 (format 6, opcode 4o). -/
  | lpp (off : BitVec 19)
  /-- LIA, R575 (format 6, opcode 5o). -/
  | lia (level : BitVec 4) (sign : Bool) (off : BitVec 19)
  /-- LDI, R215 (format 6, opcode 6o). -/
  | ldi (imm : BitVec 24)
  /-- LNI, R217 (format 6, opcode 7o). -/
  | lni (imm : BitVec 24)
  /-- LD, R201 (format 6, opcode 10o). -/
  | ld (i : Bool) (x : Bool) (base : Base) (off : BitVec 19)
  /-- ST, R230 (format 6, opcode 13o). -/
  | st (i : Bool) (x : Bool) (base : Base) (off : BitVec 19)
  /-- LDB, R204 (format 6, opcode 14o). -/
  | ldb (i : Bool) (x : Bool) (base : Base) (off : BitVec 19)
  /-- CMPM, R342 (format 6, opcode 15o). -/
  | cmpm (i : Bool) (x : Bool) (base : Base) (off : BitVec 19)
  /-- LDD, R206 (format 6, opcode 20o). -/
  | ldd (i : Bool) (x : Bool) (base : Base) (off : BitVec 19)
  /-- LDH, R209 (format 6, opcode 22o). -/
  | ldh (i : Bool) (x : Bool) (base : Base) (off : BitVec 19)
  /-- DECM, R344 (format 6, opcode 23o). -/
  | decm (i : Bool) (x : Bool) (base : Base) (off : BitVec 19)
  /-- INCM, R343 (format 6, opcode 24o). -/
  | incm (i : Bool) (x : Bool) (base : Base) (off : BitVec 19)
  /-- STH, R237 (format 6, opcode 25o). -/
  | sth (i : Bool) (x : Bool) (base : Base) (off : BitVec 19)
  /-- LDX, R273 (format 6, opcode 26o). -/
  | ldx (i : Bool) (x : Bool) (base : Base) (off : BitVec 19)
  /-- INCF, R345 (format 6, opcode 27o). -/
  | incf (i : Bool) (x : Bool) (base : Base) (off : BitVec 19)
  /-- BR, R442 (format 6, opcode 30o). -/
  | br (i : Bool) (x : Bool) (base : Base) (off : BitVec 19)
  /-- BCC, R444 (format 6, opcode 31o). -/
  | bcc (i : Bool) (ccf : BitVec 3) (sign : Bool) (off : BitVec 19)
  /-- DECF, R346 (format 6, opcode 32o). -/
  | decf (i : Bool) (x : Bool) (base : Base) (off : BitVec 19)
  /-- SEML, R558 (format 6, opcode 33o). -/
  | seml (i : Bool) (x : Bool) (base : Base) (off : BitVec 19)
  /-- STB, R233 (format 6, opcode 34o). -/
  | stb (i : Bool) (x : Bool) (base : Base) (off : BitVec 19)
  /-- STD, R235 (format 6, opcode 35o). -/
  | std (i : Bool) (x : Bool) (base : Base) (off : BitVec 19)
  /-- LRA, R219 (format 6, opcode 36o). -/
  | lra (i : Bool) (x : Bool) (base : Base) (off : BitVec 19)
  /-- SOL, R480 (format 5, opcode 0o). -/
  | sol (n : BitVec 8)
  /-- SOP, R486 (format 5, opcode 1o). -/
  | sop (n : BitVec 8)
  /-- CMPN, R337 (format 5, opcode 2o). -/
  | cmpn (n : BitVec 8)
  /-- CMPI, R336 (format 5, opcode 3o). -/
  | cmpi (n : BitVec 8)
  /-- ADDI, R332 (format 5, opcode 4o). -/
  | addi (n : BitVec 8)
  /-- SUBI, R333 (format 5, opcode 5o). -/
  | subi (n : BitVec 8)
  /-- MPYI, R334 (format 5, opcode 6o). -/
  | mpyi (n : BitVec 8)
  /-- DIVI, R335 (format 5, opcode 7o). -/
  | divi (n : BitVec 8)
  /-- LDXI, R271 (format 5, opcode 12o). -/
  | ldxi (n : BitVec 8)
  /-- LDXN, R272 (format 5, opcode 13o). -/
  | ldxn (n : BitVec 8)
  /-- LDIS, R216 (format 5, opcode 14o). -/
  | ldis (n : BitVec 8)
  /-- LNIS, R218 (format 5, opcode 15o). -/
  | lnis (n : BitVec 8)
  /-- SOS, R488 (format 5, opcode 16o). -/
  | sos (n : BitVec 8)
  /-- IOW, R534 (format 5, opcode 17o). -/
  | iow (n : BitVec 8)
  /-- IOR, R535 (format 5, opcode 20o). -/
  | ior (n : BitVec 8)
  /-- IOC, R536 (format 5, opcode 21o). -/
  | ioc (n : BitVec 8)
  /-- PCLS, R471 (format 5, opcode 22o). -/
  | pcls (n : BitVec 8)
  /-- EXIT, R472 (format 5, opcode 23o). -/
  | exit (n : BitVec 8)
  /-- SXIT, R473 (format 5, opcode 24o). -/
  | sxit (n : BitVec 8)
  /-- LIAS, R576 (format 5, opcode 25o). -/
  | lias (level : BitVec 2) (off : BitVec 6)
  /-- ADXI, R340 (format 5, opcode 26o). -/
  | adxi (n : BitVec 8)
  /-- SBXI, R341 (format 5, opcode 27o). -/
  | sbxi (n : BitVec 8)
  /-- SOLC, R481 (format 5, opcode 31o). -/
  | solc (n : BitVec 8)
  /-- ADDS, R277 (format 5, opcode 32o). -/
  | adds (n : BitVec 8)
  /-- SUBS, R279 (format 5, opcode 33o). -/
  | subs (n : BitVec 8)
  /-- LPPS, R222 (format 5, opcode 34o). -/
  | lpps (n : BitVec 8)
  /-- ORI, R356 (format 5, opcode 35o). -/
  | ori (n : BitVec 8)
  /-- XORI, R357 (format 5, opcode 36o). -/
  | xori (n : BitVec 8)
  /-- ANDI, R355 (format 5, opcode 37o). -/
  | andi (n : BitVec 8)
  /-- LSL, R293 (format 2, opcode 2o). -/
  | lsl (x : Bool) (cnt : BitVec 6)
  /-- LSR, R294 (format 2, opcode 3o). -/
  | lsr (x : Bool) (cnt : BitVec 6)
  /-- CSL, R295 (format 2, opcode 4o). -/
  | csl (x : Bool) (cnt : BitVec 6)
  /-- CSR, R296 (format 2, opcode 5o). -/
  | csr (x : Bool) (cnt : BitVec 6)
  /-- ASL, R291 (format 2, opcode 6o). -/
  | asl (x : Bool) (cnt : BitVec 6)
  /-- ASR, R292 (format 2, opcode 7o). -/
  | asr (x : Bool) (cnt : BitVec 6)
  /-- LSXL, R297 (format 2, opcode 10o). -/
  | lsxl (x : Bool) (cnt : BitVec 6)
  /-- SLD, R512 (format 2, opcode 25o). -/
  | sld (negLen : Bool) (ptrType : Bool)
  /-- SVAL, R511 (format 2, opcode 26o). -/
  | sval (negLen : Bool) (retLen : Bool) (ptrType : Bool)
  /-- SCON, R514 (format 2, opcode 27o). -/
  | scon (negLen : Bool) (ptrType : Bool) (tNegLen : Bool) (srcTemp : Bool)
  /-- SAS, R513 (format 2, opcode 30o). -/
  | sas (negLen : Bool) (fill : Bool) (ptrType : Bool) (tNegLen : Bool) (srcTemp : Bool)
  /-- PMPB, R532 (format 2, opcode 31o). -/
  | pmpb (sel : BitVec 3)
  /-- SMPB, R533 (format 2, opcode 32o). -/
  | smpb (sel : BitVec 3)
  /-- SRM, R413 (format 2, opcode 33o). -/
  | srm (src : Bool) (mode : BitVec 2)
  /-- PSHR, R283 (format 2, opcode 34o). -/
  | pshr (block : Bool) (sel : BitVec 6)
  /-- SETR, R284 (format 2, opcode 35o). -/
  | setr (sel : BitVec 6)
  /-- LLSH, R550 (format 2, opcode 36o). -/
  | llsh (ccf : BitVec 3)
  /-- TCC, R565 (format 2, opcode 37o). -/
  | tcc (ccf : BitVec 3)
  /-- BIR, R455 (format 2, opcode 40o and 44o). -/
  | bir (i : Bool) (sign : Bool) (off : BitVec 6)
  /-- BUN, R459 (format 2, opcode 41o and 45o). -/
  | bun (i : Bool) (sign : Bool) (off : BitVec 6)
  /-- PMVA, R502 (format 2, opcode 50o). -/
  | pmva (d : Bool) (sdec : BitVec 2)
  /-- MVB, R501 (format 2, opcode 51o). -/
  | mvb (d : Bool) (ptrType : Bool) (sdec : BitVec 2)
  /-- SCW, R503 (format 2, opcode 52o). -/
  | scw (d : Bool) (ptrType : Bool) (sdec : BitVec 2)
  /-- SCU, R504 (format 2, opcode 53o). -/
  | scu (d : Bool) (ptrType : Bool) (sdec : BitVec 2)
  /-- CMPB, R505 (format 2, opcode 54o). -/
  | cmpb (d : Bool) (ptrType : Bool) (sdec : BitVec 2)
  /-- TRAN, R506 (format 2, opcode 56o). -/
  | tran (d : Bool) (ptrType : Bool) (sdec : BitVec 2)
  /-- FILB, R507 (format 2, opcode 57o). -/
  | filb (sdec : BitVec 2)
  /-- BCY, R447 (format 2, opcode 60o and 64o). -/
  | bcy (i : Bool) (sign : Bool) (off : BitVec 6)
  /-- BNC, R448 (format 2, opcode 61o and 65o). -/
  | bnc (i : Bool) (sign : Bool) (off : BitVec 6)
  /-- BOV, R449 (format 2, opcode 62o and 66o). -/
  | bov (i : Bool) (sign : Bool) (off : BitVec 6)
  /-- BNO, R450 (format 2, opcode 63o and 67o). -/
  | bno (i : Bool) (sign : Bool) (off : BitVec 6)
  /-- BRZ, R451 (format 2, opcode 70o and 74o). -/
  | brz (i : Bool) (sign : Bool) (off : BitVec 6)
  /-- BRE, R452 (format 2, opcode 71o and 75o). -/
  | bre (i : Bool) (sign : Bool) (off : BitVec 6)
  /-- BRO, R453 (format 2, opcode 72o and 76o). -/
  | bro (i : Bool) (sign : Bool) (off : BitVec 6)
  /-- CRB, R454 (format 2, opcode 73o and 77o). -/
  | crb (i : Bool) (sign : Bool) (off : BitVec 6)
  /-- NOP, R460 (format 3, opcode 0o). -/
  | nop
  /-- DEL, R262 (format 3, opcode 40o). -/
  | del
  /-- DELB, R264 (format 3, opcode 1o). -/
  | delb
  /-- FIXD, R410 (format 3, opcode 41o). -/
  | fixd (b3 : Bool)
  /-- DDEL, R263 (format 3, opcode 2o). -/
  | ddel
  /-- FLTD, R408 (format 3, opcode 42o). -/
  | fltd
  /-- FTST, R399 (format 3, opcode 3o). -/
  | ftst (b3 : Bool)
  /-- STAX, R240 (format 3, opcode 43o). -/
  | stax (b3 : Bool)
  /-- FTSS, R406 (format 3, opcode 4o). -/
  | ftss (b3 : Bool)
  /-- LDXA, R212 (format 3, opcode 44o). -/
  | ldxa
  /-- PSHN, R278 (format 3, opcode 5o). -/
  | pshn (b3 : Bool)
  /-- DUP, R265 (format 3, opcode 45o). -/
  | dup
  /-- ZERO, R213 (format 3, opcode 6o). -/
  | zero
  /-- DDUP, R266 (format 3, opcode 46o). -/
  | ddup
  /-- DZRO, R214 (format 3, opcode 7o). -/
  | dzro
  /-- FCMP, R398 (format 3, opcode 50o). -/
  | fcmp (b3 : Bool)
  /-- DLAD, R421 (format 3, opcode 11o). -/
  | dlad (b3 : Bool)
  /-- FADD, R393 (format 3, opcode 51o). -/
  | fadd
  /-- DLSB, R422 (format 3, opcode 12o). -/
  | dlsb (b3 : Bool)
  /-- FSUB, R394 (format 3, opcode 52o). -/
  | fsub
  /-- DXCH, R268 (format 3, opcode 16o). -/
  | dxch
  /-- FMPY, R395 (format 3, opcode 53o). -/
  | fmpy
  /-- CMP, R327 (format 3, opcode 17o). -/
  | cmp (b3 : Bool)
  /-- FDIV, R396 (format 3, opcode 54o). -/
  | fdiv
  /-- ADD, R321 (format 3, opcode 20o). -/
  | add (b3 : Bool)
  /-- FNEG, R397 (format 3, opcode 55o). -/
  | fneg
  /-- SUB, R322 (format 3, opcode 21o). -/
  | sub (b3 : Bool)
  /-- CAB, R270 (format 3, opcode 56o). -/
  | cab
  /-- MPY, R323 (format 3, opcode 22o). -/
  | mpy (b3 : Bool)
  /-- LCMP, R331 (format 3, opcode 57o). -/
  | lcmp (b3 : Bool)
  /-- DIV, R324 (format 3, opcode 23o). -/
  | div (b3 : Bool)
  /-- LADD, R328 (format 3, opcode 60o). -/
  | ladd (b3 : Bool)
  /-- NEG, R326 (format 3, opcode 24o). -/
  | neg
  /-- LSUB, R329 (format 3, opcode 61o). -/
  | lsub (b3 : Bool)
  /-- TEST, R274 (format 3, opcode 25o). -/
  | test (b3 : Bool)
  /-- LMPY, R330 (format 3, opcode 62o). -/
  | lmpy
  /-- TSTD, R276 (format 3, opcode 26o). -/
  | tstd (b3 : Bool)
  /-- NOT, R354 (format 3, opcode 64o). -/
  | not
  /-- TSTB, R275 (format 3, opcode 27o). -/
  | tstb (b3 : Bool)
  /-- OR, R352 (format 3, opcode 65o). -/
  | or
  /-- CDSF, R412 (format 3, opcode 30o). -/
  | cdsf
  /-- XOR, R353 (format 3, opcode 66o). -/
  | xor
  /-- CSDF, R411 (format 3, opcode 31o). -/
  | csdf
  /-- AND, R351 (format 3, opcode 67o). -/
  | and
  /-- XCH, R267 (format 3, opcode 32o). -/
  | xch
  /-- FLTS, R407 (format 3, opcode 70o). -/
  | flts
  /-- DIVS, R325 (format 3, opcode 33o). -/
  | divs (b3 : Bool)
  /-- FIXS, R409 (format 3, opcode 71o). -/
  | fixs (b3 : Bool)
  /-- ISC, R350 (format 3, opcode 34o). -/
  | isc
  /-- FADS, R400 (format 3, opcode 72o). -/
  | fads
  /-- XAX, R269 (format 3, opcode 35o). -/
  | xax
  /-- FSBS, R401 (format 3, opcode 73o). -/
  | fsbs
  /-- ADAX, R338 (format 3, opcode 36o). -/
  | adax (b3 : Bool)
  /-- FMPS, R402 (format 3, opcode 74o). -/
  | fmps
  /-- ADXA, R339 (format 3, opcode 37o). -/
  | adxa
  /-- FDVS, R403 (format 3, opcode 75o). -/
  | fdvs
  /-- FNGS, R404 (format 3, opcode 76o). -/
  | fngs
  /-- FCPS, R405 (format 3, opcode 77o). -/
  | fcps (b3 : Bool)
  /-- DTB, R423 (format 4, opcode 0o). -/
  | dtb (b3 : Bool)
  /-- TRY, R587 (format 4, opcode 40o). -/
  | tryMark (b3 : Bool)
  /-- BTD, R424 (format 4, opcode 1o). -/
  | btd (b3 : Bool)
  /-- ESCP, R588 (format 4, opcode 41o). -/
  | escp (b3 : Bool)
  /-- LBIT, R211 (format 4, opcode 2o). -/
  | lbit (b3 : Bool)
  /-- ALM, R583 (format 4, opcode 42o). -/
  | alm (b3 : Bool)
  /-- SBIT, R239 (format 4, opcode 3o). -/
  | sbit (b3 : Bool)
  /-- CCI, R564 (format 4, opcode 43o). -/
  | cci
  /-- EOS, R489 (format 4, opcode 4o). -/
  | eos
  /-- EOP, R487 (format 4, opcode 44o). -/
  | eop
  /-- LSI, R203 (format 4, opcode 5o). -/
  | lsi (b3 : Bool)
  /-- PLBA, R224 (format 4, opcode 47o). -/
  | plba (b3 : Bool)
  /-- LBSI, R205 (format 4, opcode 6o). -/
  | lbsi (b3 : Bool)
  /-- PSBA, R242 (format 4, opcode 50o). -/
  | psba (b3 : Bool)
  /-- LDSI, R208 (format 4, opcode 7o). -/
  | ldsi (b3 : Bool)
  /-- PLHA, R225 (format 4, opcode 51o). -/
  | plha (b3 : Bool)
  /-- LHSI, R210 (format 4, opcode 10o). -/
  | lhsi (b3 : Bool)
  /-- PSHA, R243 (format 4, opcode 52o). -/
  | psha (b3 : Bool)
  /-- INT, R531 (format 4, opcode 11o). -/
  | int (b3 : Bool)
  /-- POT, R425 (format 4, opcode 53o). -/
  | pot
  /-- GTSP, R591 (format 4, opcode 12o). -/
  | gtsp
  /-- CNTO, R585 (format 4, opcode 54o). -/
  | cnto (b3 : Bool)
  /-- MUC, R590 (format 4, opcode 13o). -/
  | muc (b3 : Bool)
  /-- FLMO, R586 (format 4, opcode 55o). -/
  | flmo (b3 : Bool)
  /-- XGDS, R285 (format 4, opcode 14o). -/
  | xgds
  /-- RFC, R577 (format 4, opcode 56o). -/
  | rfc (b3 : Bool)
  /-- PSDB, R476 (format 4, opcode 15o). -/
  | psdb
  /-- WTC, R578 (format 4, opcode 57o). -/
  | wtc (b3 : Bool)
  /-- DISP, R475 (format 4, opcode 16o). -/
  | disp
  /-- SMSG, R581 (format 4, opcode 60o). -/
  | smsg (b3 : Bool)
  /-- PSEB, R477 (format 4, opcode 17o). -/
  | pseb
  /-- RSC, R580 (format 4, opcode 62o). -/
  | rsc
  /-- SSI, R232 (format 4, opcode 25o). -/
  | ssi (b3 : Bool)
  /-- PSLA, R559 (format 4, opcode 63o). -/
  | psla (b3 : Bool)
  /-- SBSI, R234 (format 4, opcode 26o). -/
  | sbsi (b3 : Bool)
  /-- PLDA, R223 (format 4, opcode 64o). -/
  | plda (b3 : Bool)
  /-- SDSI, R236 (format 4, opcode 27o). -/
  | sdsi (b3 : Bool)
  /-- PSTA, R241 (format 4, opcode 65o). -/
  | psta (b3 : Bool)
  /-- SHSI, R238 (format 4, opcode 30o). -/
  | shsi (b3 : Bool)
  /-- CPAA, R560 (format 4, opcode 66o). -/
  | cpaa (b3 : Bool)
  /-- RCS, R557 (format 4, opcode 31o). -/
  | rcs
  /-- CPEP, R562 (format 4, opcode 67o). -/
  | cpep (b3 : Bool)
  /-- BRSI, R443 (format 4, opcode 37o). -/
  | brsi (b3 : Bool)
  /-- CPTR, R563 (format 4, opcode 70o). -/
  | cptr (b3 : Bool)
  /-- VPTR, R561 (format 4, opcode 71o). -/
  | vptr (b3 : Bool)
  /-- LINS, R551 (format 4, opcode 72o). -/
  | lins
  /-- LDEL, R552 (format 4, opcode 73o). -/
  | ldel
  /-- IXIT, R474 (format 4, opcode 74o). -/
  | ixit
  /-- WAIT, R467 (format 4, opcode 76o). -/
  | wait (b3 : Bool)
  /-- STOP, R466 (format 4, opcode 77o). -/
  | stop (b3 : Bool)
  deriving DecidableEq, Repr

end Sys2Proof
end

