-- ==== Sys2Proof/WellFormed.lean ====
section
/-! DEFINITION. Which instruction terms are inside the instruction set: every field has exactly the values its width
admits, so the only checks left are the must-be-one bits of the opcode table (spec/30_encoding.md rule R178). -/

namespace Sys2Proof

/-- LBIT and SBIT must have bit 3 = 1 (R211, R239; spec/93_implementation_defined.md entry U5). -/
def WellFormed : Instr → Bool
  | .lbit b3 => b3
  | .sbit b3 => b3
  | _ => true

end Sys2Proof
end

