-- ==== Sys2Proof/Decode.lean ====
section
/-! DEFINITION. The decoder (spec/30_encoding.md rules R160 to R179), total on any bytes and rejecting by name, and
after it the encoder written from the same tables. Bit numbers in `extractLsb'` count from the least significant bit;
the spec counts from the most significant (R7). -/

namespace Sys2Proof

/-- What the decoder reads. `unimplemented`: an unassigned opcode (R177, trap 20o). `reservedBits`: an assigned opcode
with a must-be-zero bit set (R178, decision D16). `truncated`: fewer bytes than the instruction needs. -/
inductive Decoded where
  | instr (i : Instr)
  | unimplemented
  | reservedBits
  | truncated
  deriving DecidableEq, Repr

/-- The row's instruction when its must-be-zero bits `z` are zero (R178). -/
def ifZero {n : Nat} (z : BitVec n) (i : Instr) : Decoded :=
  if z = 0 then .instr i else .reservedBits

/-- Format 3: OP3 in bits 10-15 (R175). -/
def decodeFormat3 (h : BitVec 16) : Decoded :=
  match (h.extractLsb' 0 6).toNat with
  | 0 => ifZero (h &&& 0x1000#16) .nop
  | 1 => ifZero (h &&& 0x1000#16) .delb
  | 2 => ifZero (h &&& 0x1000#16) .ddel
  | 3 => .instr (.ftst (h.getLsbD 12))
  | 4 => .instr (.ftss (h.getLsbD 12))
  | 5 => .instr (.pshn (h.getLsbD 12))
  | 6 => ifZero (h &&& 0x1000#16) .zero
  | 7 => ifZero (h &&& 0x1000#16) .dzro
  | 9 => .instr (.dlad (h.getLsbD 12))
  | 10 => .instr (.dlsb (h.getLsbD 12))
  | 14 => ifZero (h &&& 0x1000#16) .dxch
  | 15 => .instr (.cmp (h.getLsbD 12))
  | 16 => .instr (.add (h.getLsbD 12))
  | 17 => .instr (.sub (h.getLsbD 12))
  | 18 => .instr (.mpy (h.getLsbD 12))
  | 19 => .instr (.div (h.getLsbD 12))
  | 20 => ifZero (h &&& 0x1000#16) .neg
  | 21 => .instr (.test (h.getLsbD 12))
  | 22 => .instr (.tstd (h.getLsbD 12))
  | 23 => .instr (.tstb (h.getLsbD 12))
  | 24 => ifZero (h &&& 0x1000#16) .cdsf
  | 25 => ifZero (h &&& 0x1000#16) .csdf
  | 26 => ifZero (h &&& 0x1000#16) .xch
  | 27 => .instr (.divs (h.getLsbD 12))
  | 28 => ifZero (h &&& 0x1000#16) .isc
  | 29 => ifZero (h &&& 0x1000#16) .xax
  | 30 => .instr (.adax (h.getLsbD 12))
  | 31 => ifZero (h &&& 0x1000#16) .adxa
  | 32 => ifZero (h &&& 0x1000#16) .del
  | 33 => .instr (.fixd (h.getLsbD 12))
  | 34 => ifZero (h &&& 0x1000#16) .fltd
  | 35 => .instr (.stax (h.getLsbD 12))
  | 36 => ifZero (h &&& 0x1000#16) .ldxa
  | 37 => ifZero (h &&& 0x1000#16) .dup
  | 38 => ifZero (h &&& 0x1000#16) .ddup
  | 40 => .instr (.fcmp (h.getLsbD 12))
  | 41 => ifZero (h &&& 0x1000#16) .fadd
  | 42 => ifZero (h &&& 0x1000#16) .fsub
  | 43 => ifZero (h &&& 0x1000#16) .fmpy
  | 44 => ifZero (h &&& 0x1000#16) .fdiv
  | 45 => ifZero (h &&& 0x1000#16) .fneg
  | 46 => ifZero (h &&& 0x1000#16) .cab
  | 47 => .instr (.lcmp (h.getLsbD 12))
  | 48 => .instr (.ladd (h.getLsbD 12))
  | 49 => .instr (.lsub (h.getLsbD 12))
  | 50 => ifZero (h &&& 0x1000#16) .lmpy
  | 52 => ifZero (h &&& 0x1000#16) .not
  | 53 => ifZero (h &&& 0x1000#16) .or
  | 54 => ifZero (h &&& 0x1000#16) .xor
  | 55 => ifZero (h &&& 0x1000#16) .and
  | 56 => ifZero (h &&& 0x1000#16) .flts
  | 57 => .instr (.fixs (h.getLsbD 12))
  | 58 => ifZero (h &&& 0x1000#16) .fads
  | 59 => ifZero (h &&& 0x1000#16) .fsbs
  | 60 => ifZero (h &&& 0x1000#16) .fmps
  | 61 => ifZero (h &&& 0x1000#16) .fdvs
  | 62 => ifZero (h &&& 0x1000#16) .fngs
  | 63 => .instr (.fcps (h.getLsbD 12))
  | _ => .unimplemented

/-- Format 4: OP3 in bits 10-15 (R176). -/
def decodeFormat4 (h : BitVec 16) : Decoded :=
  match (h.extractLsb' 0 6).toNat with
  | 0 => .instr (.dtb (h.getLsbD 12))
  | 1 => .instr (.btd (h.getLsbD 12))
  | 2 => .instr (.lbit (h.getLsbD 12))
  | 3 => .instr (.sbit (h.getLsbD 12))
  | 4 => ifZero (h &&& 0x1000#16) .eos
  | 5 => .instr (.lsi (h.getLsbD 12))
  | 6 => .instr (.lbsi (h.getLsbD 12))
  | 7 => .instr (.ldsi (h.getLsbD 12))
  | 8 => .instr (.lhsi (h.getLsbD 12))
  | 9 => .instr (.int (h.getLsbD 12))
  | 10 => ifZero (h &&& 0x1000#16) .gtsp
  | 11 => .instr (.muc (h.getLsbD 12))
  | 12 => ifZero (h &&& 0x1000#16) .xgds
  | 13 => ifZero (h &&& 0x1000#16) .psdb
  | 14 => ifZero (h &&& 0x1000#16) .disp
  | 15 => ifZero (h &&& 0x1000#16) .pseb
  | 21 => .instr (.ssi (h.getLsbD 12))
  | 22 => .instr (.sbsi (h.getLsbD 12))
  | 23 => .instr (.sdsi (h.getLsbD 12))
  | 24 => .instr (.shsi (h.getLsbD 12))
  | 25 => ifZero (h &&& 0x1000#16) .rcs
  | 31 => .instr (.brsi (h.getLsbD 12))
  | 32 => .instr (.tryMark (h.getLsbD 12))
  | 33 => .instr (.escp (h.getLsbD 12))
  | 34 => .instr (.alm (h.getLsbD 12))
  | 35 => ifZero (h &&& 0x1000#16) .cci
  | 36 => ifZero (h &&& 0x1000#16) .eop
  | 39 => .instr (.plba (h.getLsbD 12))
  | 40 => .instr (.psba (h.getLsbD 12))
  | 41 => .instr (.plha (h.getLsbD 12))
  | 42 => .instr (.psha (h.getLsbD 12))
  | 43 => ifZero (h &&& 0x1000#16) .pot
  | 44 => .instr (.cnto (h.getLsbD 12))
  | 45 => .instr (.flmo (h.getLsbD 12))
  | 46 => .instr (.rfc (h.getLsbD 12))
  | 47 => .instr (.wtc (h.getLsbD 12))
  | 48 => .instr (.smsg (h.getLsbD 12))
  | 50 => ifZero (h &&& 0x1000#16) .rsc
  | 51 => .instr (.psla (h.getLsbD 12))
  | 52 => .instr (.plda (h.getLsbD 12))
  | 53 => .instr (.psta (h.getLsbD 12))
  | 54 => .instr (.cpaa (h.getLsbD 12))
  | 55 => .instr (.cpep (h.getLsbD 12))
  | 56 => .instr (.cptr (h.getLsbD 12))
  | 57 => .instr (.vptr (h.getLsbD 12))
  | 58 => ifZero (h &&& 0x1000#16) .lins
  | 59 => ifZero (h &&& 0x1000#16) .ldel
  | 60 => ifZero (h &&& 0x1000#16) .ixit
  | 62 => .instr (.wait (h.getLsbD 12))
  | 63 => .instr (.stop (h.getLsbD 12))
  | _ => .unimplemented

/-- Formats 2, 3 and 4: OP1 = 0, OP2 in bits 4-9 (R162 to R164, R174). A branch has two OP2 values, the second (+4)
for a negative displacement. -/
def decodeFormat2 (h : BitVec 16) : Decoded :=
  match (h.extractLsb' 6 6).toNat with
  | 0 => decodeFormat3 h
  | 1 => decodeFormat4 h
  | 2 => .instr (.lsl (h.getLsbD 12) (h.extractLsb' 0 6))
  | 3 => .instr (.lsr (h.getLsbD 12) (h.extractLsb' 0 6))
  | 4 => .instr (.csl (h.getLsbD 12) (h.extractLsb' 0 6))
  | 5 => .instr (.csr (h.getLsbD 12) (h.extractLsb' 0 6))
  | 6 => .instr (.asl (h.getLsbD 12) (h.extractLsb' 0 6))
  | 7 => .instr (.asr (h.getLsbD 12) (h.extractLsb' 0 6))
  | 8 => .instr (.lsxl (h.getLsbD 12) (h.extractLsb' 0 6))
  | 21 => ifZero (h &&& 0x003b#16) (.sld (h.getLsbD 12) (h.getLsbD 2))
  | 22 => ifZero (h &&& 0x002b#16) (.sval (h.getLsbD 12) (h.getLsbD 4) (h.getLsbD 2))
  | 23 => ifZero (h &&& 0x0038#16) (.scon (h.getLsbD 12) (h.getLsbD 2) (h.getLsbD 1) (h.getLsbD 0))
  | 24 => ifZero (h &&& 0x0030#16) (.sas (h.getLsbD 12) (h.getLsbD 3) (h.getLsbD 2) (h.getLsbD 1) (h.getLsbD 0))
  | 25 => ifZero (h &&& 0x1038#16) (.pmpb (h.extractLsb' 0 3))
  | 26 => ifZero (h &&& 0x1038#16) (.smpb (h.extractLsb' 0 3))
  | 27 => ifZero (h &&& 0x003c#16) (.srm (h.getLsbD 12) (h.extractLsb' 0 2))
  | 28 => .instr (.pshr (h.getLsbD 12) (h.extractLsb' 0 6))
  | 29 => ifZero (h &&& 0x1000#16) (.setr (h.extractLsb' 0 6))
  | 30 => ifZero (h &&& 0x1038#16) (.llsh (h.extractLsb' 0 3))
  | 31 => ifZero (h &&& 0x1038#16) (.tcc (h.extractLsb' 0 3))
  | 32 => .instr (.bir (h.getLsbD 12) (h.getLsbD 8) (h.extractLsb' 0 6))
  | 33 => .instr (.bun (h.getLsbD 12) (h.getLsbD 8) (h.extractLsb' 0 6))
  | 36 => .instr (.bir (h.getLsbD 12) (h.getLsbD 8) (h.extractLsb' 0 6))
  | 37 => .instr (.bun (h.getLsbD 12) (h.getLsbD 8) (h.extractLsb' 0 6))
  | 40 => ifZero (h &&& 0x003c#16) (.pmva (h.getLsbD 12) (h.extractLsb' 0 2))
  | 41 => ifZero (h &&& 0x0038#16) (.mvb (h.getLsbD 12) (h.getLsbD 2) (h.extractLsb' 0 2))
  | 42 => ifZero (h &&& 0x0038#16) (.scw (h.getLsbD 12) (h.getLsbD 2) (h.extractLsb' 0 2))
  | 43 => ifZero (h &&& 0x0038#16) (.scu (h.getLsbD 12) (h.getLsbD 2) (h.extractLsb' 0 2))
  | 44 => ifZero (h &&& 0x0038#16) (.cmpb (h.getLsbD 12) (h.getLsbD 2) (h.extractLsb' 0 2))
  | 46 => ifZero (h &&& 0x0038#16) (.tran (h.getLsbD 12) (h.getLsbD 2) (h.extractLsb' 0 2))
  | 47 => ifZero (h &&& 0x103c#16) (.filb (h.extractLsb' 0 2))
  | 48 => .instr (.bcy (h.getLsbD 12) (h.getLsbD 8) (h.extractLsb' 0 6))
  | 49 => .instr (.bnc (h.getLsbD 12) (h.getLsbD 8) (h.extractLsb' 0 6))
  | 50 => .instr (.bov (h.getLsbD 12) (h.getLsbD 8) (h.extractLsb' 0 6))
  | 51 => .instr (.bno (h.getLsbD 12) (h.getLsbD 8) (h.extractLsb' 0 6))
  | 52 => .instr (.bcy (h.getLsbD 12) (h.getLsbD 8) (h.extractLsb' 0 6))
  | 53 => .instr (.bnc (h.getLsbD 12) (h.getLsbD 8) (h.extractLsb' 0 6))
  | 54 => .instr (.bov (h.getLsbD 12) (h.getLsbD 8) (h.extractLsb' 0 6))
  | 55 => .instr (.bno (h.getLsbD 12) (h.getLsbD 8) (h.extractLsb' 0 6))
  | 56 => .instr (.brz (h.getLsbD 12) (h.getLsbD 8) (h.extractLsb' 0 6))
  | 57 => .instr (.bre (h.getLsbD 12) (h.getLsbD 8) (h.extractLsb' 0 6))
  | 58 => .instr (.bro (h.getLsbD 12) (h.getLsbD 8) (h.extractLsb' 0 6))
  | 59 => .instr (.crb (h.getLsbD 12) (h.getLsbD 8) (h.extractLsb' 0 6))
  | 60 => .instr (.brz (h.getLsbD 12) (h.getLsbD 8) (h.extractLsb' 0 6))
  | 61 => .instr (.bre (h.getLsbD 12) (h.getLsbD 8) (h.extractLsb' 0 6))
  | 62 => .instr (.bro (h.getLsbD 12) (h.getLsbD 8) (h.extractLsb' 0 6))
  | 63 => .instr (.crb (h.getLsbD 12) (h.getLsbD 8) (h.extractLsb' 0 6))
  | _ => .unimplemented

/-- Format 5: OP1 = 1, OP2 in bits 3-7 (R165, R173). -/
def decodeFormat5 (h : BitVec 16) : Decoded :=
  match (h.extractLsb' 8 5).toNat with
  | 0 => .instr (.sol (h.extractLsb' 0 8))
  | 1 => .instr (.sop (h.extractLsb' 0 8))
  | 2 => .instr (.cmpn (h.extractLsb' 0 8))
  | 3 => .instr (.cmpi (h.extractLsb' 0 8))
  | 4 => .instr (.addi (h.extractLsb' 0 8))
  | 5 => .instr (.subi (h.extractLsb' 0 8))
  | 6 => .instr (.mpyi (h.extractLsb' 0 8))
  | 7 => .instr (.divi (h.extractLsb' 0 8))
  | 10 => .instr (.ldxi (h.extractLsb' 0 8))
  | 11 => .instr (.ldxn (h.extractLsb' 0 8))
  | 12 => .instr (.ldis (h.extractLsb' 0 8))
  | 13 => .instr (.lnis (h.extractLsb' 0 8))
  | 14 => .instr (.sos (h.extractLsb' 0 8))
  | 15 => .instr (.iow (h.extractLsb' 0 8))
  | 16 => .instr (.ior (h.extractLsb' 0 8))
  | 17 => .instr (.ioc (h.extractLsb' 0 8))
  | 18 => .instr (.pcls (h.extractLsb' 0 8))
  | 19 => .instr (.exit (h.extractLsb' 0 8))
  | 20 => .instr (.sxit (h.extractLsb' 0 8))
  | 21 => .instr (.lias (h.extractLsb' 6 2) (h.extractLsb' 0 6))
  | 22 => .instr (.adxi (h.extractLsb' 0 8))
  | 23 => .instr (.sbxi (h.extractLsb' 0 8))
  | 25 => .instr (.solc (h.extractLsb' 0 8))
  | 26 => .instr (.adds (h.extractLsb' 0 8))
  | 27 => .instr (.subs (h.extractLsb' 0 8))
  | 28 => .instr (.lpps (h.extractLsb' 0 8))
  | 29 => .instr (.ori (h.extractLsb' 0 8))
  | 30 => .instr (.xori (h.extractLsb' 0 8))
  | 31 => .instr (.andi (h.extractLsb' 0 8))
  | _ => .unimplemented

/-- A 16-bit instruction: OP1 in bits 0-2 (R169, R171). -/
def decode16 (h : BitVec 16) : Decoded :=
  match (h.extractLsb' 13 3).toNat with
  | 0 => decodeFormat2 h
  | 1 => decodeFormat5 h
  | 2 => .instr (.lds (h.getLsbD 12) (h.getLsbD 11) (Base.ofCode (h.extractLsb' 8 3)) (h.extractLsb' 0 8))
  | 3 => .instr (.lras (h.getLsbD 12) (h.getLsbD 11) (Base.ofCode (h.extractLsb' 8 3)) (h.extractLsb' 0 8))
  | 4 => .instr (.ldds (h.getLsbD 12) (h.getLsbD 11) (Base.ofCode (h.extractLsb' 8 3)) (h.extractLsb' 0 8))
  | 5 => .instr (.sts (h.getLsbD 12) (h.getLsbD 11) (Base.ofCode (h.extractLsb' 8 3)) (h.extractLsb' 0 8))
  | 6 => .instr (.bccs (h.getLsbD 12) (h.extractLsb' 9 3) (h.getLsbD 8) (h.extractLsb' 0 8))
  | _ => .unimplemented

/-- A 32-bit instruction, format 6: OP2 in bits 3-7 (R166, R172). -/
def decode32 (w : BitVec 32) : Decoded :=
  match (w.extractLsb' 24 5).toNat with
  | 0 => ifZero (w &&& 0x003ffc00#32) (.exf (w.getLsbD 23) (w.getLsbD 22) (w.extractLsb' 5 5) (w.extractLsb' 0 5))
  | 1 => ifZero (w &&& 0x00bffc00#32) (.dpf (w.getLsbD 22) (w.extractLsb' 5 5) (w.extractLsb' 0 5))
  | 2 => .instr (.chek (w.extractLsb' 19 5) (w.extractLsb' 0 19))
  | 3 => ifZero (w &&& 0x00f80000#32) (.pcl (w.extractLsb' 0 19))
  | 4 => ifZero (w &&& 0x00f80000#32) (.lpp (w.extractLsb' 0 19))
  | 5 => .instr (.lia (w.extractLsb' 20 4) (w.getLsbD 19) (w.extractLsb' 0 19))
  | 6 => .instr (.ldi (w.extractLsb' 0 24))
  | 7 => .instr (.lni (w.extractLsb' 0 24))
  | 8 => .instr (.ld (w.getLsbD 23) (w.getLsbD 22) (Base.ofCode (w.extractLsb' 19 3)) (w.extractLsb' 0 19))
  | 11 => .instr (.st (w.getLsbD 23) (w.getLsbD 22) (Base.ofCode (w.extractLsb' 19 3)) (w.extractLsb' 0 19))
  | 12 => .instr (.ldb (w.getLsbD 23) (w.getLsbD 22) (Base.ofCode (w.extractLsb' 19 3)) (w.extractLsb' 0 19))
  | 13 => .instr (.cmpm (w.getLsbD 23) (w.getLsbD 22) (Base.ofCode (w.extractLsb' 19 3)) (w.extractLsb' 0 19))
  | 16 => .instr (.ldd (w.getLsbD 23) (w.getLsbD 22) (Base.ofCode (w.extractLsb' 19 3)) (w.extractLsb' 0 19))
  | 18 => .instr (.ldh (w.getLsbD 23) (w.getLsbD 22) (Base.ofCode (w.extractLsb' 19 3)) (w.extractLsb' 0 19))
  | 19 => .instr (.decm (w.getLsbD 23) (w.getLsbD 22) (Base.ofCode (w.extractLsb' 19 3)) (w.extractLsb' 0 19))
  | 20 => .instr (.incm (w.getLsbD 23) (w.getLsbD 22) (Base.ofCode (w.extractLsb' 19 3)) (w.extractLsb' 0 19))
  | 21 => .instr (.sth (w.getLsbD 23) (w.getLsbD 22) (Base.ofCode (w.extractLsb' 19 3)) (w.extractLsb' 0 19))
  | 22 => .instr (.ldx (w.getLsbD 23) (w.getLsbD 22) (Base.ofCode (w.extractLsb' 19 3)) (w.extractLsb' 0 19))
  | 23 => .instr (.incf (w.getLsbD 23) (w.getLsbD 22) (Base.ofCode (w.extractLsb' 19 3)) (w.extractLsb' 0 19))
  | 24 => .instr (.br (w.getLsbD 23) (w.getLsbD 22) (Base.ofCode (w.extractLsb' 19 3)) (w.extractLsb' 0 19))
  | 25 => .instr (.bcc (w.getLsbD 23) (w.extractLsb' 20 3) (w.getLsbD 19) (w.extractLsb' 0 19))
  | 26 => .instr (.decf (w.getLsbD 23) (w.getLsbD 22) (Base.ofCode (w.extractLsb' 19 3)) (w.extractLsb' 0 19))
  | 27 => .instr (.seml (w.getLsbD 23) (w.getLsbD 22) (Base.ofCode (w.extractLsb' 19 3)) (w.extractLsb' 0 19))
  | 28 => .instr (.stb (w.getLsbD 23) (w.getLsbD 22) (Base.ofCode (w.extractLsb' 19 3)) (w.extractLsb' 0 19))
  | 29 => .instr (.std (w.getLsbD 23) (w.getLsbD 22) (Base.ofCode (w.extractLsb' 19 3)) (w.extractLsb' 0 19))
  | 30 => .instr (.lra (w.getLsbD 23) (w.getLsbD 22) (Base.ofCode (w.extractLsb' 19 3)) (w.extractLsb' 0 19))
  | _ => .unimplemented

/-- Decoding the Current Instruction register: OP1 = 7 in the left halfword means a 32-bit instruction; a 16-bit
instruction stands right justified with a zero left halfword (R160, R167, R169). -/
def decodeCir (cir : Word) : Decoded :=
  if cir.extractLsb' 29 3 = 7#3 then decode32 cir else decode16 (cir.extractLsb' 0 16)

/-- Length in bytes of an instruction whose first halfword is `h` (R160). -/
def ilenOf (h : Half) : Nat := if h.extractLsb' 13 3 = 7#3 then 4 else 2

/-- The CIR value of the instruction whose bytes, lowest address first, begin the list (R80, R168). -/
def cirOfBytes : List Byte → Option Word
  | b0 :: b1 :: rest =>
    let h : Half := b0 ++ b1
    if ilenOf h = 4 then
      match rest with
      | b2 :: b3 :: _ => some ((b0 ++ b1) ++ (b2 ++ b3))
      | _ => none
    else some (h.setWidth 32)
  | _ => none

/-- The decoder on bytes, lowest address first. -/
def decodeBytes (bs : List Byte) : Decoded :=
  match cirOfBytes bs with
  | some c => decodeCir c
  | none => .truncated

/-- The four bytes of a word, lowest address first (R80). -/
def wordBytes (w : Word) : List Byte :=
  [w.extractLsb' 24 8, w.extractLsb' 16 8, w.extractLsb' 8 8, w.extractLsb' 0 8]

/-- An instruction numbered as the opcode table numbers it, as the word that lies at its address: a 16-bit instruction
is the left halfword, the rest zero. -/
def tableWord (nbits w : Nat) : Word :=
  if nbits ≤ 16 then BitVec.ofNat 32 (w * 65536) else BitVec.ofNat 32 w

/-- The instruction the decoder reads from a table word of `nbits` bits. -/
def decodeTableWord (nbits w : Nat) : Option Instr :=
  match decodeBytes (wordBytes (tableWord nbits w)) with
  | .instr i => some i
  | _ => none

/-! The encoder: `encode i` is the CIR value of `i`. -/

/-- Length in bytes of an instruction (R160): 4 for format 6, 2 otherwise. -/
def Instr.ilen : Instr → Nat
  | .exf .. => 4
  | .dpf .. => 4
  | .chek .. => 4
  | .pcl .. => 4
  | .lpp .. => 4
  | .lia .. => 4
  | .ldi .. => 4
  | .lni .. => 4
  | .ld .. => 4
  | .st .. => 4
  | .ldb .. => 4
  | .cmpm .. => 4
  | .ldd .. => 4
  | .ldh .. => 4
  | .decm .. => 4
  | .incm .. => 4
  | .sth .. => 4
  | .ldx .. => 4
  | .incf .. => 4
  | .br .. => 4
  | .bcc .. => 4
  | .decf .. => 4
  | .seml .. => 4
  | .stb .. => 4
  | .std .. => 4
  | .lra .. => 4
  | _ => 2

/-- A one-bit field. -/
def flagBit (b : Bool) : BitVec 1 := BitVec.ofBool b

/-- The halfword of a 16-bit instruction (R161 to R165, R171, R173 to R176); 0 for a format-6 instruction. -/
def encode16 : Instr → BitVec 16
  | .lds i x base off => 2#3 ++ flagBit i ++ flagBit x ++ base.code ++ off
  | .lras i x base off => 3#3 ++ flagBit i ++ flagBit x ++ base.code ++ off
  | .ldds i x base off => 4#3 ++ flagBit i ++ flagBit x ++ base.code ++ off
  | .sts i x base off => 5#3 ++ flagBit i ++ flagBit x ++ base.code ++ off
  | .bccs i ccf sign off => 6#3 ++ flagBit i ++ ccf ++ flagBit sign ++ off
  | .sol n => 32#8 ++ n
  | .sop n => 33#8 ++ n
  | .cmpn n => 34#8 ++ n
  | .cmpi n => 35#8 ++ n
  | .addi n => 36#8 ++ n
  | .subi n => 37#8 ++ n
  | .mpyi n => 38#8 ++ n
  | .divi n => 39#8 ++ n
  | .ldxi n => 42#8 ++ n
  | .ldxn n => 43#8 ++ n
  | .ldis n => 44#8 ++ n
  | .lnis n => 45#8 ++ n
  | .sos n => 46#8 ++ n
  | .iow n => 47#8 ++ n
  | .ior n => 48#8 ++ n
  | .ioc n => 49#8 ++ n
  | .pcls n => 50#8 ++ n
  | .exit n => 51#8 ++ n
  | .sxit n => 52#8 ++ n
  | .lias level off => 53#8 ++ level ++ off
  | .adxi n => 54#8 ++ n
  | .sbxi n => 55#8 ++ n
  | .solc n => 57#8 ++ n
  | .adds n => 58#8 ++ n
  | .subs n => 59#8 ++ n
  | .lpps n => 60#8 ++ n
  | .ori n => 61#8 ++ n
  | .xori n => 62#8 ++ n
  | .andi n => 63#8 ++ n
  | .lsl x cnt => 0#3 ++ flagBit x ++ 2#6 ++ cnt
  | .lsr x cnt => 0#3 ++ flagBit x ++ 3#6 ++ cnt
  | .csl x cnt => 0#3 ++ flagBit x ++ 4#6 ++ cnt
  | .csr x cnt => 0#3 ++ flagBit x ++ 5#6 ++ cnt
  | .asl x cnt => 0#3 ++ flagBit x ++ 6#6 ++ cnt
  | .asr x cnt => 0#3 ++ flagBit x ++ 7#6 ++ cnt
  | .lsxl x cnt => 0#3 ++ flagBit x ++ 8#6 ++ cnt
  | .sld negLen ptrType => 0#3 ++ flagBit negLen ++ 168#9 ++ flagBit ptrType ++ 0#2
  | .sval negLen retLen ptrType => 0#3 ++ flagBit negLen ++ 44#7 ++ flagBit retLen ++ 0#1 ++ flagBit ptrType ++ 0#2
  | .scon negLen ptrType tNegLen srcTemp => 0#3 ++ flagBit negLen ++ 184#9 ++ flagBit ptrType ++ flagBit tNegLen ++ flagBit srcTemp
  | .sas negLen fill ptrType tNegLen srcTemp => 0#3 ++ flagBit negLen ++ 96#8 ++ flagBit fill ++ flagBit ptrType ++ flagBit tNegLen ++ flagBit srcTemp
  | .pmpb sel => 200#13 ++ sel
  | .smpb sel => 208#13 ++ sel
  | .srm src mode => 0#3 ++ flagBit src ++ 432#10 ++ mode
  | .pshr block sel => 0#3 ++ flagBit block ++ 28#6 ++ sel
  | .setr sel => 29#10 ++ sel
  | .llsh ccf => 240#13 ++ ccf
  | .tcc ccf => 248#13 ++ ccf
  | .bir i sign off => 0#3 ++ flagBit i ++ 4#3 ++ flagBit sign ++ 0#2 ++ off
  | .bun i sign off => 0#3 ++ flagBit i ++ 4#3 ++ flagBit sign ++ 1#2 ++ off
  | .pmva d sdec => 0#3 ++ flagBit d ++ 640#10 ++ sdec
  | .mvb d ptrType sdec => 0#3 ++ flagBit d ++ 328#9 ++ flagBit ptrType ++ sdec
  | .scw d ptrType sdec => 0#3 ++ flagBit d ++ 336#9 ++ flagBit ptrType ++ sdec
  | .scu d ptrType sdec => 0#3 ++ flagBit d ++ 344#9 ++ flagBit ptrType ++ sdec
  | .cmpb d ptrType sdec => 0#3 ++ flagBit d ++ 352#9 ++ flagBit ptrType ++ sdec
  | .tran d ptrType sdec => 0#3 ++ flagBit d ++ 368#9 ++ flagBit ptrType ++ sdec
  | .filb sdec => 752#14 ++ sdec
  | .bcy i sign off => 0#3 ++ flagBit i ++ 6#3 ++ flagBit sign ++ 0#2 ++ off
  | .bnc i sign off => 0#3 ++ flagBit i ++ 6#3 ++ flagBit sign ++ 1#2 ++ off
  | .bov i sign off => 0#3 ++ flagBit i ++ 6#3 ++ flagBit sign ++ 2#2 ++ off
  | .bno i sign off => 0#3 ++ flagBit i ++ 6#3 ++ flagBit sign ++ 3#2 ++ off
  | .brz i sign off => 0#3 ++ flagBit i ++ 7#3 ++ flagBit sign ++ 0#2 ++ off
  | .bre i sign off => 0#3 ++ flagBit i ++ 7#3 ++ flagBit sign ++ 1#2 ++ off
  | .bro i sign off => 0#3 ++ flagBit i ++ 7#3 ++ flagBit sign ++ 2#2 ++ off
  | .crb i sign off => 0#3 ++ flagBit i ++ 7#3 ++ flagBit sign ++ 3#2 ++ off
  | .nop => 0#16
  | .del => 32#16
  | .delb => 1#16
  | .fixd b3 => 0#3 ++ flagBit b3 ++ 33#12
  | .ddel => 2#16
  | .fltd => 34#16
  | .ftst b3 => 0#3 ++ flagBit b3 ++ 3#12
  | .stax b3 => 0#3 ++ flagBit b3 ++ 35#12
  | .ftss b3 => 0#3 ++ flagBit b3 ++ 4#12
  | .ldxa => 36#16
  | .pshn b3 => 0#3 ++ flagBit b3 ++ 5#12
  | .dup => 37#16
  | .zero => 6#16
  | .ddup => 38#16
  | .dzro => 7#16
  | .fcmp b3 => 0#3 ++ flagBit b3 ++ 40#12
  | .dlad b3 => 0#3 ++ flagBit b3 ++ 9#12
  | .fadd => 41#16
  | .dlsb b3 => 0#3 ++ flagBit b3 ++ 10#12
  | .fsub => 42#16
  | .dxch => 14#16
  | .fmpy => 43#16
  | .cmp b3 => 0#3 ++ flagBit b3 ++ 15#12
  | .fdiv => 44#16
  | .add b3 => 0#3 ++ flagBit b3 ++ 16#12
  | .fneg => 45#16
  | .sub b3 => 0#3 ++ flagBit b3 ++ 17#12
  | .cab => 46#16
  | .mpy b3 => 0#3 ++ flagBit b3 ++ 18#12
  | .lcmp b3 => 0#3 ++ flagBit b3 ++ 47#12
  | .div b3 => 0#3 ++ flagBit b3 ++ 19#12
  | .ladd b3 => 0#3 ++ flagBit b3 ++ 48#12
  | .neg => 20#16
  | .lsub b3 => 0#3 ++ flagBit b3 ++ 49#12
  | .test b3 => 0#3 ++ flagBit b3 ++ 21#12
  | .lmpy => 50#16
  | .tstd b3 => 0#3 ++ flagBit b3 ++ 22#12
  | .not => 52#16
  | .tstb b3 => 0#3 ++ flagBit b3 ++ 23#12
  | .or => 53#16
  | .cdsf => 24#16
  | .xor => 54#16
  | .csdf => 25#16
  | .and => 55#16
  | .xch => 26#16
  | .flts => 56#16
  | .divs b3 => 0#3 ++ flagBit b3 ++ 27#12
  | .fixs b3 => 0#3 ++ flagBit b3 ++ 57#12
  | .isc => 28#16
  | .fads => 58#16
  | .xax => 29#16
  | .fsbs => 59#16
  | .adax b3 => 0#3 ++ flagBit b3 ++ 30#12
  | .fmps => 60#16
  | .adxa => 31#16
  | .fdvs => 61#16
  | .fngs => 62#16
  | .fcps b3 => 0#3 ++ flagBit b3 ++ 63#12
  | .dtb b3 => 0#3 ++ flagBit b3 ++ 64#12
  | .tryMark b3 => 0#3 ++ flagBit b3 ++ 96#12
  | .btd b3 => 0#3 ++ flagBit b3 ++ 65#12
  | .escp b3 => 0#3 ++ flagBit b3 ++ 97#12
  | .lbit b3 => 0#3 ++ flagBit b3 ++ 66#12
  | .alm b3 => 0#3 ++ flagBit b3 ++ 98#12
  | .sbit b3 => 0#3 ++ flagBit b3 ++ 67#12
  | .cci => 99#16
  | .eos => 68#16
  | .eop => 100#16
  | .lsi b3 => 0#3 ++ flagBit b3 ++ 69#12
  | .plba b3 => 0#3 ++ flagBit b3 ++ 103#12
  | .lbsi b3 => 0#3 ++ flagBit b3 ++ 70#12
  | .psba b3 => 0#3 ++ flagBit b3 ++ 104#12
  | .ldsi b3 => 0#3 ++ flagBit b3 ++ 71#12
  | .plha b3 => 0#3 ++ flagBit b3 ++ 105#12
  | .lhsi b3 => 0#3 ++ flagBit b3 ++ 72#12
  | .psha b3 => 0#3 ++ flagBit b3 ++ 106#12
  | .int b3 => 0#3 ++ flagBit b3 ++ 73#12
  | .pot => 107#16
  | .gtsp => 74#16
  | .cnto b3 => 0#3 ++ flagBit b3 ++ 108#12
  | .muc b3 => 0#3 ++ flagBit b3 ++ 75#12
  | .flmo b3 => 0#3 ++ flagBit b3 ++ 109#12
  | .xgds => 76#16
  | .rfc b3 => 0#3 ++ flagBit b3 ++ 110#12
  | .psdb => 77#16
  | .wtc b3 => 0#3 ++ flagBit b3 ++ 111#12
  | .disp => 78#16
  | .smsg b3 => 0#3 ++ flagBit b3 ++ 112#12
  | .pseb => 79#16
  | .rsc => 114#16
  | .ssi b3 => 0#3 ++ flagBit b3 ++ 85#12
  | .psla b3 => 0#3 ++ flagBit b3 ++ 115#12
  | .sbsi b3 => 0#3 ++ flagBit b3 ++ 86#12
  | .plda b3 => 0#3 ++ flagBit b3 ++ 116#12
  | .sdsi b3 => 0#3 ++ flagBit b3 ++ 87#12
  | .psta b3 => 0#3 ++ flagBit b3 ++ 117#12
  | .shsi b3 => 0#3 ++ flagBit b3 ++ 88#12
  | .cpaa b3 => 0#3 ++ flagBit b3 ++ 118#12
  | .rcs => 89#16
  | .cpep b3 => 0#3 ++ flagBit b3 ++ 119#12
  | .brsi b3 => 0#3 ++ flagBit b3 ++ 95#12
  | .cptr b3 => 0#3 ++ flagBit b3 ++ 120#12
  | .vptr b3 => 0#3 ++ flagBit b3 ++ 121#12
  | .lins => 122#16
  | .ldel => 123#16
  | .ixit => 124#16
  | .wait b3 => 0#3 ++ flagBit b3 ++ 126#12
  | .stop b3 => 0#3 ++ flagBit b3 ++ 127#12
  | _ => 0

/-- The word of a format-6 instruction (R166, R172); 0 for a 16-bit instruction. -/
def encode32 : Instr → BitVec 32
  | .exf e x k j => 224#8 ++ flagBit e ++ flagBit x ++ 0#12 ++ k ++ j
  | .dpf x k j => 450#9 ++ flagBit x ++ 0#12 ++ k ++ j
  | .chek lo hi => 226#8 ++ lo ++ hi
  | .pcl off => 7264#13 ++ off
  | .lpp off => 7296#13 ++ off
  | .lia level sign off => 229#8 ++ level ++ flagBit sign ++ off
  | .ldi imm => 230#8 ++ imm
  | .lni imm => 231#8 ++ imm
  | .ld i x base off => 232#8 ++ flagBit i ++ flagBit x ++ base.code ++ off
  | .st i x base off => 235#8 ++ flagBit i ++ flagBit x ++ base.code ++ off
  | .ldb i x base off => 236#8 ++ flagBit i ++ flagBit x ++ base.code ++ off
  | .cmpm i x base off => 237#8 ++ flagBit i ++ flagBit x ++ base.code ++ off
  | .ldd i x base off => 240#8 ++ flagBit i ++ flagBit x ++ base.code ++ off
  | .ldh i x base off => 242#8 ++ flagBit i ++ flagBit x ++ base.code ++ off
  | .decm i x base off => 243#8 ++ flagBit i ++ flagBit x ++ base.code ++ off
  | .incm i x base off => 244#8 ++ flagBit i ++ flagBit x ++ base.code ++ off
  | .sth i x base off => 245#8 ++ flagBit i ++ flagBit x ++ base.code ++ off
  | .ldx i x base off => 246#8 ++ flagBit i ++ flagBit x ++ base.code ++ off
  | .incf i x base off => 247#8 ++ flagBit i ++ flagBit x ++ base.code ++ off
  | .br i x base off => 248#8 ++ flagBit i ++ flagBit x ++ base.code ++ off
  | .bcc i ccf sign off => 249#8 ++ flagBit i ++ ccf ++ flagBit sign ++ off
  | .decf i x base off => 250#8 ++ flagBit i ++ flagBit x ++ base.code ++ off
  | .seml i x base off => 251#8 ++ flagBit i ++ flagBit x ++ base.code ++ off
  | .stb i x base off => 252#8 ++ flagBit i ++ flagBit x ++ base.code ++ off
  | .std i x base off => 253#8 ++ flagBit i ++ flagBit x ++ base.code ++ off
  | .lra i x base off => 254#8 ++ flagBit i ++ flagBit x ++ base.code ++ off
  | _ => 0

/-- The CIR value of an instruction (R167). -/
def encode (i : Instr) : Word :=
  if i.ilen = 4 then encode32 i else (encode16 i).setWidth 32

/-- The bytes of an instruction, lowest address first (R80). -/
def encodeBytes (i : Instr) : List Byte :=
  if i.ilen = 4 then wordBytes (encode32 i)
  else [(encode16 i).extractLsb' 8 8, (encode16 i).extractLsb' 0 8]

end Sys2Proof
end

