-- ==== Sys2Proof/Machine/Fields.lean ====
section
/-! DEFINITION. Bit fields in the spec's numbering (spec/00_scope.md rule R7: bit 0 is the most significant), sign
extension and the join and split of doublewords. -/

namespace Sys2Proof.Machine

/-- `v(n:m)`: the m-bit field of v that starts at bit n, bit 0 the most significant (R7). -/
def field {w : Nat} (v : BitVec w) (n m : Nat) : BitVec m := v.extractLsb' (w - n - m) m

/-- `v(n:1)` as a Bool (R7). -/
def bit {w : Nat} (v : BitVec w) (n : Nat) : Bool := v.getLsbD (w - n - 1)

/-- The word whose field (n:m) is all ones and every other bit 0. -/
def fieldMask (w n m : Nat) : BitVec w := (BitVec.allOnes m).setWidth w <<< (w - n - m)

/-- `v(n:m) <- e`: exactly those m bits are replaced (R7). -/
def setField {w : Nat} (v : BitVec w) (n m : Nat) (e : BitVec m) : BitVec w :=
  (v &&& ~~~ fieldMask w n m) ||| (e.setWidth w <<< (w - n - m))

/-- `v(n:1) <- b`. -/
def setBit {w : Nat} (v : BitVec w) (n : Nat) (b : Bool) : BitVec w := setField v n 1 (BitVec.ofBool b)

/-- Drop the two low address bits (R82). -/
def wordAlign (a : Word) : Word := a &&& 0xFFFFFFFC#32

/-- Drop the low address bit (R82, D4). -/
def halfAlign (a : Word) : Word := a &&& 0xFFFFFFFE#32

/-- Sign extension of a halfword (R209). -/
def sext16 (h : Half) : Word := h.signExtend 32

/-- The doubleword whose first (more significant) word is `hi` (R7, R11). -/
def dword (hi lo : Word) : DWord := hi ++ lo

/-- The first word of a doubleword. -/
def hiWord (d : DWord) : Word := d.extractLsb' 32 32

/-- The second word of a doubleword. -/
def loWord (d : DWord) : Word := d.extractLsb' 0 32

/-- The word that an unbounded integer leaves modulo 2^32 (R320). -/
def wordOf (i : Int) : Word := BitVec.ofInt 32 i

end Sys2Proof.Machine
end

