-- ==== Sys2Proof/Config.lean ====
section
/-! DEFINITION. The implementation parameters of spec/00_scope.md rule R6 as plain data (a State carries them and no
step changes them, so a statement about every state ranges over every parameter value), and the model's free values:
opaque constants without a body. -/

namespace Sys2Proof

/-- CPU_REV (R6, R720): `le33` the chips of Nov. 2 1981 and earlier, `r40` those of Mar. 19 1982, `fixed` the ERS
body. -/
inductive CpuRev where
  | le33 | r40 | fixed
  deriving DecidableEq, Repr

/-- The four STATUS bits whose use the lost figure would give (R31): 8, 10, 15, 18. -/
inductive SpareBit where
  | b8 | b10 | b15 | b18
  deriving DecidableEq, Repr

/-- A STATUS bit number, bit 0 the most significant (R31). -/
def SpareBit.pos : SpareBit → Nat
  | .b8 => 8
  | .b10 => 10
  | .b15 => 15
  | .b18 => 18

/-- A run of absolute byte addresses that hold no memory: the complement of MEM_MAP (R84). -/
structure Hole where
  lo : Nat
  len : Nat
  deriving DecidableEq, Repr

/-- One entry of POT's power table (R425, entry U11): 10^n is approximately `a / b`. -/
structure PowerEntry where
  n : Int
  a : DWord
  b : DWord
  deriving DecidableEq, Repr

/-- The parameters of R6. `powers` overrides the default power pairs of R425; `guessHigh` lists the doubles for which
BTD's ExponentGuess is one too high (R424, entry U10). -/
structure Config where
  rev : CpuRev
  tBit : SpareBit
  miBit : SpareBit
  level0Highest : Bool
  pshrBlockFirst : Bool
  wrapSingle : Nat
  wrapDouble : Nat
  holes : List Hole
  numCpus : Nat
  powers : List PowerEntry
  guessHigh : List DWord
  deriving DecidableEq, Repr

/-- Every parameter at its default of R6. DESIGN CHOICE, unsafe: entry 1. -/
def Config.default : Config :=
  { rev := .fixed, tBit := .b8, miBit := .b18, level0Highest := true, pshrBlockFirst := false,
    wrapSingle := 192, wrapDouble := 1536, holes := [], numCpus := 1, powers := [], guessHigh := [] }

/-- The n-th free word: a value the spec leaves open ("any value", spec/93_implementation_defined.md). It has no body,
so no proof can know it. DESIGN CHOICE, safe: entry 12 of the log. -/
opaque Config.freeWord : Nat → Word

/-- CONTROL_STORE (R6, R55): 38 bits at each of the 2^14 control store addresses, contents not in the sources.
DESIGN CHOICE, safe: entry 25. -/
opaque Config.controlStore : BitVec 14 → BitVec 38

end Sys2Proof
end

