-- ==== Sys2Proof/Machine/Memory.lean ====
section
/-! DEFINITION. Memory: the 29-bit absolute byte address space of spec/20_memory.md (R80, R81) as a list of
(address, byte) pairs in one canonical form. -/

namespace Sys2Proof.Machine

/-- The number of byte addresses (R81). -/
def addressSpace : Nat := 2 ^ 29

/-- The listed bytes, addresses strictly rising, none equal to what its address reads as unlisted. -/
abbrev Memory := List Host.Cell

/-- What an unlisted address reads as: the two words of R70 that the reset leaves at Q + 8 (the saved MASK, 0x04000000) and
at Q + 12 (0x80020001), where State.reset has Q, and 0 elsewhere. DESIGN CHOICE, unsafe: the spec gives memory no other
reset contents (R701; entries 2 and 3). -/
def Memory.unlisted (a : Nat) : Byte :=
  if a = 0x1108 then 0x04#8
  else if a = 0x110C then 0x80#8
  else if a = 0x110D then 0x02#8
  else if a = 0x110F then 0x01#8
  else 0#8

/-- One byte. -/
def Memory.read : Memory → Nat → Byte
  | [], a => Memory.unlisted a
  | (k, b) :: t, a => if k = a then b else if a < k then Memory.unlisted a else Memory.read t a

/-- Store one byte; storing what the address reads as unlisted removes the entry. -/
def Memory.write : Memory → Nat → Byte → Memory
  | [], a, v => if v = Memory.unlisted a then [] else [(a, v)]
  | (k, b) :: t, a, v =>
    if a < k then (if v = Memory.unlisted a then (k, b) :: t else (a, v) :: (k, b) :: t)
    else if a = k then (if v = Memory.unlisted a then t else (a, v) :: t)
    else (k, b) :: Memory.write t a v

/-- The canonical form from address `lo` up. -/
def Memory.wfFrom : Nat → Memory → Bool
  | _, [] => true
  | lo, (k, b) :: t => decide (lo ≤ k) && decide (k < addressSpace) && (b != Memory.unlisted k) && Memory.wfFrom (k + 1) t

/-- The canonical form: addresses strictly rising and inside the address space, no entry equal to what its address
reads as unlisted. -/
def Memory.wf (m : Memory) : Bool := Memory.wfFrom 0 m

/-- The halfword at byte address a, big endian (R80). -/
def Memory.half (m : Memory) (a : Nat) : Half := m.read a ++ m.read (a + 1)

/-- The word at byte address a, big endian (R80). -/
def Memory.word (m : Memory) (a : Nat) : Word := m.half a ++ m.half (a + 2)

/-- Store a halfword, big endian (R80). -/
def Memory.writeHalf (m : Memory) (a : Nat) (v : Half) : Memory :=
  (m.write a (v.extractLsb' 8 8)).write (a + 1) (v.extractLsb' 0 8)

/-- Store a word, big endian (R80). -/
def Memory.writeWord (m : Memory) (a : Nat) (v : Word) : Memory :=
  (m.writeHalf a (v.extractLsb' 16 16)).writeHalf (a + 2) (v.extractLsb' 0 16)

end Sys2Proof.Machine
end

