-- ==== Sys2Proof/Machine/State.lean ====
section
/-! DEFINITION. The state of the machine (spec/10_state.md), the reasons a step can stop, and the state after reset.
Field names are the spec's register names. -/

namespace Sys2Proof.Machine

/-- Run state (R54, R740). `sleeping` is WAITING inside STOP with the MASK and STATUS that the wake-up restores (R466);
`channelWait` is WTC waiting for MSG bit 12 (R578). -/
inductive RunState where
  | running
  | halted
  | sleeping (mask status : Word)
  | channelWait
  deriving DecidableEq, Repr

/-- What another agent may do (R545, R640). -/
inductive Move where
  /-- The hardware reset signal (R660). -/
  | reset
  /-- Set MSG bits (those of 0-2 and 7-15 that agents set; bits 3-5 stay 0) (R640 (b)). -/
  | setMsg (bits : Word)
  /-- An address-data pair written to the CPU: SAR, SDR, MSG bit 6 (R47). -/
  | slaveWrite (addr data : Word)
  /-- The device with this peripheral address on MPB channel `channel + 1` requests service at priority level `level`
  (R153, R640 (a)). -/
  | interrupt (level : BitVec 4) (channel : Fin 7) (periph : BitVec 3)
  /-- Another MPB master writes one memory byte (R640 (c)). -/
  | writeByte (addr : Word) (value : Byte)
  deriving DecidableEq, Repr

/-- One turn of the environment between two instructions. DESIGN CHOICE, unsafe: entry 7. -/
inductive EnvAction where
  /-- No agent acts: the CPU takes the step. -/
  | pass
  /-- An agent acts. -/
  | move (m : Move)
  /-- Before iteration `k` of the next interruptible instruction these moves are made and the CPU polls (R626). -/
  | pollInside (k : Nat) (moves : List Move)
  deriving DecidableEq, Repr

/-- The answer of the MPB agents to one operation (R545): slave address error, slave data error, no answer to an IOR in
reasonable time, and the data word. -/
structure MpbReply where
  addrErr : Bool
  dataErr : Bool
  timeout : Bool
  data : Word
  deriving DecidableEq, Repr

/-- What the CPU sends on the MPB (R534 to R536, R577, R578, R581), each with the address mode it is sent in: secondary
or primary (R724). -/
inductive MpbRequest where
  | write (channel periph : BitVec 3) (control : BitVec 4) (ioop : Byte) (data : Word) (secondary : Bool)
  | read (channel periph : BitVec 3) (control : BitVec 4) (ioop : Byte) (data : Word) (secondary : Bool)
  | control (channel periph : BitVec 3) (control : BitVec 4) (ioop : Byte) (secondary : Bool)
  | channelRead (addr : BitVec 29) (secondary : Bool)
  | channelWrite (addr : BitVec 29) (data : Word) (secondary : Bool)
  | message (word : BitVec 29) (broadcast secondary : Bool)
  deriving DecidableEq, Repr

/-- A poll scheduled inside the next interruptible instruction, with the moves made just before it (R626). DESIGN
CHOICE: entry 8. -/
structure Poll where
  iteration : Nat
  moves : List Move
  deriving DecidableEq, Repr

/-- The machine. The first eighteen fields are the registers of R20; CIR is R12; the rest is R50 to R54, memory, the
parameters of R6, and the model's own bookkeeping: `freeCtr`, `prevDup`, `inputs`, `mpb`, `sent`, `poll`, and `owned`,
the table entries whose semaphores the CPU holds while it waits for another one, each with the word it will write back
(R140). -/
structure State where
  P : Word
  PB : Word
  PL : Word
  SB : Word
  SL : Word
  S : Word
  Q : Word
  DB : Word
  DL : Word
  X : Word
  STATUS : Word
  FLAGS : Byte
  MSG : Word
  MASK : Word
  BRKPT : Word
  SAR : Word
  SDR : Word
  DST : Word
  CIR : Word
  icsFlag : Bool
  dispFlag : Bool
  lockout : Bool
  secondary : Bool
  run : RunState
  debugPad5 : Bool
  mem : Memory
  cfg : Config
  freeCtr : Nat
  prevDup : Bool
  inputs : List EnvAction
  mpb : List MpbReply
  sent : List MpbRequest
  poll : Option Poll
  owned : List (Word × Word)
  deriving DecidableEq, Repr

/-- Where the machine stops for good. -/
inductive Fault where
  /-- Trap 55o is raised on entry to its own handler without end (R604, entry U25): the machine makes no further
  progress. Raised by the tests after a trap entry. Safe: the spec says the machine is stuck. -/
  | sequencingLoop
  deriving DecidableEq, Repr

/-- Why the model has no next state: each names the entry of spec/93_implementation_defined.md (or the decision of
spec/92_eei_decisions.md) whose treatment is "refuse". Every one is safe: no claim can rest on what follows. -/
inductive Refusal where
  /-- An arm of exec without a meaning. Safe. -/
  | notModelled (mnemonic : String)
  /-- U1: an absolute address, or the content of a limit register, whose three most significant bits are not zero.
  Raised by every memory access, by the sums that form an address, and where a table gives a limit register. Safe. -/
  | addressTooLarge
  /-- U3: DST PAGESIZE 0 or 1. Raised by the evaluation of a paged pointer. Safe. -/
  | pageSize
  /-- U4: a 32-bit instruction at an address with P(30:2) = 2. Raised by fetch. Safe. -/
  | misalignedInstruction
  /-- U5: LBIT or SBIT with CIR(19:1) = 0. Raised by LBIT and SBIT. Safe. -/
  | bitIndexRequired
  /-- U7: an absolute-address access to the active stack. Raised by the absolute-address instructions. Safe. -/
  | activeStackAccess
  /-- U8: XGDS naming a paged DST entry. Raised by XGDS. Safe. -/
  | pagedGlobalSegment
  /-- U13: a DST entry that must be resident is not usable (R474, R646). Raised by IXIT, DISP, PSEB and interrupt
  entry. Safe. -/
  | tableEntry
  /-- U14: TRAN's table leaves the segment or page of its first byte. Raised by TRAN. Safe. -/
  | translationTable
  /-- U16: a move, scan or string area includes the instruction's own parameters. Raised by the move and scan
  instructions. Safe. -/
  | parameterOverlap
  /-- U17: SMPB with channel number 0. Raised by SMPB. Safe. -/
  | channelZero
  /-- U18: MUC with a stack or global pointer. Raised by MUC. Safe. -/
  | notExternalPointer
  /-- U19: CPEP on the ICS. Raised by CPEP. Safe. -/
  | convertOnIcs
  /-- U21: RSC while MSG bit 6 is 1. Raised by RSC. Safe. -/
  | slaveDataValid
  /-- U23: the STT word of segment 1 used by a trap entry is not a local program pointer inside segment 1. Raised by
  trap entry. Safe. -/
  | trapPointer
  /-- U24: a DRT entry whose program pointer fails the transfer tests. Raised by interrupt entry. Safe. -/
  | deviceEntry
  /-- U26: an indeterminate bug of CPU_REV le33 or r40. Raised by IXIT, ESCP, BRSI, fetch and transfers. Safe. -/
  | revisionBug
  /-- D16: a must-be-zero bit of an instruction or of a device address word is 1. Raised by decode and by IOW, IOR,
  IOC. Safe. -/
  | mustBeZero
  deriving DecidableEq, Repr

/-- The state on entry to the reset handler (R70). The values R70 takes from memory or leaves open are this model's:
DESIGN CHOICE, unsafe (entries 3, 4 and 5 of the log). Memory lists nothing: the two words that the reset sequence leaves
at Q + 8 and Q + 12 are what those addresses read as unlisted (`Memory.unlisted`), and what else memory holds is loaded
from outside (R701; entry 2). -/
def State.reset : State :=
  { P := 0x00002000, PB := 0x00002000, PL := 0x00002FFC,
    SB := 0x00001000, SL := 0x00001FFF, S := 0x0000110F, Q := 0x00001103,
    DB := 0x00003000, DL := 0x00003FFF, X := 0,
    STATUS := 0x00020001, FLAGS := 0, MSG := 0, MASK := 0x04000000,
    BRKPT := 0xFFFFFFFF, SAR := 0, SDR := 0, DST := 0, CIR := 0,
    icsFlag := true, dispFlag := false, lockout := true, secondary := false,
    run := .running, debugPad5 := false, mem := [], cfg := Config.default,
    freeCtr := 0, prevDup := false, inputs := [], mpb := [], sent := [], poll := none, owned := [] }

end Sys2Proof.Machine
end

