-- ==== Sys2Proof/Machine/Flags.lean ====
section
/-! DEFINITION. The fields of STATUS (spec/10_state.md rules R30 to R39) and the condition-code setters of
spec/00_scope.md rule R15. -/

namespace Sys2Proof.Machine

/-- CCG = 00 (R15, R33). -/
def ccG : BitVec 2 := 0b00#2
/-- CCE = 10 (R15, R33). -/
def ccE : BitVec 2 := 0b10#2
/-- CCL as the hardware sets it, 01 (R15, R33). -/
def ccL : BitVec 2 := 0b01#2

/-- TV, trace variables enable (R31). -/
def State.tv (s : State) : Bool := bit s.STATUS 0
/-- SL, start-of-line enable (R31). -/
def State.startLine (s : State) : Bool := bit s.STATUS 1
/-- EP, end-of-procedure enable (R31). -/
def State.endProc (s : State) : Bool := bit s.STATUS 2
/-- SS, start-of-subroutine enable (R31). -/
def State.startSub (s : State) : Bool := bit s.STATUS 3
/-- ES, end-of-subroutine enable (R31). -/
def State.endSub (s : State) : Bool := bit s.STATUS 4
/-- IR, inexact result (R31, R36). -/
def State.inexact (s : State) : Bool := bit s.STATUS 5
/-- C, carry (R31, R35). -/
def State.carry (s : State) : Bool := bit s.STATUS 6
/-- O, overflow (R31, R34). -/
def State.overflow (s : State) : Bool := bit s.STATUS 7
/-- T, user trap enable, at STATUS_T_BIT (R31, R38). -/
def State.trapEnable (s : State) : Bool := bit s.STATUS s.cfg.tBit.pos
/-- P, instruction pending (R31, R32). -/
def State.pending (s : State) : Bool := bit s.STATUS 9
/-- RM, rounding mode (R31, R37). -/
def State.rounding (s : State) : BitVec 2 := field s.STATUS 11 2
/-- I, interrupt enable (R31, R38). -/
def State.interruptEnable (s : State) : Bool := bit s.STATUS 13
/-- M, mode: 1 is privileged (R31, R38, R670). -/
def State.privileged (s : State) : Bool := bit s.STATUS 14
/-- CC, condition code (R31, R33). -/
def State.cc (s : State) : BitVec 2 := field s.STATUS 16 2
/-- MI, machine instruction trap, at STATUS_MI_BIT (R31, R39). -/
def State.machineTrap (s : State) : Bool := bit s.STATUS s.cfg.miBit.pos
/-- EM, enable machine instruction trap (R31, R39). -/
def State.machineTrapEnable (s : State) : Bool := bit s.STATUS 19
/-- CSN, code segment number (R31, R38). -/
def State.csn (s : State) : BitVec 12 := field s.STATUS 20 12

/-- CC <- cc. -/
def State.setCC (s : State) (cc : BitVec 2) : State := { s with STATUS := setField s.STATUS 16 2 cc }
/-- C <- b. -/
def State.setCarry (s : State) (b : Bool) : State := { s with STATUS := setBit s.STATUS 6 b }
/-- O <- b. -/
def State.setO (s : State) (b : Bool) : State := { s with STATUS := setBit s.STATUS 7 b }
/-- IR <- b. -/
def State.setInexact (s : State) (b : Bool) : State := { s with STATUS := setBit s.STATUS 5 b }
/-- P <- b. -/
def State.setPending (s : State) (b : Bool) : State := { s with STATUS := setBit s.STATUS 9 b }
/-- EM <- b. -/
def State.setEM (s : State) (b : Bool) : State := { s with STATUS := setBit s.STATUS 19 b }
/-- I <- b. -/
def State.setI (s : State) (b : Bool) : State := { s with STATUS := setBit s.STATUS 13 b }
/-- RM <- r. -/
def State.setRM (s : State) (r : BitVec 2) : State := { s with STATUS := setField s.STATUS 11 2 r }

/-- CCC of two integers (R15). -/
def ccCompare (a b : Int) : BitVec 2 := if a < b then ccL else if a = b then ccE else ccG

/-- CCA of a word read as two's complement (R15). -/
def ccWord (v : Word) : BitVec 2 := ccCompare v.toInt 0

/-- CCA of a doubleword read as two's complement (R15). -/
def ccDouble (v : DWord) : BitVec 2 := ccCompare v.toInt 0

/-- CCB of a byte: digit CCG, letter CCE, anything else CCL (R15). -/
def ccByte (b : Byte) : BitVec 2 :=
  let n := b.toNat
  if 0x30 ≤ n ∧ n ≤ 0x39 then ccG
  else if (0x41 ≤ n ∧ n ≤ 0x5A) ∨ (0x61 ≤ n ∧ n ≤ 0x7A) then ccE
  else ccL

/-- CC of an unsigned result: CCG when nonzero, CCE when zero (R330). -/
def ccUnsigned (nonzero : Bool) : BitVec 2 := if nonzero then ccG else ccE

/-- The condition field test of BCC, BCCS and TCC: bit 0 of CCF selects CCG, bit 1 CCE, bit 2 CCL; CC = 11 counts as
CCL (R33, R444, R565). -/
def ccSelected (cc : BitVec 2) (ccf : BitVec 3) : Bool :=
  if cc = ccG then bit ccf 0 else if cc = ccE then bit ccf 1 else bit ccf 2

/-- A signed 32-bit result that does not fit (R320). -/
def overflows32 (r : Int) : Bool := decide (r < -2147483648) || decide (2147483647 < r)

/-- The User Trap parameter of `setOverflow(kind, type)` (R320, R611). -/
def userParam (kind type : Nat) : Word := BitVec.ofNat 32 (16 * kind + type)

/-- The overall debug bit, a function of FLAGS and the two leading bits of CSN (R49). -/
def State.overallDebug (s : State) : Bool :=
  let c := field s.STATUS 20 2
  let f := fun n => bit s.FLAGS n
  if c = 0b00#2 then f 1 || f 3 || f 5 || f 7
  else if c = 0b11#2 then f 0 || f 2 || f 4 || f 6
  else f 1 || f 3 || f 5 || f 6 || f 7

end Sys2Proof.Machine
end

