-- ==== Sys2Proof/Machine/Ops.lean ====
section
/-! DEFINITION. The named operations over memory and registers: memory access, the stack, the segment tables, pointer
evaluation (spec/20_memory.md), control transfer, taking a trap or an interrupt and returning from one
(spec/60_exceptions.md, spec/44_program_control.md rules R472, R474, R478), and the frame every instruction runs in. -/

namespace Sys2Proof.Machine

/-! ## Traps and the instruction monad -/

/-- The internal interrupts and traps of R600. -/
inductive Trap where
  | boundsViolation | check | breakpoint | machineInstruction | string | reset | pageTableViolation
  | inconsistentRegisters | edsBoundsViolation | systemError | edsPointerViolation | pointerConversion
  | externalProgramPointer | unimplemented | sttViolation | cstViolation | dstViolation | stackOverflow
  | stackUnderflow | privilegedMode | privilegedModeData | unexpectedPointerType | user | illegalDecimal
  | exponentSize | floatOperand | floatResult | unexpectedEdsType | absentCodeSegment | absentPage
  | uncallableProcedure | absentDataSegment | absentPageTable | startOfLine | variableTrace | startOfProcedure
  | endOfProcedure | startOfSubroutine | endOfSubroutine | codeSegmentViolation | branchViolation | message
  | sequencing | startOfLineCheck | dataSegmentWrite
  deriving DecidableEq, Repr

/-- The STT entry number in code segment 1 (R600, octal). -/
def Trap.number : Trap → Nat
  | .boundsViolation => 0o1 | .check => 0o2 | .breakpoint => 0o3 | .machineInstruction => 0o4 | .string => 0o5
  | .reset => 0o10 | .pageTableViolation => 0o11 | .inconsistentRegisters => 0o12 | .edsBoundsViolation => 0o13
  | .systemError => 0o14 | .edsPointerViolation => 0o15 | .pointerConversion => 0o16
  | .externalProgramPointer => 0o17 | .unimplemented => 0o20 | .sttViolation => 0o21 | .cstViolation => 0o22
  | .dstViolation => 0o23 | .stackOverflow => 0o24 | .stackUnderflow => 0o25 | .privilegedMode => 0o26
  | .privilegedModeData => 0o27 | .unexpectedPointerType => 0o30 | .user => 0o31 | .illegalDecimal => 0o32
  | .exponentSize => 0o33 | .floatOperand => 0o34 | .floatResult => 0o35 | .unexpectedEdsType => 0o36
  | .absentCodeSegment => 0o37 | .absentPage => 0o40 | .uncallableProcedure => 0o41 | .absentDataSegment => 0o42
  | .absentPageTable => 0o43 | .startOfLine => 0o44 | .variableTrace => 0o45 | .startOfProcedure => 0o46
  | .endOfProcedure => 0o47 | .startOfSubroutine => 0o50 | .endOfSubroutine => 0o51 | .codeSegmentViolation => 0o52
  | .branchViolation => 0o53 | .message => 0o54 | .sequencing => 0o55 | .startOfLineCheck => 0o56
  | .dataSegmentWrite => 0o57

/-- Note 4 of R600: the trap clears STATUS.P before the marker is pushed. -/
def Trap.clearsPending : Trap → Bool
  | .machineInstruction | .edsBoundsViolation | .absentCodeSegment | .absentPage | .absentDataSegment
  | .absentPageTable => true
  | _ => false

/-- Why an instruction stopped before its end: a note-2 trap with its parameter and the state at that moment, a
refusal, a stuck machine, or a table semaphore found taken (R124), which is waited for while the entries of `held`
stay owned, each with the word that will be written back (R140). -/
inductive Stop where
  | trap (t : Trap) (param : Option Word) (st : State)
  | refuse (r : Refusal)
  | stuck (f : Fault)
  | spin (ent : Word) (held : List (Word × Word))

/-- A computation on the state that may stop. -/
abbrev M (α : Type) := StateT State (Except Stop) α

/-- `raise t(param)` (R9): the state stays as it stands. -/
def raise {α : Type} (t : Trap) (param : Option Word := none) : M α := fun s => .error (.trap t param s)

/-- Outside the specified domain (spec/93_implementation_defined.md). -/
def refuse {α : Type} (r : Refusal) : M α := fun _ => .error (.refuse r)

/-- The machine makes no further progress (R604). -/
def stuck {α : Type} (f : Fault) : M α := fun _ => .error (.stuck f)

/-- Raise t unless c holds. -/
def require (c : Bool) (t : Trap) (param : Option Word := none) : M Unit := fun s =>
  if c then .ok ((), s) else .error (.trap t param s)

/-- Refuse unless c holds. -/
def insist (c : Bool) (r : Refusal) : M Unit := fun s =>
  if c then .ok ((), s) else .error (.refuse r)

/-! ## Memory -/

/-- No memory at this address: it is in the complement of MEM_MAP (R84). -/
def Config.isHole (c : Config) (n : Nat) : Bool := c.holes.any fun h => decide (h.lo ≤ n) && decide (n < h.lo + h.len)

/-- The slave address error and slave data error of an access to non-existent memory (R84): MSG bits 1 and 2. -/
def State.busError (s : State) : State := { s with MSG := s.MSG ||| 0x60000000#32 }

/-- Draw the next free word. DESIGN CHOICE, safe: entry 12 of the log. -/
def drawFree : M Word := fun s => .ok (Config.freeWord s.freeCtr, { s with freeCtr := s.freeCtr + 1 })

/-- One read access at the aligned absolute address n: refused beyond 29 bits (R81, U1), a free value where there is
no memory (R84, D8). -/
def load {α : Type} (n : Nat) (get : Memory → α) (ofFree : Word → α) : M α := fun s =>
  if addressSpace ≤ n then .error (.refuse .addressTooLarge)
  else if Config.isHole s.cfg n then
    .ok (ofFree (Config.freeWord s.freeCtr), { s.busError with freeCtr := s.freeCtr + 1 })
  else .ok (get s.mem, s)

/-- One write access at the aligned absolute address n: dropped where there is no memory (R84, D8). -/
def store (n : Nat) (put : Memory → Memory) : M Unit := fun s =>
  if addressSpace ≤ n then .error (.refuse .addressTooLarge)
  else if Config.isHole s.cfg n then .ok ((), s.busError)
  else .ok ((), { s with mem := put s.mem })

/-- `W[a]` (R9). -/
def readWord (a : Word) : M Word := load (wordAlign a).toNat (fun m => m.word (wordAlign a).toNat) id
/-- `H[a]` (R9). -/
def readHalf (a : Word) : M Half :=
  load (halfAlign a).toNat (fun m => m.half (halfAlign a).toNat) (fun w => w.extractLsb' 0 16)
/-- `B[a]` (R9). -/
def readByte (a : Word) : M Byte := load a.toNat (fun m => m.read a.toNat) (fun w => w.extractLsb' 0 8)
/-- `W[a] <- v` (R9). -/
def writeWord (a v : Word) : M Unit := store (wordAlign a).toNat (fun m => m.writeWord (wordAlign a).toNat v)
/-- `H[a] <- v` (R9). -/
def writeHalf (a : Word) (v : Half) : M Unit := store (halfAlign a).toNat (fun m => m.writeHalf (halfAlign a).toNat v)
/-- `B[a] <- v` (R9). -/
def writeByte (a : Word) (v : Byte) : M Unit := store a.toNat (fun m => m.write a.toNat v)

/-- The address that an unbounded sum gives, or the content of a limit register: refused outside the 29-bit address
space (R81, U1). -/
def absAddress (i : Int) : M Word := do
  insist (decide (0 ≤ i) && decide (i < addressSpace)) .addressTooLarge
  pure (wordOf i)

/-- The word memory holds at a, without an access: what `readWord` answers where there is memory. -/
def State.word (s : State) (a : Word) : Word := s.mem.word (wordAlign a).toNat

/-- The byte memory holds at n, without an access. -/
def State.byte (s : State) (n : Nat) : Byte := s.mem.read n

/-- The state with the word v at a where there is memory there, without an access. -/
def State.withWord (s : State) (a v : Word) : State :=
  if addressSpace ≤ (wordAlign a).toNat ∨ Config.isHole s.cfg (wordAlign a).toNat = true then s
  else { s with mem := s.mem.writeWord (wordAlign a).toNat v }

/-! ## The stack -/

/-- The k-th word from the top, k = 0 the TOS word (R11). -/
def peek (k : Nat) : M Word := do
  let s ← get
  readWord (s.S - BitVec.ofNat 32 (4 * k))

/-- Replace the k-th word from the top. -/
def poke (k : Nat) (v : Word) : M Unit := do
  let s ← get
  writeWord (s.S - BitVec.ofNat 32 (4 * k)) v

/-- The stack underflow test for a new S of S - 4k (R260). -/
def checkPop (k : Nat) : M Unit := fun s =>
  if s.S.toNat < s.Q.toNat + 4 * k then .error (.trap .stackUnderflow none s) else .ok ((), s)

/-- `S <- S - 4k`, tested before (R260). -/
def dropWords (k : Nat) : M Unit := fun s => .ok ((), { s with S := s.S - BitVec.ofNat 32 (4 * k) })

/-- `push(v)`: no test against SL (R11, R261). -/
def push (v : Word) : M Unit := do
  let s ← get
  let a ← absAddress (s.S.toNat + 4)
  writeWord a v
  modify fun s => { s with S := s.S + 4#32 }

/-- The TOS doubleword with k doublewords above it (R11, R390). -/
def peekDouble (k : Nat) : M DWord := do
  let lo ← peek (2 * k)
  let hi ← peek (2 * k + 1)
  pure (dword hi lo)

/-- Replace the k-th doubleword from the top. -/
def pokeDouble (k : Nat) (d : DWord) : M Unit := do
  poke (2 * k + 1) (hiWord d)
  poke (2 * k) (loWord d)

/-- Push a doubleword, first word first (R11). -/
def pushDouble (d : DWord) : M Unit := do
  push (hiWord d)
  push (loWord d)

/-- CC <- cc. -/
def putCC (cc : BitVec 2) : M Unit := modify (·.setCC cc)

/-- A privileged instruction in unprivileged mode (R671): PrivilegedModeViolation(1) before anything else. -/
def requirePrivileged : M Unit := fun s =>
  if s.privileged then .ok ((), s) else .error (.trap .privilegedMode (some 1#32) s)

/-- The refusal of an absolute access to the active stack segment, from its marker's first word at Q-12 on (U7, R57).
DEDUCED, safe: the range is that of entry 18 of the log. -/
def checkAbsolute (a : Word) : M Unit := fun s =>
  if s.Q.toNat ≤ (wordAlign a).toNat + 15 ∧ (wordAlign a).toNat ≤ s.SL.toNat then
    .error (.refuse .activeStackAccess)
  else .ok ((), s)

/-! ## Semaphores and the code segment tables -/

/-- `acquire(ent)` (R124, R140): the first word of a table entry is read and set to -1; a negative word means that the
entry is owned, and the CPU waits. -/
def acquire (ent : Word) : M Word := do
  let w ← readWord ent
  if bit w 0 then fun _ => .error (.spin ent [])
  else do
    writeWord ent 0xFFFFFFFF#32
    pure w

/-- `release(ent, w)` (R124). -/
def release (ent w : Word) : M Unit := writeWord ent w

/-- Run m while the entry ent is owned, its word to be w: a trap of m gives the entry back (R133, R140), and a wait for
another semaphore keeps it. -/
def owning {α : Type} (ent w : Word) (m : M α) : M α := fun s =>
  match m s with
  | .error (.trap t p s1) => .error (.trap t p (s1.withWord ent w))
  | .error (.spin e held) => .error (.spin e ((ent, w) :: held))
  | r => r

/-- The use count of a table entry, bits 1-12 of its first word (R121, R136). -/
def useCount (w0 : Word) : BitVec 12 := field w0 1 12

/-- This CPU's dedicated block, `16 * CHANNEL` (R151, R478). -/
def State.cpuBlock (s : State) : Word := (field s.MASK 3 3).setWidth 32 * 16#32

/-- The table base and entry number within the table of a code segment number (R122). -/
def cstBase (csn : BitVec 12) : M (Word × Nat) := do
  let n := csn.toNat
  let s ← get
  if n < 1024 then do
    let b ← readWord 0#32
    pure (b, n)
  else if n < 3072 then do
    let b ← readWord 4#32
    pure (b, n - 1024)
  else do
    let b ← readWord s.cpuBlock
    pure (b, n - 3072)

/-- The address of entry k of the code segment table at `base` (R121). -/
def cstAddress (base : Word) (k : Nat) : M Word := absAddress (base.toNat + 16 * k)

/-- `CSTentry(csn)` with its tests (R122): traps 17o and 22o. -/
def cstEntry (csn : BitVec 12) : M Word := do
  require (csn.toNat % 1024 ≠ 0 || csn.toNat = 2048) .externalProgramPointer
  let bk ← cstBase csn
  let len ← readWord bk.1
  require (16 * bk.2 ≤ len.toNat) .cstViolation
  cstAddress bk.1 bk.2

/-- The address of a CST entry without its tests, for the sequences that make none (R602). -/
def cstEntryUntested (csn : BitVec 12) : M Word := do
  let bk ← cstBase csn
  cstAddress bk.1 bk.2

/-- Raise trap 37o, 40o, 42o or 43o with its parameter (R652); the negation on the ICS is made when it is taken. -/
def raiseAbsent {α : Type} (t : Trap) (param : Word) : M α := raise t (some param)

/-- Traps 37o, 40o, 42o and 43o, whose parameter is negated on the ICS (R652). -/
def Trap.negatesOnIcs : Trap → Bool
  | .absentCodeSegment | .absentPage | .absentDataSegment | .absentPageTable => true
  | _ => false

/-- The parameter of a note-2 trap as it is stored (R652). -/
def State.icsParam (s : State) (t : Trap) (param : Option Word) : Option Word :=
  if t.negatesOnIcs && s.icsFlag then param.map (fun p => - p) else param

/-- `decUse` without its test, which was made before (R123, R133). -/
def decUse (ent : Word) : M Unit := do
  let w ← acquire ent
  release ent (setField w 1 12 (useCount w - 1))

/-- The use count of a table entry, read under its semaphore (R124). -/
def readCount (ent : Word) : M (BitVec 12) := do
  let w ← acquire ent
  release ent w
  pure (useCount w)

/-- A code segment register load that has passed its tests: PB' and PL', and the entry that is owned until the change is
made (R133, R472). -/
structure SegmentPlan where
  csn : BitVec 12
  ent : Word
  pb : Word
  pl : Word
  w0 : Word

/-- Run m while the entry of a plan is owned. -/
def SegmentPlan.during {α : Type} (g : SegmentPlan) (m : M α) : M α := owning g.ent g.w0 m

/-- The use count of the segment that is left, if it is one that is counted, is not 0 (R123, R133): SystemError(1). -/
def checkOldCount (old : BitVec 12) : M Unit := do
  if old ≠ 0 then do
    let oe ← cstEntry old
    let c ← readCount oe
    require (c ≠ 0) .systemError (some 1#32)

/-- The use-count tests of a segment change (R133, R123): SystemError(1). DEDUCED: entry 20 of the log. -/
def checkUseCounts (csn : BitVec 12) (w0 : Word) : M Unit := do
  let s ← get
  if s.csn ≠ csn then do
    checkOldCount s.csn
    require (useCount w0 ≠ 4095#12) .systemError (some 1#32)

/-- The use count of the segment that is left goes down, if it is one that is counted (R123). -/
def leaveSegment (old : BitVec 12) : M Unit := do
  if old ≠ 0 then do
    let oe ← cstEntryUntested old
    decUse oe

/-- The register and table changes of a segment change (R133, R472, R123): the old count down, the new count up, the
reference bit set, PB and PL loaded. -/
def commitUse (g : SegmentPlan) : M Unit := do
  let s ← get
  let w := setBit g.w0 29 true
  if s.csn = g.csn then release g.ent w
  else do
    g.during (leaveSegment s.csn)
    release g.ent (setField w 1 12 (useCount w + 1))
  modify fun s => { s with PB := g.pb, PL := g.pl }

/-- The outcome of `PlanTransfer` (R133). -/
structure TransferPlan where
  segment : Option SegmentPlan
  mode : Bool
  target : Word

/-- Run m while the entry of a planned transfer is owned. -/
def TransferPlan.during {α : Type} (t : TransferPlan) (m : M α) : M α :=
  match t.segment with
  | none => m
  | some g => g.during m

/-- The kind of a transfer through a program pointer (R133). -/
inductive TransferKind where
  | call | branch
  deriving DecidableEq, Repr

/-- The 30-bit offset field of a pointer, bits (2:30) (R104, R131). -/
def pointerOffset (p : Word) : Word := (field p 2 30).setWidth 32

/-- LENGTH-1 and LOCATION of a table entry (R121, R136). -/
def readExtent (ent : Word) : M (Word × Word) := do
  let lenM1 ← readWord (ent + 4#32)
  let loc ← readWord (ent + 8#32)
  pure (lenM1, loc)

/-- PL of a code segment at `loc` (R121). LOCATION, which goes into PB, and PL are absolute addresses of 29 bits (R81,
U1). -/
def segmentLimit (loc lenM1 : Word) : M Word := do
  insist (decide (loc.toNat < addressSpace)) .addressTooLarge
  absAddress ((loc.toNat : Int) + lenM1.toNat - 3)

/-- The entry point that an external program pointer gives in the segment at `loc`, with the tests of its STT (R133). -/
def entryPoint (kind : TransferKind) (oldM : Bool) (loc pl n4 : Word) : M Word := do
  let len ← readWord pl
  require (n4.toNat ≤ (field len 13 19).toNat) .sttViolation (some 1#32)
  if n4 = 0#32 then do
    if kind = .call ∧ bit len 1 ∧ oldM = false then raise .uncallableProcedure
    pure loc
  else do
    let a ← absAddress ((pl.toNat : Int) - n4.toNat)
    let q ← readWord a
    if bit q 0 then raise .sttViolation (some 2#32)
    if kind = .call ∧ bit q 1 ∧ oldM = false then raise .uncallableProcedure
    pure (halfAlign (loc + pointerOffset q))

/-- The tests of a transfer into another segment, its entry being owned (R133): the plan, and the mode of the segment.
-/
def testSegment (csn : BitVec 12) (n4 ent w0 : Word) (kind : TransferKind) (oldM : Bool) : M TransferPlan := do
  let lx ← readExtent ent
  if bit w0 31 then raiseAbsent .absentCodeSegment (csn.setWidth 32)
  if kind = .branch ∧ bit w0 30 ∧ oldM = false then raise .privilegedMode (some 2#32)
  let pl ← segmentLimit lx.2 lx.1
  let target ← entryPoint kind oldM lx.2 pl n4
  checkUseCounts csn w0
  pure { segment := some { csn := csn, ent := ent, pb := lx.2, pl := pl, w0 := w0 },
         mode := if kind = .call then oldM || bit w0 30 else oldM, target := target }

/-- `PlanTransfer(ptr, kind)` (R133): every test of a transfer through a program pointer. Through an external pointer
the target's entry stays owned until `commitTransfer`; nothing else changes. -/
def planTransfer (ptr : Word) (kind : TransferKind) : M TransferPlan := do
  let s ← get
  if bit ptr 0 = false then
    pure { segment := none, mode := s.privileged, target := halfAlign (s.PB + pointerOffset ptr) }
  else do
    let csn := field ptr 20 12
    let ent ← cstEntry csn
    let w0 ← acquire ent
    owning ent w0 (testSegment csn ((field ptr 1 19).setWidth 32) ent w0 kind s.privileged)

/-- `CommitTransfer(T)`: every change but that of P, which the caller makes to `T.target` (R133). -/
def commitTransfer (t : TransferPlan) : M Unit :=
  match t.segment with
  | none => pure ()
  | some g => do
    commitUse g
    modify fun s => { s with STATUS := setField (setBit s.STATUS 14 t.mode) 20 12 g.csn }

/-- The whole address space as code segment 0 (R645). -/
def segmentZeroPL : Word := 0x1FFFFFFC#32

/-- What `PlanSegment` found (R472). -/
inductive SegmentChange where
  | same
  | zero
  | load (g : SegmentPlan)

/-- Run m while the entry of a planned segment change is owned. -/
def SegmentChange.during {α : Type} (c : SegmentChange) (m : M α) : M α :=
  match c with
  | .load g => g.during m
  | _ => m

/-- The tests of an exit to another segment, its entry being owned (R472). -/
def testReturn (csn : BitVec 12) (ent w0 : Word) : M SegmentChange := do
  let lx ← readExtent ent
  if bit w0 31 then raiseAbsent .absentCodeSegment (csn.setWidth 32)
  let pl ← segmentLimit lx.2 lx.1
  checkUseCounts csn w0
  pure (.load { csn := csn, ent := ent, pb := lx.2, pl := pl, w0 := w0 })

/-- `PlanSegment(csn, unpriv)` (R472): the tests of an exit to another segment, whose entry stays owned until
`commitSegment`. -/
def planSegment (csn : BitVec 12) (unpriv : Bool) : M SegmentChange := do
  let s ← get
  if csn = s.csn then pure .same
  else if csn = 0 then do
    require (!unpriv) .externalProgramPointer
    checkOldCount s.csn
    pure .zero
  else do
    let ent ← cstEntry csn
    let w0 ← acquire ent
    owning ent w0 (testReturn csn ent w0)

/-- `CommitSegment`: use counts, reference bit, PB and PL (R472). STATUS is the caller's. -/
def commitSegment (c : SegmentChange) : M Unit :=
  match c with
  | .same => pure ()
  | .zero => do
    let s ← get
    leaveSegment s.csn
    modify fun s => { s with PB := 0#32, PL := segmentZeroPL }
  | .load g => commitUse g

/-! ## Data segment pointers -/

/-- The base of the half of the DST that a segment number names (R137): the system half at 2200 octal, the user half at
DST. -/
def State.dstBase (s : State) (seg : BitVec 12) : Word := if bit seg 0 then s.DST else 0o2200#32

/-- The address of a DST entry for a 12-bit segment number (R137). -/
def State.dstEntry (s : State) (seg : BitVec 12) : Word := s.dstBase seg + (field seg 1 11).setWidth 32 * 16#32

/-- `DSTentry(seg)`, refused beyond the address space (R137, R81). -/
def dstAddress (seg : BitVec 12) : M Word := do
  let s ← get
  absAddress ((s.dstBase seg).toNat + 16 * (field seg 1 11).toNat)

/-- The first three words of a DST entry (R136), and where it stands. -/
structure DstHead where
  addr : Word
  w0 : Word
  lenM1 : Word
  loc : Word

/-- The fields of a DST entry the CPU reads (R136). -/
structure DstWords extends DstHead where
  link : Word

/-- Take the semaphore of a DST entry and read its first three words (R113, R285, R140). -/
def readDstHead (seg : BitVec 12) : M DstHead := do
  let a ← dstAddress seg
  let w0 ← acquire a
  let lx ← readExtent a
  pure { addr := a, w0 := w0, lenM1 := lx.1, loc := lx.2 }

/-- Take the semaphore of a DST entry and read its four words (R111, R140). -/
def readDst (seg : BitVec 12) : M DstWords := do
  let h ← readDstHead seg
  let link ← readWord (h.addr + 12#32)
  pure { toDstHead := h, link := link }

/-- Run m while a DST entry is owned. -/
def DstHead.during {α : Type} (e : DstHead) (m : M α) : M α := owning e.addr e.w0 m

/-- Give a DST entry back as it was. -/
def DstHead.giveBack (e : DstHead) : M Unit := release e.addr e.w0

/-- The two tests of a segment number against its half of the table, whose length is `len` (R111): traps 15o and 23o. -/
def checkSegmentNumber (n : BitVec 11) (len : Word) : M Unit := do
  require (n ≠ 0) .edsPointerViolation
  require (16 * n.toNat ≤ len.toNat) .dstViolation

/-- Where the walk over a chain ends: a paged entry, or an unpaged one that contains the offset (R111, R112). The
entry is owned. -/
structure ChainEnd where
  entry : DstWords
  ptr : Word
  offset : Int
  linked : Bool

/-- The pointer and the offset in the next segment of a chain (R112). DESIGN CHOICE: the sum of a consecutive chain is
compared before it is cut to 12 bits (entry 41 of the log). -/
def nextLink (e : DstWords) (ptr : Word) (offset : Int) : M (Word × Int) := do
  let len : Int := e.lenM1.toNat + 1
  let link := field e.link 1 12
  if bit e.link 0 = false then do
    require (link ≠ 0) .edsBoundsViolation
    pure (setField ptr 1 12 link, offset - len)
  else do
    let seg : Int := (field ptr 1 12).toNat + offset / len
    require (seg ≤ (link.toNat : Int)) .edsBoundsViolation
    pure (setField ptr 1 12 (BitVec.ofInt 12 seg), offset % len)

/-- READTBL and the chains of R111 and R112. Every turn lowers the offset, so the offset bounds the turns. DESIGN
CHOICE: an entry that the walk only passes through is given back, as it was, before the tests of LINK and before the
next entry is taken (R140; entry 57 of the log), and its use count is not tested (R139; entry 58). -/
def walkChain : Nat → Word → Int → Bool → M ChainEnd
  | fuel, ptr, offset, linked => do
    let e ← readDst (field ptr 1 12)
    if bit e.w0 26 then pure { entry := e, ptr := ptr, offset := offset, linked := linked }
    else do
      e.during (require (decide (0 ≤ offset)) .edsBoundsViolation)
      if offset ≤ (e.lenM1.toNat : Int) then pure { entry := e, ptr := ptr, offset := offset, linked := linked }
      else do
        e.giveBack
        let next ← nextLink e ptr offset
        match fuel with
        | 0 => raise .edsBoundsViolation
        | fuel + 1 => walkChain fuel next.1 next.2 true

/-- How a data segment pointer is used: the index to add, whether the instruction modifies memory, whether the mode is
unprivileged, and whether this is a probe that writes no table bit (R561, R590). -/
structure AccessKind where
  index : Option Word
  modmem : Bool
  unpriv : Bool
  probe : Bool

/-- The signed index (R102). -/
def AccessKind.xx (k : AccessKind) : Int :=
  match k.index with
  | none => 0
  | some x => x.toInt

/-- What pointer evaluation gives (R110): the address, the final pointer and offset, how many bytes follow the addressed
one in its segment or page, and for an external pointer the table entry that was reached and whether it is a page table
entry. -/
structure Located where
  addr : Word
  ptr : Word
  offset : Int
  room : Int
  entry : Word
  paged : Bool

/-- The use count limit of an access (R139): SystemError(1) at 4095, but for a probe. -/
def checkCount (k : AccessKind) (w0 : Word) : M Unit :=
  require (k.probe || useCount w0 != 4095#12) .systemError (some 1#32)

/-- The access tests common to a segment and a page (R111, R113): write, mode, absent, then the use count limit
(R139), whose place among them is DEDUCED: entry 40 of the log. -/
def checkEntry (k : AccessKind) (w0 : Word) (absent : M Unit) : M Unit := do
  if k.modmem ∧ bit w0 27 = false then raise .dataSegmentWrite
  if k.unpriv ∧ bit w0 30 then raise .privilegedModeData
  if bit w0 31 then absent
  checkCount k w0

/-- The first word of the entry of a paged segment after an access (R113): R set, but by a probe. -/
def AccessKind.referenced (k : AccessKind) (w0 : Word) : Word := if k.probe then w0 else setBit w0 29 true

/-- The first word of the entry of a segment or a page after an access (R111, R113): R set, D set by a modifying
access, but by a probe. -/
def touched (k : AccessKind) (w0 : Word) : Word :=
  let r := k.referenced w0
  if k.modmem && !k.probe then setBit r 28 true else r

/-- The address of an access (R111, R113); beyond 29 bits it is refused (U1), but for a probe, which makes none. -/
def physical (k : AccessKind) (a : Int) : M Word := do
  insist (k.probe || decide (a < addressSpace)) .addressTooLarge
  pure (wordOf a)

/-- The unpaged end of EvalEDS (R111). -/
def locateUnpaged (k : AccessKind) (c : ChainEnd) : M Located := do
  c.entry.during (checkEntry k c.entry.w0 (raiseAbsent .absentDataSegment ((field c.ptr 1 12).setWidth 32)))
  release c.entry.addr (touched k c.entry.w0)
  let a ← physical k ((c.entry.loc.toNat : Int) + c.offset)
  pure { addr := a, ptr := setField c.ptr 13 19 (BitVec.ofInt 19 c.offset), offset := c.offset,
         room := c.entry.lenM1.toNat - c.offset, entry := c.entry.addr, paged := false }

/-- The paged entry that the indexed pointer names (R113): the pointer after indexing and its DST entry, owned, of which
the first three words are read. DESIGN CHOICE: where the index leaves the segment, the entry of the segment left is given
back, as it was, before the tests of the new number and before the new entry is taken (entry 57 of the log), and its use
count is not tested (R139; entry 58). -/
def pagedEntry (k : AccessKind) (c : ChainEnd) (tlength : Word) : M (Word × DstHead) :=
  match k.index with
  | none => pure (c.ptr, c.entry.toDstHead)
  | some x => do
    let temp := c.ptr + x
    if field temp 0 13 ≠ field c.ptr 0 13 then do
      c.entry.giveBack
      require (field temp 0 2 = field c.ptr 0 2) .edsBoundsViolation
      checkSegmentNumber (field temp 2 11) tlength
      let e ← readDstHead (field temp 1 12)
      e.during (require (bit e.w0 26) .unexpectedEdsType)
      pure (temp, e)
    else pure (temp, c.entry.toDstHead)

/-- Take the semaphore of the page table entry of a page, whose table has the entry e (R113, R140): its address and its
first word. -/
def readPte (e : DstHead) (page : Nat) : M (Word × Word) := do
  require (8 * page + 4 ≤ e.lenM1.toNat) .pageTableViolation
  let pte ← absAddress (e.loc.toNat + 8 * page)
  let w0 ← acquire pte
  pure (pte, w0)

/-- The paged end of EvalEDS (R113): the DST entry, with R set, is given back when the page table entry has been taken
(R140). -/
def locatePaged (k : AccessKind) (c : ChainEnd) (tlength : Word) : M Located := do
  c.entry.during (require (!c.linked) .unexpectedEdsType)
  let pe ← pagedEntry k c tlength
  let ptr := pe.1
  let e := pe.2
  e.during (do
    if bit e.w0 31 then raiseAbsent .absentPageTable ptr
    checkCount k e.w0)
  let d0 := k.referenced e.w0
  let ps := (field e.w0 22 4).toNat
  let inSegment := (field ptr 13 19).toNat
  let offset := inSegment % 2 ^ ps
  let p ← owning e.addr d0 (do
    insist (2 ≤ ps) .pageSize
    readPte e (inSegment / 2 ^ ps))
  let pte := p.1
  let w0 := p.2
  release e.addr d0
  let loc ← readWord (pte + 4#32)
  owning pte w0 (checkEntry k w0 (raiseAbsent .absentPage ptr))
  release pte (touched k w0)
  let a ← physical k (loc ||| BitVec.ofNat 32 offset).toNat
  pure { addr := a, ptr := ptr, offset := offset, room := 2 ^ ps - 1 - offset, entry := pte, paged := true }

/-- EvalEDS (R111 to R113). -/
def evalEds (ptr : Word) (k : AccessKind) : M Located := do
  let s ← get
  let tlength ← readWord (s.dstBase (field ptr 1 12))
  checkSegmentNumber (field ptr 2 11) tlength
  let offset : Int := (field ptr 13 19).toNat + k.xx
  let c ← walkChain (offset.toNat + 1) ptr offset false
  if bit c.entry.w0 26 then locatePaged k c tlength else locateUnpaged k c

/-- Bounds of a segment given by registers, both ends included (R107, R110): BoundsViolation. -/
def checkBounds (lo hi a : Int) : M Unit := require (decide (lo ≤ a) && decide (a ≤ hi)) .boundsViolation

/-- Both bounds tests of an access at a, the second for the word after it (R107). -/
def checkBoundsSpan (lo hi a : Int) (span : Nat) : M Unit := do
  checkBounds lo hi a
  if span ≠ 0 then checkBounds lo hi (a - a % 4 + span)

/-- `EvalDSP(PTR, indexed, modmem)` (R110), the upper stack bound lowered by `lower` bytes for the instructions that
pop the pointer first (R203). -/
def evalDsp (ptr : Word) (k : AccessKind) (lower : Nat) : M Located := do
  let s ← get
  if bit ptr 0 = false then evalEds ptr k
  else do
    let base := if bit ptr 1 then s.SB else s.DB
    let top : Int := if bit ptr 1 then (s.S.toNat : Int) - lower else s.DL.toNat
    let a : Int := base.toNat + (pointerOffset ptr).toNat + k.xx
    checkBounds base.toNat top a
    pure { addr := wordOf a, ptr := ptr, offset := a - base.toNat, room := top - a, entry := 0#32, paged := false }

/-- The second word of a doubleword lies in the segment or page too (R107), tested after the whole evaluation of its
pointer (R206, R208): 13o for an external pointer, 1o for one that goes through registers. DEDUCED: entry 19 of the
log. -/
def checkSecond (l : Located) (span : Nat) : M Unit :=
  require (span = 0 || decide ((span : Int) ≤ l.room + l.addr.toNat % 4))
    (if bit l.ptr 0 then .boundsViolation else .edsBoundsViolation)

/-- `EvalLPP(ptr)` with an index, for the move and string instructions (R115, R500). -/
def evalLpp (ptr : Word) (xx : Int) : M Word := do
  let s ← get
  require (!bit ptr 0) .unexpectedPointerType
  let a : Int := s.PB.toNat + (pointerOffset ptr).toNat + xx
  checkBounds s.PB.toNat ((s.PL.toNat : Int) + 3) a
  absAddress a

/-! ## Effective addresses -/

/-- `loc` of R100: the base register plus or minus the offset, an unbounded integer. -/
def State.baseAddr (s : State) (b : Base) (off : Nat) : Int :=
  match b with
  | .pPlus => s.P.toNat + off
  | .pMinus => s.P.toNat - off
  | .dbPlus => s.DB.toNat + off
  | .dlMinus => s.DL.toNat - off
  | .qPlus => s.Q.toNat + off
  | .qMinus => s.Q.toNat - off
  | .sbPlus => s.SB.toNat + off
  | .sMinus => s.S.toNat - off

/-- The lower limit of the segment a base belongs to (R107). -/
def State.baseLow (s : State) : Base → Int
  | .pPlus | .pMinus => s.PB.toNat
  | .dbPlus | .dlMinus => s.DB.toNat
  | _ => s.SB.toNat

/-- The upper limit of the segment a base belongs to (R107). -/
def State.baseHigh (s : State) : Base → Int
  | .pPlus | .pMinus => s.PL.toNat + 3
  | .dbPlus | .dlMinus => s.DL.toNat
  | _ => s.S.toNat

/-- BASE is P+ or P-. -/
def baseIsCode : Base → Bool
  | .pPlus | .pMinus => true
  | _ => false

/-- BASE is DB+ or DL-. -/
def baseIsGlobal : Base → Bool
  | .dbPlus | .dlMinus => true
  | _ => false

/-- `boundscheck(base, a)` (R107). -/
def boundsCheck (b : Base) (a : Int) : M Unit := do
  let s ← get
  checkBounds (s.baseLow b) (s.baseHigh b) a

/-- The word at loc, inside the bounds of the segment of its base: a pointer in memory (R100, R107). -/
def readPointer (b : Base) (loc : Int) : M Word := do
  boundsCheck b loc
  let a ← absAddress loc
  readWord a

/-- An effective address, and the data segment pointer to it that a trace event reports (R632). -/
structure Effective where
  addr : Word
  pointer : Word

/-- A pointer with the same tag as p and the offset given, 30 bits. -/
def retag (p : Word) (offset : Int) : Word := setField p 2 30 (BitVec.ofInt 30 offset)

/-- The pointer p, by which a location was evaluated, indexed by x, as a trace event reports it (R632, R102): the sum
changes the offset of a stack or global pointer, and of an external one the offset too (R111), or the entire pointer
where the location lies in a page (R113). DEDUCED: an offset that outgrows its 19 bits keeps the low ones (entry 27 of
the log). -/
def Located.tracePointer (l : Located) (p x : Word) : Word :=
  let q := p + x
  if bit p 0 then setField p 2 30 (field q 2 30) else if l.paged then q else setField p 13 19 (field q 13 19)

/-- The end of an address that needs no data segment pointer (R100): the bounds of the base's segment, and R81. -/
def direct (b : Base) (e : Int) (span : Nat) (pointer : Word) : M Effective := do
  let s ← get
  checkBoundsSpan (s.baseLow b) (s.baseHigh b) e span
  let a ← absAddress e
  pure { addr := a, pointer := pointer }

/-- `EA(base, off, ind, idx, modmem)` (R100), with the second-word test when `span` is 4 (R107). -/
def effective (b : Base) (off : Nat) (ind idx modmem : Bool) (span : Nat) : M Effective := do
  let s ← get
  let loc := s.baseAddr b off
  let xx : Int := if idx then s.X.toInt else 0
  if ind = false then do
    let e := loc + xx
    direct b e span
      (if baseIsGlobal b then retag 0x80000000#32 (e - s.DB.toNat) else retag 0xC0000000#32 (e - s.SB.toNat))
  else do
    let ptr ← readPointer b loc
    if baseIsCode b then direct b (loc + ptr.toInt + xx) span 0#32
    else do
      let l ← evalDsp ptr { index := if idx then some s.X else none, modmem := modmem, unpriv := !s.privileged,
                            probe := false } 0
      checkSecond l span
      pure { addr := l.addr, pointer := l.tracePointer ptr (if idx then s.X else 0#32) }

/-- How many bytes beyond the first word of a doubleword are bounds-checked: 4, but 0 on CPU_REV le33 (R727). -/
def State.doubleSpan (s : State) : Nat := if s.cfg.rev = .le33 then 0 else 4

/-! ## Taking a trap or an interrupt -/

/-- The external program pointer of a trap (R601 step 1, R610). -/
def epp (t : Trap) : Word := 0x80000001#32 ||| BitVec.ofNat 32 (4 * t.number * 4096)

/-- `H[P-2]` of a right halfword at p. DESIGN CHOICE: where there is no memory it is the left half of the free word that
the next read of such a place gives, without an access of its own (R84), and beyond 29 bits it is what an unlisted
address reads as, without a refusal (R81); both are entry 56 of the log. -/
def State.leftHalf (s : State) (p : Word) : Half :=
  let n := (p - 2#32).toNat
  if Config.isHole s.cfg n then field (Config.freeWord s.freeCtr) 0 16 else s.mem.half n

/-- A 16-bit instruction in a right halfword whose left halfword looks like a 32-bit one: le33 and r40 misbehave on a
non-sequential fetch of it (R722). -/
def State.alignmentBug (s : State) (p : Word) : Bool :=
  (s.cfg.rev != .fixed) && (field p 30 2 == 2#2) && (field (s.leftHalf p) 0 3 == 7#3)

/-- `P <- target`, the least significant bit forced to 0 (R21, D4), a non-sequential fetch (R722, U26). -/
def jumpTo (target : Word) : M Unit := do
  let s ← get
  insist (!s.alignmentBug (halfAlign target)) .revisionBug
  modify fun s => { s with P := halfAlign target }

/-- Push a stack marker with return address ra and move Q to it (R60). -/
def pushMarker (ra : Word) : M Unit := do
  let s ← get
  let top ← absAddress (s.S.toNat + 16)
  writeWord (top - 12#32) s.X
  writeWord (top - 8#32) (ra - s.PB)
  writeWord (top - 4#32) s.STATUS
  writeWord top (top - s.Q)
  modify fun s => { s with S := top, Q := top }

/-- A use count that an entry into segment 1 leaves goes down, but not below 0 (R602). -/
def lowered (w : Word) : Word := if useCount w = 0 then w else setField w 1 12 (useCount w - 1)

/-- The first word of CST entry 1 after an entry from another segment (R602): the count up, but not above 4095; R set.
-/
def raised (w : Word) : Word :=
  setBit (if useCount w = 4095#12 then w else setField w 1 12 (useCount w + 1)) 29 true

/-- `EnterSegment1()` (R602): use counts, PB, PL and the cleared STATUS, without the usual tests. From segment 1 itself the
entry is read alone, and its semaphore is not taken. -/
def enterSegment1 : M Unit := do
  let base ← readWord 0#32
  let e1 ← cstAddress base 1
  let s ← get
  if s.csn ≠ 1 then do
    if s.csn ≠ 0 then do
      let oe ← cstEntryUntested s.csn
      let ow ← acquire oe
      release oe (lowered ow)
    let w ← acquire e1
    release e1 (raised w)
  let lx ← readExtent e1
  let pl ← segmentLimit lx.2 lx.1
  let w ← readWord e1
  modify fun s =>
    { s with PB := lx.2, PL := pl, STATUS := setField (setBit 0#32 14 (s.privileged || bit w 30)) 20 12 1#12 }

/-- Step 7 of R601: P from the STT entry of segment 1, which must hold a local program pointer (R602, U23). -/
def enterHandler (t : Trap) : M Unit := do
  let s ← get
  let w ← readWord (s.PL - BitVec.ofNat 32 (4 * t.number))
  insist (!bit w 0) .trapPointer
  jumpTo (s.PB + pointerOffset w)

/-- The parameter stored at Q+12: the special one, or the external program pointer (R610). -/
def trapParam (t : Trap) (param : Option Word) : Word := param.getD (epp t)

/-- `TrapEntry(n, param, ra)` without its `PostEntryTests` (R601). `count` is the trace count of trap 45o (R632). -/
def trapEntry (t : Trap) (param : Option Word) (ra : Word) (count : Option Word := none) : M Unit := do
  if t.clearsPending then modify (·.setPending false)
  if t = .machineInstruction then modify (·.setEM false)
  pushMarker ra
  enterSegment1
  let s ← get
  match count with
  | some c => writeWord (s.Q + 8#32) c
  | none => pure ()
  writeWord (s.Q + 12#32) (trapParam t param)
  modify fun s => { s with S := s.Q + 12#32 }
  enterHandler t

/-- QI, from the CPU's dedicated block (R151, R478), an address of 29 bits (R81). -/
def readQi : M Word := do
  let s ← get
  let w ← readWord (s.cpuBlock + 8#32)
  absAddress w.toNat

/-- The base registers of the Interrupt Control Stack (R646, R647): Q from QI, SL from SLI, SB 64 words below. -/
def loadIcs : M Unit := do
  let s ← get
  let qi ← readQi
  let sw ← readWord (s.cpuBlock + 12#32)
  let sli ← absAddress sw.toNat
  let sb ← absAddress ((qi.toNat : Int) - 259)
  modify fun s => { s with Q := qi, SL := sli, SB := sb, icsFlag := true }

/-- `W[Q+8] <- MASK`: the mask that the IXIT of a handler on the ICS restores (R647, R474). -/
def saveMask : M Unit := do
  let s ← get
  writeWord (s.Q + 8#32) s.MASK

/-- The nested branch of `SwitchToICS` (R647): the frame of a further condition on the ICS. -/
def nestedFrame (ra : Word) : M Unit := do
  pushMarker ra
  let s ← get
  if s.dispFlag then do
    let w ← readWord s.Q
    writeWord s.Q (setBit w 0 true)
    modify fun s => { s with dispFlag := false }
  let g ← readWord s.SB
  writeWord (s.Q + 4#32) g
  saveMask

/-- The stack-overflow frame built at the base of the ICS when a process stack is left with S > SL, the mask being in it
already, and the nested frame on top of it (R621, R647). -/
def overflowFrame : M Unit := do
  let s ← get
  writeWord (s.Q + 12#32) (epp .stackOverflow)
  modify fun s => { s with S := s.Q + 12#32 }
  enterSegment1
  enterHandler .stackOverflow
  let s ← get
  nestedFrame s.P

/-- `SwitchToICS(ra)` (R647). -/
def switchToIcs (ra : Word) : M Unit := do
  let s ← get
  if s.icsFlag then nestedFrame ra
  else do
    pushMarker ra
    let s ← get
    writeWord (s.SB - 4#32) (s.S - s.SB)
    loadIcs
    saveMask
    if s.SL.toNat < s.S.toNat then overflowFrame

/-- SL goes up by 64 words for a stack overflow on the ICS (R635), an address of 29 bits (R81). -/
def raiseLimit : M Unit := do
  let s ← get
  let sl ← absAddress (s.SL.toNat + 256)
  modify fun s => { s with SL := sl }

/-- `ICSTrapEntry(n, param, ra)` without its `PostEntryTests` (R647, R635). -/
def icsTrapEntry (t : Trap) (param : Option Word) (ra : Word) : M Unit := do
  let s ← get
  if t = .stackOverflow ∧ s.icsFlag then raiseLimit
  switchToIcs ra
  let s ← get
  writeWord (s.Q + 12#32) (trapParam t param)
  modify fun s => { s with S := s.Q + 12#32 }
  enterSegment1
  enterHandler t

/-- P is outside PB .. PL (R636). DESIGN CHOICE: at P = PL + 2 the rule's formula is followed (entry 42 of the log). -/
def State.outOfSequence (s : State) : Bool := decide (s.P.toNat < s.PB.toNat) || decide (s.PL.toNat < s.P.toNat)

/-- S is beyond SL (R635). -/
def State.stackOverflowed (s : State) : Bool := decide (s.SL.toNat < s.S.toNat)

/-- `PostEntryTests()` (R621). `in55` says that the handler just entered is that of trap 55o: its entry point out of
bounds is the stuck machine of U25. Every turn on the ICS closes the distance from SL to S by at least 228 bytes. -/
def postEntryTests : Nat → Bool → M Unit
  | fuel, in55 => do
    let s ← get
    if s.stackOverflowed then
      match fuel with
      | 0 => stuck .sequencingLoop
      | fuel + 1 => do
        icsTrapEntry .stackOverflow none s.P
        postEntryTests fuel false
    else if s.outOfSequence then
      if in55 then stuck .sequencingLoop
      else
        match fuel with
        | 0 => stuck .sequencingLoop
        | fuel + 1 => do
          trapEntry .sequencing none s.P
          postEntryTests fuel true
    else pure ()

/-- More turns than `postEntryTests` can take: S stays below 2^29. -/
def postEntryFuel : Nat := 4194304

/-- The unmasked message bits 0-15, in place (R630). -/
def State.messageBits (s : State) : Word := s.MSG &&& ~~~ s.MASK &&& 0xE3FF0000#32

/-- The unmasked I/O level bits 16-31, in place (R641). -/
def State.levelBits (s : State) : Word := s.MSG &&& ~~~ s.MASK &&& 0x0000FFFF#32

/-- The Message Trap (R630): the reported bits are cleared and passed as the parameter. -/
def messageTrap (ra : Word) : M Unit := do
  let s ← get
  let bits := s.messageBits
  modify fun s => { s with MSG := s.MSG &&& ~~~ bits }
  icsTrapEntry .message (some bits) ra

/-- The levels in descending order of priority (R641). -/
def levelOrder (level0Highest : Bool) : List Nat :=
  if level0Highest then List.range 16 else (List.range 16).reverse

/-- The highest-priority pending unmasked level (R641, R642). -/
def State.pendingLevel (s : State) : Option Nat :=
  (levelOrder s.cfg.level0Highest).find? fun l => bit s.levelBits (16 + l)

/-- The MASK bits of a level and of all lower ones (R642). -/
def lowerLevels (level0Highest : Bool) (l : Nat) : Word :=
  if level0Highest then BitVec.ofNat 32 (2 ^ (16 - l) - 1)
  else BitVec.ofNat 32 ((2 ^ (l + 1) - 1) * 2 ^ (15 - l))

/-- LOCATION and LENGTH-1 of a DST entry that must be resident, read without its semaphore and without tests; an entry
that is unusable is refused (R646, R474, U13). DESIGN CHOICE: A and P are taken from the first word as it stands, so
an entry that another agent owns, whose first word is -1, is refused too (entry 48 of the log). -/
def residentEntry (base : Word) (n : BitVec 11) : M (Word × Word) := do
  insist (n != 0) .tableEntry
  let len ← readWord base
  insist (decide (16 * n.toNat ≤ len.toNat)) .tableEntry
  let e ← absAddress (base.toNat + 16 * n.toNat)
  let w0 ← readWord e
  insist (!bit w0 31 && !bit w0 26) .tableEntry
  let lx ← readExtent e
  pure (lx.2, lx.1)

/-- `SetDBDL(dsp)` (R646), refused where the entry is unusable or the result not aligned (U13, R23). -/
def setDbDl (dsp : Word) : M Unit := do
  let s ← get
  if bit dsp 0 = false then do
    let g ← residentEntry (s.dstBase (field dsp 1 12)) (field dsp 2 11)
    let dl ← absAddress (g.1.toNat + g.2.toNat)
    insist (field g.1 30 2 == 0#2 && field dl 30 2 == 3#2) .tableEntry
    modify fun s => { s with DB := g.1, DL := dl }
  else do
    let b ← absAddress (pointerOffset dsp).toNat
    insist (field b 30 2 == 0#2) .tableEntry
    -- DEDUCED (entry 31 of the log): DB + 4096 ends in 00; R646 gives that value and R23 asks for 11: R646 is followed
    let dl ← (if bit dsp 1 then absAddress (b.toNat + 4096) else pure 0x1FFFFFFF#32 : M Word)
    modify fun s => { s with DB := b, DL := dl }

/-- A trap from inside the interrupt handler has no instruction to return to (R642): refused (U24). -/
def inHandler {α : Type} (m : M α) : M α := fun s =>
  match m s with
  | .error (.trap _ _ _) => .error (.refuse .deviceEntry)
  | r => r

/-- The part of `InterruptEntry(ra)` after the device is unlinked (R642): the frame, the masks, the device's data and
code. -/
def serviceDevice (l : Nat) (dev ra : Word) : M Unit := do
  switchToIcs ra
  modify fun s => { s with MASK := s.MASK ||| lowerLevels s.cfg.level0Highest l }
  let s ← get
  writeWord (s.Q + 12#32) dev
  modify fun s => { s with S := s.Q + 12#32 }
  let dsp ← readWord (dev + 4#32)
  setDbDl dsp
  writeWord s.SB dsp
  let pp ← readWord (dev + 8#32)
  modify fun s => { s with STATUS := setField (setBit 0#32 14 true) 20 12 s.csn }
  if bit pp 0 then do
    let t ← planTransfer pp .call
    commitTransfer t
    jumpTo t.target
  else do
    let g ← planSegment 0#12 false
    match g with
    | .same => modify fun s => { s with PB := 0#32, PL := segmentZeroPL }
    | c => commitSegment c
    modify fun s => { s with STATUS := setField s.STATUS 20 12 0#12 }
    jumpTo (pointerOffset pp)

/-- The location of the tail pointer of a level's list (R152). -/
def tailAddress (level : Nat) : Word := BitVec.ofNat 32 (1024 + 8 * level)

/-- The location of the head pointer of a level's list (R152). -/
def headAddress (level : Nat) : Word := BitVec.ofNat 32 (1028 + 8 * level)

/-- `InterruptEntry(ra)` (R642): false when all devices of the level are serviced, in which case only the MSG bit is
cleared. -/
def interruptEntry (ra : Word) : M Bool := do
  let s ← get
  match s.pendingLevel with
  | none => pure false
  | some l => do
    let tail := tailAddress l
    let head := headAddress l
    let tw ← readWord tail
    if tw = 0#32 then do
      modify fun s => { s with MSG := setBit s.MSG (16 + l) false }
      pure false
    else do
      let dev ← readWord head
      let link ← readHalf dev
      writeWord head (link.setWidth 32)
      writeHalf dev 0#16
      if link = 0#16 then do
        writeWord tail 0#32
        modify fun s => { s with MSG := setBit s.MSG (16 + l) false }
      inHandler (serviceDevice l dev ra)
      pure true

/-! ## The end of an instruction -/

/-- What an instruction body leaves for the end-of-instruction tests: the assigned P, its own note-1 trap (item 0), a
trace event (item 1), the User Trap parameter recorded by setOverflow (item 2), and `stay` when the instruction has not
ended (a halted, sleeping or suspended CPU). -/
structure End where
  jump : Option Word := none
  own : Option (Trap × Option Word) := none
  trace : Option (Word × Word) := none
  user : Option Word := none
  stay : Bool := false

/-- The instruction advances to the next one and has nothing to report. -/
def done : End := {}

/-- Items 1 to 4 and 0 of R620 in the order of entry: true when some entry was made. -/
def entryItems (e : End) : M Bool := do
  let s ← get
  let c1 := s.tv && e.trace.isSome
  let c2 := s.overflow && s.trapEnable
  let c3 := s.interruptEnable && (s.messageBits != 0#32)
  let c4 := s.interruptEnable && (s.levelBits != 0#32)
  if c2 then modify (·.setO false)
  match e.own with
  | some tp => trapEntry tp.1 tp.2 s.P
  | none => pure ()
  match c1, e.trace with
  | true, some tr => do
    let s ← get
    trapEntry .variableTrace (some tr.1) s.P (some tr.2)
  | _, _ => pure ()
  if c2 then do
    let u ← (match e.user with
      | some u => pure u
      | none => drawFree : M Word)
    let s ← get
    trapEntry .user (some u) s.P
  if c3 then do
    let s ← get
    messageTrap s.P
  let e4 ← (if c4 then do
      let s ← get
      interruptEntry s.P
    else pure false : M Bool)
  pure (e.own.isSome || c1 || c2 || c3 || e4)

/-- Items 5 to 8 of R620 and the setting of EM (R634). -/
def laterItems : M Unit := do
  let s ← get
  if s.outOfSequence then do
    trapEntry .sequencing none s.P
    postEntryTests postEntryFuel true
  else if s.stackOverflowed then do
    icsTrapEntry .stackOverflow none s.P
    postEntryTests postEntryFuel false
  else if s.P = s.BRKPT then do
    trapEntry .breakpoint none s.P
    postEntryTests postEntryFuel false
  else if s.machineTrap && s.machineTrapEnable then do
    trapEntry .machineInstruction (some s.CIR) s.P
    postEntryTests postEntryFuel false
  else modify (·.setEM true)

/-- The end-of-instruction tests (R620), P already advanced or assigned. -/
def endTests (e : End) : M Unit := do
  let entered ← entryItems e
  if entered then postEntryTests postEntryFuel false else laterItems

/-- The end of an instruction of `ilen` bytes: P advances or is assigned, then the tests (R168, R620). -/
def finish (ilen : Nat) (isDup : Bool) (e : End) : M Unit := do
  modify fun s => { s with prevDup := isDup }
  if e.stay then pure ()
  else do
    match e.jump with
    | some t => jumpTo t
    | none => modify fun s => { s with P := s.P + BitVec.ofNat 32 ilen }
    endTests e

/-- A note-2 trap (R603), entered on the current stack or, for the stack overflow that ADDS, PSHN, SLD and SCON raise
(R261), on the ICS after STATUS.P <- 0 (R635). -/
def takeTrap (t : Trap) (param : Option Word) : M Unit := do
  modify fun s => { s with prevDup := false }
  let s ← get
  if t = .stackOverflow then do
    modify (·.setPending false)
    icsTrapEntry t param s.P
  else trapEntry t (s.icsParam t param) s.P
  postEntryTests postEntryFuel false

/-- A CPU that finds a table semaphore taken reads the word again and again, each read setting it to -1 (R124): the
instruction will start again, and the entries it holds stay -1 until then (R140). Where there is no memory the read
gives another free value each time (R84). DESIGN CHOICE: entry 10 of the log. -/
def waitFor (s : State) (ent : Word) (held : List (Word × Word)) : State :=
  let t := if Config.isHole s.cfg (wordAlign ent).toNat then { s.busError with freeCtr := s.freeCtr + 1 }
    else s.withWord ent 0xFFFFFFFF#32
  held.foldl (fun u e => { u.withWord e.1 0xFFFFFFFF#32 with owned := e :: u.owned }) t

/-- The state in which an instruction that has waited starts again: the entries it held have their words back. -/
def State.regained (s : State) : State :=
  s.owned.foldl (fun u e => u.withWord e.1 e.2) { s with owned := [] }

/-- The outcome of a computation that ends the step. -/
def conclude (s : State) (m : M Unit) (s1 : State) : Host.Outcome State Fault Refusal :=
  match m s1 with
  | .ok ((), s2) => .next s2
  | .error (.trap _ _ _) => .refused .deviceEntry
  | .error (.refuse r) => .refused r
  | .error (.stuck f) => .fault f
  | .error (.spin ent held) => .next (waitFor s ent held)

/-- What a note-2 trap leaves of the instruction that raised it (R603, D18): the registers are those of its start;
memory holds what was written, which before a trap is no more than the R and D bits of table entries already set
(R603). The message bits that a bus error has set stay, and the free values drawn stay drawn. -/
def State.unwound (s s1 : State) : State := { s with mem := s1.mem, MSG := s1.MSG, freeCtr := s1.freeCtr }

/-- The registers of the start of the instruction are back when m traps. -/
def atomic {α : Type} (m : M α) : M α := fun s =>
  match m s with
  | .error (.trap t p s1) => .error (.trap t p (s.unwound s1))
  | r => r

/-- The memory of the start of m is back when m traps: for the sequences that write memory before the last of their
tests and set no R or D bit before it (R603, D18). -/
def undoing {α : Type} (m : M α) : M α := fun s =>
  match m s with
  | .error (.trap t p s1) => .error (.trap t p { s1 with mem := s.mem })
  | r => r

/-- One instruction from its body to the end of its tests; a trap finds what the body left. -/
def runBody (ilen : Nat) (isDup : Bool) (body : M End) (s : State) : Host.Outcome State Fault Refusal :=
  match body s with
  | .ok (e, s1) => conclude s (finish ilen isDup e) s1
  | .error (.trap t param s1) => conclude s (takeTrap t param) s1
  | .error (.refuse r) => .refused r
  | .error (.stuck f) => .fault f
  | .error (.spin ent held) => .next (waitFor s ent held)

/-- A 16-bit instruction. -/
def run16 (body : M End) (s : State) : Host.Outcome State Fault Refusal := runBody 2 false (atomic body) s

/-- A 32-bit instruction. -/
def run32 (body : M End) (s : State) : Host.Outcome State Fault Refusal := runBody 4 false (atomic body) s

/-- A 16-bit instruction whose rule says what it leaves behind when it traps: an interruptible instruction's progress
(R626), SETR (R284), the MPB instructions (R540). -/
def runKeep16 (body : M End) (s : State) : Host.Outcome State Fault Refusal := runBody 2 false body s

/-- `setOverflow(kind, type)` when c holds (R320): O is set and the User Trap parameter recorded. -/
def overflowIf (c : Bool) (kind type : Nat) : M End := do
  if c then do
    modify (·.setO true)
    pure { user := some (userParam kind type) }
  else pure done

/-! ## Reset and the other agents -/

/-- The stack marker and the saved S of a reset, omitted at power-on when SB = 0 (R660). -/
def resetMarker : M Unit := do
  let s ← get
  if s.SB ≠ 0#32 then do
    pushMarker s.P
    let t ← get
    writeWord (t.SB - 4#32) (t.S - t.SB)

/-- `Reset()` (R660). What an instruction under way has written stays, the -1 of an entry it owned too; the address
lockout is enabled (R70). -/
def hardwareReset : M Unit := do
  modify fun s => { s with run := .running, prevDup := false, owned := [], lockout := true }
  resetMarker
  loadIcs
  saveMask
  let s ← get
  writeWord (s.Q + 12#32) (epp .reset)
  let base ← readWord 0#32
  let e1 ← cstAddress base 1
  let lx ← readExtent e1
  let pl ← segmentLimit lx.2 lx.1
  modify fun s =>
    { s with dispFlag := false, S := s.Q + 12#32, PB := lx.2, PL := pl,
             STATUS := setField (setBit 0#32 14 true) 20 12 1#12, secondary := s.cfg.rev != .fixed }
  let w ← readWord (pl - 32#32)
  jumpTo (lx.2 + pointerOffset w)

/-- The MSG bits that agents set on their own: 0, 1, 2, 7, 8, 9 and 12 to 15 (R640 (b)). -/
def agentBits : Word := 0xE1CF0000#32

/-- The device number, which is the address of its DRT entry (R153): `128 * channel + 16 * peripheral address`. -/
def deviceEntry (channel : Fin 7) (periph : BitVec 3) : Word :=
  BitVec.ofNat 32 (128 * (channel.val + 1) + 16 * periph.toNat)

/-- The device is on a list already: its entry has a link or is the last of some list (R640 (a)). -/
def State.listed (s : State) (dev : Word) : Bool :=
  s.mem.half dev.toNat != 0#16 || (List.range 16).any fun l => s.word (tailAddress l) == dev

/-- A device links its DRT entry at the tail of its level's list and sets the level's MSG bit; a device that is on a
list already does not (R640 (a)). What its accesses do where there is no memory is entry 59 of the log. -/
def requestInterrupt (level : BitVec 4) (dev : Word) : M Unit := do
  let s ← get
  if s.listed dev = false then do
    let tail := tailAddress level.toNat
    let tw ← readWord tail
    if tw = 0#32 then writeWord (headAddress level.toNat) dev else writeHalf tw (field dev 16 16)
    writeWord tail dev
    modify fun s => { s with MSG := setBit s.MSG (16 + level.toNat) true }

/-- The CPU dedicated blocks, the DRT and the head and tail pointers, which no agent changes but by the list protocol
(R150, R545). -/
def dedicated (n : Nat) : Bool := decide (16 ≤ n) && decide (n < 0o2200)

/-- One move of the environment (R640, R545). DESIGN CHOICE: where a write or a list access of an agent finds no memory,
this CPU's MSG bits 1 and 2 are set as by an access of its own (R84; entry 59 of the log). -/
def deliver (m : Move) : M Unit :=
  match m with
  | .reset => hardwareReset
  | .setMsg bits => modify fun s => { s with MSG := s.MSG ||| (bits &&& agentBits) }
  | .slaveWrite addr data => modify fun s => { s with SAR := addr, SDR := data, MSG := setBit s.MSG 6 true }
  | .interrupt level channel periph => requestInterrupt level (deviceEntry channel periph)
  | .writeByte addr v => if dedicated addr.toNat then pure () else writeByte addr v

/-! ## Polls inside an interruptible instruction -/

/-- Items 3 and 4 of R620, the only ones tested inside an instruction (R626). -/
def State.interruptPending (s : State) : Bool :=
  s.interruptEnable && (s.messageBits != 0#32 || s.levelBits != 0#32)

/-- Several moves, one after another, as far as a reset: true when there was one. -/
def deliverAll : List Move → M Bool
  | [] => pure false
  | m :: rest => do
    deliver m
    if m = .reset then pure true else deliverAll rest

/-- What the CPU finds at a poll: nothing, an interrupt to take (R626), or that a reset has aborted the instruction
(R660). -/
inductive PollEnd where
  | quiet | interrupt | reset
  deriving DecidableEq, Repr

/-- Before iteration k, at least 1: the moves of a poll scheduled there are made, and the CPU looks for interrupts
(R626). -/
def pollBefore (k : Nat) : M PollEnd := do
  let s ← get
  match s.poll with
  | none => pure .quiet
  | some q =>
    if q.iteration = k ∧ 0 < k then do
      modify fun s => { s with poll := none }
      let r ← deliverAll q.moves
      let t ← get
      pure (if r then .reset else if t.interruptPending then .interrupt else .quiet)
    else pure .quiet

/-- Suspension of an interruptible instruction whose progress is saved (R626): the tests of R621 follow an entry;
where none was made, all devices being serviced, the instruction goes on. DESIGN CHOICE: entry 8 of the log. -/
def suspend : M End := do
  modify (·.setPending true)
  let s ← get
  let c3 := s.messageBits != 0#32
  let c4 := s.levelBits != 0#32
  if c3 then messageTrap s.P
  let e4 ← (if c4 then do
      let s ← get
      interruptEntry s.P
    else pure false : M Bool)
  if c3 || e4 then postEntryTests postEntryFuel false
  pure { stay := true }

/-- An instruction that a reset has aborted (R660): nothing of it is left to do. -/
def aborted : End := { stay := true }

/-! ## Returning -/

/-- `ExitCore(N, restricted)` (R472): unwinds the marker at Q. -/
def exitCore (n : Nat) (restricted : Bool) : M End := do
  let s ← get
  let m := s.Q
  let dq ← readWord m
  let nST ← readWord (m - 4#32)
  let nRA ← readWord (m - 8#32)
  let nX ← readWord (m - 12#32)
  if restricted then do
    require (!bit nST 14) .privilegedMode (some 2#32)
    require (bit nST 13 == s.interruptEnable && !bit nST 9) .privilegedMode (some 3#32)
  let g ← planSegment (field nST 20 12) restricted
  let nS : Int := (m.toNat : Int) - 16 - 4 * n
  g.during (require (decide (((m - dq).toNat : Int) ≤ nS)) .stackUnderflow)
  commitSegment g
  modify fun s => { s with Q := m - dq, STATUS := nST, X := nX, S := m - 16#32 - BitVec.ofNat 32 (4 * n) }
  let s ← get
  pure { jump := some (s.PB + nRA) }

/-- The dispatcher's part of the ICS base frame at qi (R478, R646): DB, DL and the word at SB from the pointer at
QI+4, the segment from the STATUS at QI-4. The dispatcher's STATUS, X and PB-relative address. -/
def dispatcherContext (qi : Word) : M (Word × Word × Word) := do
  let s ← get
  let dsp ← readWord (qi + 4#32)
  setDbDl dsp
  writeWord s.SB dsp
  let st ← readWord (qi - 4#32)
  let g ← planSegment (field st 20 12) false
  commitSegment g
  let x ← readWord (qi - 12#32)
  let ra ← readWord (qi - 8#32)
  pure (st, x, ra)

/-- `StartDispatcher()` (R478). With `nested` the dispatcher starts on top of the frame at Q, which stays, and its IXIT
returns through it: the start of the dispatcher over a stack-overflow frame (R621; DEDUCED, entry 33 of the log). -/
def startDispatcher (nested : Bool) : M End := do
  let qi ← readQi
  writeWord qi 0#32
  if nested = false then modify fun s => { s with Q := qi }
  let c ← dispatcherContext qi
  modify fun s => { s with dispFlag := !nested, STATUS := c.1, X := c.2.1, S := s.Q + 12#32 }
  let s ← get
  pure { jump := some (s.PB + c.2.2) }

/-- The registers that a return to a process takes from its stack segment (R474). -/
structure ProcessStack where
  sb : Word
  sl : Word
  s : Word

/-- SB, SL and S from the header of the stack segment at `base`, with the test of R474: trap 12o. -/
def processStack (base : Word) : M ProcessStack := do
  let s ← get
  let sbRel ← readWord base
  let slRel ← readWord (base + 4#32)
  let sb ← absAddress (base.toNat + sbRel.toNat)
  let sRel ← readWord (sb - 4#32)
  let sl : Int := sb.toNat + slRel.toNat
  let top : Int := sb.toNat + sRel.toNat
  require (sb.toNat % 4 == 0 && top % 4 == 3 && sl % 4 == 3 && decide (sb.toNat < top) && decide (top ≤ sl))
    .inconsistentRegisters (some s.CIR)
  let slw ← absAddress sl
  pure { sb := sb, sl := slw, s := wordOf top }

/-- `ReturnToProcess()` (R474). -/
def returnToProcess : M End := do
  let s ← get
  let tw ← readWord (s.cpuBlock + 4#32)
  let t ← absAddress tw.toNat
  let ucst ← readWord t
  let dst ← readWord (t + 4#32)
  let segs ← readWord (t + 8#32)
  let base := fun seg : BitVec 12 => if bit seg 0 then dst else 0o2200#32
  let ge ← residentEntry (base (field segs 20 12)) (field segs 21 11)
  let dl ← absAddress (ge.1.toNat + ge.2.toNat)
  let se ← residentEntry (base (field segs 4 12)) (field segs 5 11)
  let p ← processStack se.1
  writeWord s.cpuBlock ucst
  modify fun s => { s with DST := dst, DB := ge.1, DL := dl, SB := p.sb, SL := p.sl, Q := p.s, S := p.s,
                           icsFlag := false }
  exitCore 0 false

end Sys2Proof.Machine
end

