-- ==== Sys2Proof/Machine/Operands.lean ====
section
/-! DEFINITION. The operand forms the families share: optional indexing, shift counts, stack-indirect pointers,
absolute addresses, the operand field of EXF and DPF. -/

namespace Sys2Proof.Machine

/-- XX: the signed index register when the instruction indexes, else 0 (R100). -/
def State.indexOf (s : State) (indexed : Bool) : Int := if indexed then s.X.toInt else 0

/-- The index a data segment pointer is evaluated with (R102). -/
def State.indexWord (s : State) (indexed : Bool) : Option Word := if indexed then some s.X else none

/-- CNT of the shift instructions (R290). -/
def State.shiftCount (s : State) (indexed : Bool) (cnt : BitVec 6) : Nat :=
  (cnt + (if indexed then s.X.setWidth 6 else 0)).toNat

/-- The 10-bit K and J field of EXF and DPF after indexing (R300): K the upper five bits, J the lower five. -/
def State.fieldSpec (s : State) (indexed : Bool) (k j : BitVec 5) : Nat × Nat :=
  let f : BitVec 10 := (k ++ j) + (if indexed then s.X.setWidth 10 else 0)
  ((field f 0 5).toNat, (field f 5 5).toNat)

/-- How an instruction uses memory through a data segment pointer with this index. -/
def State.access (s : State) (index : Option Word) (modmem : Bool) : AccessKind :=
  { index := index, modmem := modmem, unpriv := !s.privileged, probe := false }

/-- `EvalDSP(ptr, index, modmem)` for an instruction that pops `pops` words before it evaluates (R203, R232), then the
test of the second word when `span` is 4 (R208, R236). -/
def evalPopped (ptr : Word) (indexed modmem : Bool) (span pops : Nat) : M Located := do
  let s ← get
  let l ← evalDsp ptr (s.access (s.indexWord indexed) modmem) (4 * pops)
  checkSecond l span
  pure l

/-- The address `base + XX` of an absolute-address instruction (R223): base and sum have 29 bits (R81, U1; entry 44 of
the log: DEDUCED), and the active stack is refused (R57, U7). -/
def absoluteAddress (base : Word) (indexed : Bool) : M Word := do
  let s ← get
  let b ← absAddress base.toNat
  let a ← absAddress (b.toNat + s.indexOf indexed)
  checkAbsolute a
  pure a

/-- A store through a base with P+ or P- (R230): CodeSegmentViolation before anything else. -/
def requireDataBase (b : Base) : M Unit := require (!baseIsCode b) .codeSegmentViolation

/-- The trace event of `count` modified bytes (R632). -/
def traced (pointer : Word) (count : Int) : End := { trace := some (pointer, wordOf count) }

/-- The trace event of `count` bytes modified at l, to which the popped pointer p has led (R632). -/
def tracedThrough (l : Located) (p : Word) (indexed : Bool) (count : Int) : M End := do
  let s ← get
  pure (traced (l.tracePointer p (if indexed then s.X else 0#32)) count)

/-- Replace the TOS word and set CC = CCA on it. -/
def answer (v : Word) : M End := do
  poke 0 v
  putCC (ccWord v)
  pure done

/-- Push a word and set CC = CCA on it. -/
def pushAnswer (v : Word) : M End := do
  push v
  putCC (ccWord v)
  pure done

/-- `X <- v` with CC = CCA on it. -/
def setXAnswer (v : Word) : M End := do
  modify fun s => { s with X := v }
  putCC (ccWord v)
  pure done

end Sys2Proof.Machine
end

