-- ==== Sys2Proof/Machine/Arith.lean ====
section
/-! DEFINITION. Integer arithmetic and logical instructions (spec/42_arithmetic_logical.md). -/

namespace Sys2Proof.Machine

/-- A Bool as the integer 0 or 1. -/
def ofFlag (b : Bool) : Int := if b then 1 else 0

/-- Pop two words and push v: the second word is replaced, the TOS deleted. -/
def replaceTwo (v : Word) : M Unit := do
  poke 1 v
  dropWords 1

/-- CCA of the extended forms (R321): with `ext` a zero result leaves CC alone. -/
def putCCExt (v : Word) (ext : Bool) : M Unit := if ext && v == 0#32 then pure () else putCC (ccWord v)

/-- The common end of ADD and SUB (R321, R322): r replaces both operands. -/
def arithResult (r : Int) (ext : Bool) : M End := do
  checkPop 1
  replaceTwo (wordOf r)
  let e ← overflowIf (overflows32 r) 0 1
  putCCExt (wordOf r) ext
  pure e

/-- The common end of the one-operand forms (R326, R332 to R334, R339): r replaces the TOS. -/
def arithTop (r : Int) : M End := do
  poke 0 (wordOf r)
  let e ← overflowIf (overflows32 r) 0 1
  putCC (ccWord (wordOf r))
  pure e

/-- The common end of the index register forms (R338, R340, R341). -/
def arithX (r : Int) : M End := do
  modify fun s => { s with X := wordOf r }
  let e ← overflowIf (overflows32 r) 0 1
  putCC (ccWord (wordOf r))
  pure e

/-- CCC, then `k` operands deleted (R327, R331, R336, R337). -/
def compareAnd (a b : Int) (k : Nat) : M End := do
  checkPop k
  putCC (ccCompare a b)
  dropWords k
  pure done

/-! ## Two's complement arithmetic on the stack -/

/-- ADD, R321. -/
def execAdd (b3 : Bool) (s : State) : Host.Outcome State Fault Refusal :=
  run16 (do
    let s ← get
    let a ← peek 0
    let b ← peek 1
    arithResult (b.toInt + a.toInt + ofFlag (b3 && s.carry)) b3) s

/-- SUB, R322. -/
def execSub (b3 : Bool) (s : State) : Host.Outcome State Fault Refusal :=
  run16 (do
    let s ← get
    let a ← peek 0
    let b ← peek 1
    arithResult (b.toInt - a.toInt - ofFlag (b3 && !s.carry)) b3) s

/-- MPY, R323. -/
def execMpy (b3 : Bool) (s : State) : Host.Outcome State Fault Refusal :=
  run16 (do
    let a ← peek 0
    let b ← peek 1
    let p : Int := b.toInt * a.toInt
    if b3 then do
      pokeDouble 0 (BitVec.ofInt 64 p)
      putCC (ccCompare p 0)
      pure done
    else arithResult p false) s

/-- The quotient and remainder of DIV and DIVS (R324, R325): truncating, or with a remainder that is not negative. -/
def divide (n d : Int) (positiveRem : Bool) : Int × Int :=
  if positiveRem then (n / d, n % d) else (n.tdiv d, n.tmod d)

/-- DIV, R324. -/
def execDiv (b3 : Bool) (s : State) : Host.Outcome State Fault Refusal :=
  run16 (do
    let a ← peek 0
    let lo ← peek 1
    let hi ← peek 2
    if a = 0#32 then overflowIf true 2 4
    else do
      let qr := divide (dword hi lo).toInt a.toInt b3
      let q : DWord := BitVec.ofInt 64 qr.1
      let e ← overflowIf (decide (9223372036854775807 < qr.1)) 0 4
      poke 2 (hiWord q)
      poke 1 (loWord q)
      poke 0 (wordOf qr.2)
      putCC (ccDouble q)
      pure e) s

/-- DIVS, R325. -/
def execDivs (b3 : Bool) (s : State) : Host.Outcome State Fault Refusal :=
  run16 (do
    let a ← peek 0
    let b ← peek 1
    if a = 0#32 then overflowIf true 2 1
    else do
      let qr := divide b.toInt a.toInt b3
      let e ← overflowIf (decide (2147483647 < qr.1)) 0 1
      poke 1 (wordOf qr.1)
      poke 0 (wordOf qr.2)
      putCC (ccWord (wordOf qr.1))
      pure e) s

/-- NEG, R326. -/
def execNeg (s : State) : Host.Outcome State Fault Refusal :=
  run16 (do
    let a ← peek 0
    arithTop (- a.toInt)) s

/-- CMP, R327. -/
def execCmp (b3 : Bool) (s : State) : Host.Outcome State Fault Refusal :=
  run16 (do
    let a ← peek 0
    let b ← peek 1
    compareAnd b.toInt a.toInt (if b3 then 2 else 1)) s

/-! ## Logical (unsigned) arithmetic on the stack -/

/-- The common end of LADD and LSUB (R328, R329): the word, Carry, and CC. -/
def logicalResult (v : Word) (carry ext : Bool) : M End := do
  checkPop 1
  replaceTwo v
  modify (·.setCarry carry)
  if v ≠ 0#32 then putCC ccG else if ext = false then putCC ccE
  pure done

/-- LADD, R328. -/
def execLadd (b3 : Bool) (s : State) : Host.Outcome State Fault Refusal :=
  run16 (do
    let s ← get
    let a ← peek 0
    let b ← peek 1
    let r : Int := b.toNat + a.toNat + ofFlag (b3 && s.carry)
    logicalResult (wordOf r) (decide (4294967296 ≤ r)) b3) s

/-- LSUB, R329: Carry is the complement of the borrow. -/
def execLsub (b3 : Bool) (s : State) : Host.Outcome State Fault Refusal :=
  run16 (do
    let s ← get
    let a ← peek 0
    let b ← peek 1
    let r : Int := (b.toNat : Int) - a.toNat - ofFlag (b3 && !s.carry)
    logicalResult (wordOf r) (decide (0 ≤ r)) b3) s

/-- LMPY, R330. -/
def execLmpy (s : State) : Host.Outcome State Fault Refusal :=
  run16 (do
    let a ← peek 0
    let b ← peek 1
    let p : DWord := BitVec.ofNat 64 (b.toNat * a.toNat)
    pokeDouble 0 p
    putCC (ccUnsigned (p != 0))
    pure done) s

/-- LCMP, R331. -/
def execLcmp (b3 : Bool) (s : State) : Host.Outcome State Fault Refusal :=
  run16 (do
    let a ← peek 0
    let b ← peek 1
    compareAnd b.toNat a.toNat (if b3 then 2 else 1)) s

/-! ## Immediate arithmetic -/

/-- ADDI, R332. -/
def execAddi (n : BitVec 8) (s : State) : Host.Outcome State Fault Refusal :=
  run16 (do
    let a ← peek 0
    arithTop (a.toInt + n.toNat)) s

/-- SUBI, R333. -/
def execSubi (n : BitVec 8) (s : State) : Host.Outcome State Fault Refusal :=
  run16 (do
    let a ← peek 0
    arithTop (a.toInt - n.toNat)) s

/-- MPYI, R334. -/
def execMpyi (n : BitVec 8) (s : State) : Host.Outcome State Fault Refusal :=
  run16 (do
    let a ← peek 0
    arithTop (a.toInt * n.toNat)) s

/-- DIVI, R335. -/
def execDivi (n : BitVec 8) (s : State) : Host.Outcome State Fault Refusal :=
  run16 (do
    let a ← peek 0
    if n = 0 then overflowIf true 2 1
    else arithTop (a.toInt.tdiv n.toNat)) s

/-- CMPI, R336. -/
def execCmpi (n : BitVec 8) (s : State) : Host.Outcome State Fault Refusal :=
  run16 (do
    let a ← peek 0
    compareAnd a.toInt n.toNat 1) s

/-- CMPN, R337. -/
def execCmpn (n : BitVec 8) (s : State) : Host.Outcome State Fault Refusal :=
  run16 (do
    let a ← peek 0
    compareAnd a.toInt (- (n.toNat : Int)) 1) s

/-! ## Index register arithmetic -/

/-- ADAX, R338. -/
def execAdax (b3 : Bool) (s : State) : Host.Outcome State Fault Refusal :=
  run16 (do
    let s ← get
    let a ← peek 0
    if b3 then do
      checkPop 1
      dropWords 1
    arithX (s.X.toInt + a.toInt)) s

/-- ADXA, R339. -/
def execAdxa (s : State) : Host.Outcome State Fault Refusal :=
  run16 (do
    let s ← get
    let a ← peek 0
    arithTop (a.toInt + s.X.toInt)) s

/-- ADXI, R340. -/
def execAdxi (n : BitVec 8) (s : State) : Host.Outcome State Fault Refusal :=
  run16 (do
    let s ← get
    arithX (s.X.toInt + n.toNat)) s

/-- SBXI, R341. -/
def execSbxi (n : BitVec 8) (s : State) : Host.Outcome State Fault Refusal :=
  run16 (do
    let s ← get
    arithX (s.X.toInt - n.toNat)) s

/-! ## Memory operand arithmetic -/

/-- CMPM, R342. -/
def execCmpm (i x : Bool) (base : Base) (off : BitVec 19) (s : State) : Host.Outcome State Fault Refusal :=
  run32 (do
    let e ← effective base off.toNat i x false 0
    let v ← readWord e.addr
    let a ← peek 0
    compareAnd a.toInt v.toInt 1) s

/-- INCM, DECM, INCF, DECF (R343 to R346): W[E] plus a constant. -/
def addToMemory (i x : Bool) (base : Base) (off : BitVec 19) (k : Int) : M End := do
  requireDataBase base
  let e ← effective base off.toNat i x true 0
  let v ← readWord e.addr
  let r : Int := v.toInt + k
  writeWord e.addr (wordOf r)
  let u ← overflowIf (overflows32 r) 0 1
  putCC (ccWord (wordOf r))
  pure { u with trace := some (e.pointer, 4#32) }

/-- INCM, R343. -/
def execIncm (i x : Bool) (base : Base) (off : BitVec 19) (s : State) : Host.Outcome State Fault Refusal :=
  run32 (addToMemory i x base off 1) s

/-- DECM, R344. -/
def execDecm (i x : Bool) (base : Base) (off : BitVec 19) (s : State) : Host.Outcome State Fault Refusal :=
  run32 (addToMemory i x base off (-1)) s

/-- INCF, R345. -/
def execIncf (i x : Bool) (base : Base) (off : BitVec 19) (s : State) : Host.Outcome State Fault Refusal :=
  run32 (addToMemory i x base off 4) s

/-- DECF, R346. -/
def execDecf (i x : Bool) (base : Base) (off : BitVec 19) (s : State) : Host.Outcome State Fault Refusal :=
  run32 (addToMemory i x base off (-4)) s

/-! ## Size check and bitwise logic -/

/-- ISC, R350. -/
def execIsc (s : State) : Host.Outcome State Fault Refusal :=
  run16 (do
    let a ← peek 0
    let t := field a 0 17
    let e ← overflowIf (t != 0 && t != 0x1FFFF#17) 0 0
    putCC (ccWord a)
    pure e) s

/-- The two-operand logic instructions (R351 to R353). -/
def logicTwo (f : Word → Word → Word) : M End := do
  let a ← peek 0
  let b ← peek 1
  checkPop 1
  replaceTwo (f b a)
  putCC (ccWord (f b a))
  pure done

/-- AND, R351. -/
def execAnd (s : State) : Host.Outcome State Fault Refusal := run16 (logicTwo (· &&& ·)) s

/-- OR, R352. -/
def execOr (s : State) : Host.Outcome State Fault Refusal := run16 (logicTwo (· ||| ·)) s

/-- XOR, R353. -/
def execXor (s : State) : Host.Outcome State Fault Refusal := run16 (logicTwo (· ^^^ ·)) s

/-- NOT, R354. -/
def execNot (s : State) : Host.Outcome State Fault Refusal :=
  run16 (do
    let a ← peek 0
    answer (~~~ a)) s

/-- ANDI, R355. -/
def execAndi (n : BitVec 8) (s : State) : Host.Outcome State Fault Refusal :=
  run16 (do
    let a ← peek 0
    answer (a &&& n.setWidth 32)) s

/-- ORI, R356. -/
def execOri (n : BitVec 8) (s : State) : Host.Outcome State Fault Refusal :=
  run16 (do
    let a ← peek 0
    answer (a ||| n.setWidth 32)) s

/-- XORI, R357. -/
def execXori (n : BitVec 8) (s : State) : Host.Outcome State Fault Refusal :=
  run16 (do
    let a ← peek 0
    answer (a ^^^ n.setWidth 32)) s

end Sys2Proof.Machine
end

