-- ==== Sys2Proof/Machine/Control.lean ====
section
/-! DEFINITION. Program control, branch, procedure, dispatcher and debug-aid instructions
(spec/44_program_control.md). -/

namespace Sys2Proof.Machine

/-! ## Branch targets -/

/-- The plan of a transfer inside the segment (R441). -/
def State.localPlan (s : State) (a : Int) : TransferPlan :=
  { segment := none, mode := s.privileged, target := halfAlign (wordOf a) }

/-- `BranchTarget` (R441). -/
def branchTarget (b : Base) (off : Nat) (ind idx : Bool) : M TransferPlan := do
  let s ← get
  let loc := s.baseAddr b off + s.indexOf idx
  if baseIsCode b then
    if ind then do
      let w ← readPointer b loc
      pure (s.localPlan (loc + w.toInt))
    else pure (s.localPlan loc)
  else do
    require ind .branchViolation
    let p ← readPointer b loc
    planTransfer p .branch

/-- A P-relative target, direct or through a self-relative pointer (R444, R446). -/
def relativeTarget (disp : Int) (ind : Bool) : M Word := do
  let s ← get
  let loc : Int := s.P.toNat + disp
  if ind then do
    let w ← readPointer .pPlus loc
    pure (wordOf (loc + w.toInt))
  else pure (wordOf loc)

/-- A signed displacement from its sign and magnitude (R446). -/
def displacement (sign : Bool) (mag : Nat) : Int := if sign then - (mag : Int) else mag

/-- Branch to a P-relative target when the condition holds; an untaken branch evaluates nothing (R446). -/
def branchWhen (take : Bool) (disp : Int) (ind : Bool) : M End := do
  if take then do
    let t ← relativeTarget disp ind
    pure { jump := some t }
  else pure done

/-- The displacement of a format-2 branch (R446). -/
def shortDisp (sign : Bool) (off : BitVec 6) : Int := displacement sign (2 * off.toNat)

/-! ## Branches -/

/-- BR, R442. -/
def execBr (i x : Bool) (base : Base) (off : BitVec 19) (s : State) : Host.Outcome State Fault Refusal :=
  run32 (do
    let t ← branchTarget base off.toNat i x
    commitTransfer t
    pure { jump := some t.target }) s

/-- BRSI, R443, refused through an external pointer on CPU_REV le33 (R726). -/
def execBrsi (b3 : Bool) (s : State) : Host.Outcome State Fault Refusal :=
  run16 (do
    let s ← get
    let p ← readPointer .sMinus (s.baseAddr .sMinus 0 + s.indexOf b3)
    insist (s.cfg.rev != .le33 || !bit p 0) .revisionBug
    let t ← planTransfer p .branch
    t.during (checkPop 1)
    dropWords 1
    commitTransfer t
    pure { jump := some t.target }) s

/-- BCC, R444. -/
def execBcc (i : Bool) (ccf : BitVec 3) (sign : Bool) (off : BitVec 19) (s : State) :
    Host.Outcome State Fault Refusal :=
  run32 (do
    let s ← get
    branchWhen (ccSelected s.cc ccf) (displacement sign off.toNat) i) s

/-- BCCS, R445. -/
def execBccs (i : Bool) (ccf : BitVec 3) (sign : Bool) (off : BitVec 8) (s : State) :
    Host.Outcome State Fault Refusal :=
  run16 (do
    let s ← get
    branchWhen (ccSelected s.cc ccf) (displacement sign (2 * off.toNat)) i) s

/-- BCY and BNC: branch when Carry equals `want`; Carry is cleared (R447, R448; R35 says
otherwise, DEDUCED: entry 46 of the log). -/
def branchCarry (want i sign : Bool) (off : BitVec 6) : M End := do
  let s ← get
  modify (·.setCarry false)
  branchWhen (s.carry == want) (shortDisp sign off) i

/-- BOV and BNO: branch when Overflow equals `want`; Overflow is cleared (R449, R450). -/
def branchOverflow (want i sign : Bool) (off : BitVec 6) : M End := do
  let s ← get
  modify (·.setO false)
  branchWhen (s.overflow == want) (shortDisp sign off) i

/-- BRZ, BRE and BRO: the TOS is deleted; branch when the test holds of it (R451 to R453). -/
def branchTop (test : Word → Bool) (i sign : Bool) (off : BitVec 6) : M End := do
  let a ← peek 0
  checkPop 1
  dropWords 1
  branchWhen (test a) (shortDisp sign off) i

/-- BCY, R447. -/
def execBcy (i sign : Bool) (off : BitVec 6) (s : State) : Host.Outcome State Fault Refusal :=
  run16 (branchCarry true i sign off) s

/-- BNC, R448. -/
def execBnc (i sign : Bool) (off : BitVec 6) (s : State) : Host.Outcome State Fault Refusal :=
  run16 (branchCarry false i sign off) s

/-- BOV, R449. -/
def execBov (i sign : Bool) (off : BitVec 6) (s : State) : Host.Outcome State Fault Refusal :=
  run16 (branchOverflow true i sign off) s

/-- BNO, R450. -/
def execBno (i sign : Bool) (off : BitVec 6) (s : State) : Host.Outcome State Fault Refusal :=
  run16 (branchOverflow false i sign off) s

/-- BRZ, R451. -/
def execBrz (i sign : Bool) (off : BitVec 6) (s : State) : Host.Outcome State Fault Refusal :=
  run16 (branchTop (fun a => a == 0#32) i sign off) s

/-- BRE, R452. -/
def execBre (i sign : Bool) (off : BitVec 6) (s : State) : Host.Outcome State Fault Refusal :=
  run16 (branchTop (fun a => !bit a 31) i sign off) s

/-- BRO, R453. -/
def execBro (i sign : Bool) (off : BitVec 6) (s : State) : Host.Outcome State Fault Refusal :=
  run16 (branchTop (fun a => bit a 31) i sign off) s

/-- CRB, R454. -/
def execCrb (i sign : Bool) (off : BitVec 6) (s : State) : Host.Outcome State Fault Refusal :=
  run16 (do
    let s ← get
    checkPop 2
    let a ← peek 0
    let b ← peek 1
    let c ← peek 2
    if b.toInt ≤ c.toInt ∧ c.toInt ≤ a.toInt then do
      dropWords 2
      putCC ccE
      pure done
    else if off = 0 then do
      putCC ccE
      pure { own := some (.check, some s.CIR) }
    else do
      dropWords 2
      putCC ccG
      branchWhen true (shortDisp sign off) i) s

/-- BIR, R455. -/
def execBir (i sign : Bool) (off : BitVec 6) (s : State) : Host.Outcome State Fault Refusal :=
  run16 (do
    let s ← get
    if s.inexact then do
      modify (·.setInexact false)
      if off = 0 then pure { own := some (.floatResult, some ((field s.CIR 16 16).setWidth 32)) }
      else branchWhen true (shortDisp sign off) i
    else pure done) s

/-- BUN, R459. -/
def execBun (i sign : Bool) (off : BitVec 6) (s : State) : Host.Outcome State Fault Refusal :=
  run16 (do
    let s ← get
    branchWhen (s.cc == 0b11#2) (shortDisp sign off) i) s

/-! ## NOP, STOP, WAIT -/

/-- NOP, R460. -/
def execNop (s : State) : Host.Outcome State Fault Refusal := run16 (pure done) s

/-- The SB-relative value of S is stored below SB (R466, R644). -/
def saveS : M Unit := do
  let s ← get
  writeWord (s.SB - 4#32) (s.S - s.SB)

/-- STOP, R466: halt, or sleep with the MASK and STATUS that the wake-up restores. DESIGN CHOICE: P stays at the STOP of
a halted CPU, as it does in the sleep that completes on waking (entry 21 of the log). -/
def execStop (b3 : Bool) (s : State) : Host.Outcome State Fault Refusal :=
  run16 (do
    requirePrivileged
    let s ← get
    if b3 then do
      checkPop 1
      if s.SB ≠ 0#32 then saveS
      let m ← peek 0
      dropWords 1
      modify fun t => { t.setI true with MASK := m, run := .sleeping s.MASK s.STATUS }
    else do
      if s.SB ≠ 0#32 then saveS
      modify fun t => { t with run := .halted }
    pure { stay := true }) s

/-- WAIT, R467: the count goes to 0, or to what is left of it at the poll that suspends the instruction (R626). -/
def execWait (b3 : Bool) (s : State) : Host.Outcome State Fault Refusal :=
  runKeep16 (do
    modify fun s => { s with debugPad5 := b3 }
    let a ← peek 0
    let s ← get
    let k := (s.poll.map (·.iteration)).getD 0
    let r ← (if k < a.toNat then do
        if 0 < k then poke 0 (a - BitVec.ofNat 32 k)
        pollBefore k
      else pure .quiet : M PollEnd)
    match r with
    | .reset => pure aborted
    | .interrupt => suspend
    | .quiet => do
      poke 0 0#32
      modify (·.setPending false)
      pure done) s

/-! ## Procedure call and exit -/

/-- PCL and PCLS (R470): `ilen` is the length of the instruction. -/
def callBody (off : BitVec 19) (ilen : Nat) : M End := do
  let s ← get
  let t ← (if off = 0 then do
      let p ← peek 0
      let t ← planTransfer p .call
      t.during (checkPop 1)
      dropWords 1
      pure t
    else do
      let len ← readWord s.PL
      require (off.toNat ≤ (field len 13 19).toNat) .sttViolation (some 1#32)
      let p ← readWord (s.PL - off.setWidth 32)
      planTransfer p .call : M TransferPlan)
  pushMarker (s.P + BitVec.ofNat 32 ilen)
  commitTransfer t
  pure { jump := some t.target }

/-- PCL, R470. -/
def execPcl (off : BitVec 19) (s : State) : Host.Outcome State Fault Refusal := run32 (callBody off 4) s

/-- PCLS, R471. -/
def execPcls (n : BitVec 8) (s : State) : Host.Outcome State Fault Refusal := run16 (callBody (4 * n.setWidth 19) 2) s

/-- EXIT, R472. -/
def execExit (n : BitVec 8) (s : State) : Host.Outcome State Fault Refusal :=
  run16 (do
    let s ← get
    exitCore n.toNat (!s.privileged)) s

/-- SXIT, R473. -/
def execSxit (n : BitVec 8) (s : State) : Host.Outcome State Fault Refusal :=
  run16 (do
    let s ← get
    let ra ← peek 0
    checkPop (1 + n.toNat)
    dropWords (1 + n.toNat)
    pure { jump := some (s.PB + ra) }) s

/-! ## Dispatcher and interrupt exit -/

/-- Whether dispatching is disabled now (R475): the CPU is on the ICS, or the count below QI is not 0. -/
def dispatchDisabled (qi : Word) : M Bool := do
  let s ← get
  if s.icsFlag then pure true
  else do
    let count ← readWord (qi - 16#32)
    pure (count != 0#32)

/-- DISP after its mode test (R475), for DISP itself and for PSEB (R477). A stack overflow found on leaving the stack
makes its frame first, with the mask that its handler's IXIT restores, and the dispatcher starts on top of it (R621,
R647; DEDUCED, entry 33 of the log). -/
def dispatch : M End := do
  let s ← get
  let qi ← readQi
  let disabled ← dispatchDisabled qi
  if disabled then do
    let w ← readWord qi
    writeWord qi (setBit w 0 true)
    putCC ccG
    pure done
  else do
    putCC ccE
    pushMarker (s.P + 2#32)
    saveS
    let t ← get
    loadIcs
    let overflowed := t.stackOverflowed
    if overflowed then do
      saveMask
      overflowFrame
    startDispatcher overflowed

/-- DISP, R475. -/
def execDisp (s : State) : Host.Outcome State Fault Refusal :=
  run16 (do
    requirePrivileged
    undoing dispatch) s

/-- PSDB, R476. -/
def execPsdb (s : State) : Host.Outcome State Fault Refusal :=
  run16 (do
    requirePrivileged
    let qi ← readQi
    let count ← readWord (qi - 16#32)
    writeWord (qi - 16#32) (count + 1#32)
    pure done) s

/-- PSEB, R477. -/
def execPseb (s : State) : Host.Outcome State Fault Refusal :=
  run16 (do
    requirePrivileged
    let s ← get
    let qi ← readQi
    let count ← readWord (qi - 16#32)
    require (count != 0#32) .systemError (some 0#32)
    undoing (do
      writeWord (qi - 16#32) (count - 1#32)
      let asked ← (if count = 1#32 then do
          let w ← readWord qi
          pure (bit w 0)
        else pure false : M Bool)
      if asked then
        if s.dispFlag then startDispatcher false else dispatch
      else do
        putCC ccL
        pure done)) s

/-- The return within the ICS (R474 cases 4, 5, 6). -/
def returnWithinIcs (w : Word) : M End := do
  let s ← get
  if bit w 0 then modify fun s => { s with dispFlag := true }
  writeWord s.Q (setBit w 0 false)
  let dsp ← readWord (s.Q + 4#32)
  setDbDl dsp
  writeWord s.SB dsp
  exitCore 0 false

/-- A dispatch has been asked for and is not disabled (R474 cases 7 and 8). -/
def dispatchDue : M Bool := do
  let qi ← readQi
  let w ← readWord qi
  if bit w 0 then do
    let count ← readWord (qi - 16#32)
    pure (count == 0#32)
  else pure false

/-- IXIT, R474: only the exit to code that was the dispatcher, or to a process, looks at QI; its interruption on
CPU_REV le33 and r40 is refused (R721). -/
def execIxit (s : State) : Host.Outcome State Fault Refusal :=
  run16 (do
    requirePrivileged
    let s ← get
    insist (s.cfg.rev == .fixed || !s.interruptPending) .revisionBug
    undoing (if s.dispFlag then do
        modify fun s => { s with dispFlag := false }
        returnToProcess
      else do
        let mask ← readWord (s.Q + 8#32)
        modify fun s => { s with MASK := mask }
        let w ← readWord s.Q
        let due ← (if bit w 0 then dispatchDue else pure false : M Bool)
        if due then startDispatcher false
        else if field w 1 31 = 0 then returnToProcess
        else returnWithinIcs w)) s

/-! ## Debugging aids -/

/-- A debug-aid trap at the end of the instruction when its STATUS bit is set (R480 to R489). -/
def debugTrap (c : Bool) (t : Trap) (param : Option Word) : M End :=
  pure (if c then { own := some (t, param) } else done)

/-- SOL, R480. -/
def execSol (n : BitVec 8) (s : State) : Host.Outcome State Fault Refusal :=
  run16 (debugTrap s.startLine .startOfLine (some (n.setWidth 32))) s

/-- SOLC, R481. -/
def execSolc (n : BitVec 8) (s : State) : Host.Outcome State Fault Refusal :=
  run16 (do
    let s ← get
    require (s.Q != s.S) .boundsViolation
    writeWord (s.Q + 4#32) (s.P - s.PB)
    let w ← readWord (s.SB + 4#32)
    debugTrap (w != 0#32) .startOfLineCheck (some (n.setWidth 32))) s

/-- SOP, R486. -/
def execSop (n : BitVec 8) (s : State) : Host.Outcome State Fault Refusal :=
  run16 (do
    modify fun s => { s with STATUS := setField s.STATUS 0 5 0 }
    debugTrap s.overallDebug .startOfProcedure (some (n.setWidth 32))) s

/-- EOP, R487. -/
def execEop (s : State) : Host.Outcome State Fault Refusal := run16 (debugTrap s.endProc .endOfProcedure none) s

/-- SOS, R488. -/
def execSos (n : BitVec 8) (s : State) : Host.Outcome State Fault Refusal :=
  run16 (debugTrap s.startSub .startOfSubroutine (some (n.setWidth 32))) s

/-- EOS, R489. -/
def execEos (s : State) : Host.Outcome State Fault Refusal := run16 (debugTrap s.endSub .endOfSubroutine none) s

end Sys2Proof.Machine
end

