-- ==== Sys2Proof/Machine/Float.lean ====
section
/-! DEFINITION. Binary floating-point numbers (spec/43_float_decimal.md rules R390 to R392): classification, the exact
value, rounding, and the delivery of a result; and the decimal formats (R420). -/

namespace Sys2Proof.Machine

/-! ## Formats -/

/-- A binary format (R390). -/
structure FloatFormat where
  expBits : Nat
  fracBits : Nat
  deriving DecidableEq, Repr

/-- The 32-bit format (R390). -/
def single : FloatFormat := { expBits := 8, fracBits := 23 }

/-- The 64-bit format (R390). -/
def double : FloatFormat := { expBits := 11, fracBits := 52 }

/-- 127 or 1023 (R390). -/
def FloatFormat.bias (f : FloatFormat) : Nat := 2 ^ (f.expBits - 1) - 1

/-- The exponent field of all ones (R390). -/
def FloatFormat.top (f : FloatFormat) : Nat := 2 ^ f.expBits - 1

/-- The three fields of a number (R390). -/
structure Unpacked where
  neg : Bool
  exponent : Nat
  fraction : Nat
  deriving DecidableEq, Repr

/-- Split the bits of a number (R390). -/
def FloatFormat.unpack (f : FloatFormat) (v : Nat) : Unpacked :=
  { neg := v.testBit (f.expBits + f.fracBits), exponent := v / 2 ^ f.fracBits % 2 ^ f.expBits,
    fraction := v % 2 ^ f.fracBits }

/-- Join the fields of a number (R390). -/
def FloatFormat.pack (f : FloatFormat) (u : Unpacked) : Nat :=
  u.neg.toNat * 2 ^ (f.expBits + f.fracBits) + u.exponent % 2 ^ f.expBits * 2 ^ f.fracBits
    + u.fraction % 2 ^ f.fracBits

/-- The five classes of R390. -/
inductive FloatClass where
  | zero | normal | denormal | infinity | nan
  deriving DecidableEq, Repr

/-- `classify(x)` (R390). -/
def FloatFormat.classify (f : FloatFormat) (u : Unpacked) : FloatClass :=
  if u.exponent = 0 then (if u.fraction = 0 then .zero else .denormal)
  else if u.exponent = f.top then (if u.fraction = 0 then .infinity else .nan)
  else .normal

/-- An exact number `mant * 2^exp` (R390). -/
structure Dyadic where
  mant : Int
  exp : Int
  deriving DecidableEq, Repr

/-- The value of a zero or normal number (R390). -/
def FloatFormat.value (f : FloatFormat) (u : Unpacked) : Dyadic :=
  let m : Int := if u.exponent = 0 then 0 else (2 ^ f.fracBits + u.fraction : Nat)
  { mant := if u.neg then - m else m, exp := (u.exponent : Int) - f.bias - f.fracBits }

/-- The integer `mant * 2^(exp - e)` for e not above exp. -/
def Dyadic.scaled (d : Dyadic) (e : Int) : Int := d.mant * 2 ^ (d.exp - e).toNat

/-- The exact sum. -/
def Dyadic.add (x y : Dyadic) : Dyadic :=
  let e := min x.exp y.exp
  { mant := x.scaled e + y.scaled e, exp := e }

/-- The numerator of the magnitude. -/
def Dyadic.num (d : Dyadic) : Nat := d.mant.natAbs * 2 ^ d.exp.toNat

/-- The denominator of the magnitude. -/
def Dyadic.den (d : Dyadic) : Nat := 2 ^ (- d.exp).toNat

/-- CCC of two exact numbers (R398). -/
def Dyadic.compare (x y : Dyadic) : BitVec 2 :=
  let e := min x.exp y.exp
  ccCompare (x.scaled e) (y.scaled e)

/-! ## Rounding -/

/-- A positive number rounded to the precision of a format, its exponent unbounded (R392): the significand with its
leading one, the exponent of that one, and the three bits of the trap parameter. -/
structure Rounded where
  sig : Nat
  exp : Int
  lsb : Bool
  round : Bool
  sticky : Bool
  deriving DecidableEq, Repr

/-- The exponent E with 2^E <= num/den < 2^(E+1), for positive num and den. -/
def binaryExponent (num den : Nat) : Int :=
  let e : Int := (Nat.log2 num : Int) - Nat.log2 den
  if num * 2 ^ (- e).toNat < den * 2 ^ e.toNat then e - 1 else e

/-- Whether the four rounding methods of R390 round the magnitude up. -/
def roundsUp (rm : BitVec 2) (neg lsb round sticky : Bool) : Bool :=
  match rm.toNat with
  | 0 => round && (sticky || lsb)
  | 1 => !neg && (round || sticky)
  | 2 => false
  | _ => neg && (round || sticky)

/-- Round the positive number num/den (R392). -/
def FloatFormat.round (f : FloatFormat) (rm : BitVec 2) (neg : Bool) (num den : Nat) : Rounded :=
  let e := binaryExponent num den
  let k : Int := f.fracBits + 1 - e
  let n := num * 2 ^ k.toNat
  let d := den * 2 ^ (- k).toNat
  let q2 := n / d
  let sticky := n % d != 0
  let q := q2 / 2
  let lsb := q % 2 == 1
  let rb := q2 % 2 == 1
  let q' := if roundsUp rm neg lsb rb sticky then q + 1 else q
  if q' = 2 ^ (f.fracBits + 1) then { sig := 2 ^ f.fracBits, exp := e + 1, lsb := lsb, round := rb, sticky := sticky }
  else { sig := q', exp := e, lsb := lsb, round := rb, sticky := sticky }

/-- The rounded value differs from the exact one (R392). -/
def Rounded.inexact (r : Rounded) : Bool := r.round || r.sticky

/-- The biased exponent of a rounded number. -/
def FloatFormat.biased (f : FloatFormat) (r : Rounded) : Int := r.exp + f.bias

/-- The bits of a rounded number with the exponent field ef. -/
def FloatFormat.build (f : FloatFormat) (neg : Bool) (ef : Int) (sig : Nat) : Nat :=
  f.pack { neg := neg, exponent := (ef % 2 ^ f.expBits).toNat, fraction := sig % 2 ^ f.fracBits }

/-- A signed zero. -/
def FloatFormat.zero (f : FloatFormat) (neg : Bool) : Nat := f.pack { neg := neg, exponent := 0, fraction := 0 }

/-- FP_WRAP_ADJUST (R392, entry U12). -/
def Config.wrap (c : Config) (f : FloatFormat) : Int := if f = single then c.wrapSingle else c.wrapDouble

/-- A delivered result (R392): its bits, IR, and the Result Trap parameter bits 11-15 when it traps. -/
structure Delivered where
  bits : Nat
  inexact : Bool
  trap : Option Nat
  deriving DecidableEq, Repr

/-- Bits 11-15 of the Result Trap parameter, in place (R611). -/
def resultBits (r : Rounded) (tooBig : Bool) : Nat :=
  r.lsb.toNat * 2 ^ 20 + r.round.toNat * 2 ^ 19 + r.sticky.toNat * 2 ^ 18 + (if tooBig then 2 ^ 17 else 2 ^ 16)

/-- Result delivery for the number (-1)^neg * num/den (R392); zeroNeg is the sign of an exact zero. -/
def FloatFormat.deliver (f : FloatFormat) (wrap : Int) (rm : BitVec 2) (neg : Bool) (num den : Nat)
    (zeroNeg : Bool) : Delivered :=
  if num = 0 then { bits := f.zero zeroNeg, inexact := false, trap := none }
  else
    let r := f.round rm neg num den
    let ef := f.biased r
    if (f.top : Int) ≤ ef then
      { bits := f.build neg (ef - wrap) r.sig, inexact := r.inexact, trap := some (resultBits r true) }
    else if ef < 1 then
      { bits := f.build neg (ef + wrap) r.sig, inexact := r.inexact, trap := some (resultBits r false) }
    else { bits := f.build neg ef r.sig, inexact := r.inexact, trap := none }

/-- Deliver an exact number. -/
def FloatFormat.deliverDyadic (f : FloatFormat) (wrap : Int) (rm : BitVec 2) (d : Dyadic) (zeroNeg : Bool) : Delivered :=
  f.deliver wrap rm (decide (d.mant < 0)) d.num d.den zeroNeg

/-- Sum (R392): an exact zero of operands with opposite effective signs is +0, or -0 when RM = 11. PRESUMED: a zero of
operands with equal effective signs, which R392 leaves open, has the sign of both (entry 50 of the log). -/
def FloatFormat.addition (f : FloatFormat) (wrap : Int) (rm : BitVec 2) (x y : Unpacked) : Delivered :=
  f.deliverDyadic wrap rm ((f.value x).add (f.value y)) (if x.neg = y.neg then x.neg else rm == 0b11#2)

/-- Difference (R392, R394). -/
def FloatFormat.subtraction (f : FloatFormat) (wrap : Int) (rm : BitVec 2) (x y : Unpacked) : Delivered :=
  f.addition wrap rm x { y with neg := !y.neg }

/-- Product (R392, R395). -/
def FloatFormat.product (f : FloatFormat) (wrap : Int) (rm : BitVec 2) (x y : Unpacked) : Delivered :=
  f.deliverDyadic wrap rm { mant := (f.value x).mant * (f.value y).mant, exp := (f.value x).exp + (f.value y).exp }
    (x.neg != y.neg)

/-- Quotient of a number by one that is not zero (R392, R396). -/
def FloatFormat.quotient (f : FloatFormat) (wrap : Int) (rm : BitVec 2) (x y : Unpacked) : Delivered :=
  f.deliver wrap rm (x.neg != y.neg) ((f.value x).num * (f.value y).den) ((f.value x).den * (f.value y).num)
    (x.neg != y.neg)

/-- The integer part of a magnitude, or the magnitude plus one half (R409). -/
def Dyadic.integerPart (d : Dyadic) (half : Bool) : Nat :=
  if half then (2 * d.num + d.den) / (2 * d.den) else d.num / d.den

/-- The signed integer of FIXS and FIXD (R409). -/
def Dyadic.fix (d : Dyadic) (half : Bool) : Int :=
  if d.mant < 0 then - (d.integerPart half : Int) else d.integerPart half

/-- `setCCAf` of a delivered result (R390). -/
def FloatFormat.ccFloat (f : FloatFormat) (u : Unpacked) : BitVec 2 :=
  if f.classify u = .zero then ccE else if u.neg then ccL else ccG

/-! ## The two floating-point traps -/

/-- An operand class that traps (R391), as its three parameter bits. -/
def classBits (c : FloatClass) : Nat :=
  match c with
  | .nan => 4
  | .infinity => 2
  | .denormal => 1
  | _ => 0

/-- The Operand Trap with parameter bits 10-12 and 13-15 (R391, R611): a note-1 trap. -/
def operandTrap (below top : Nat) : M End := do
  let s ← get
  pure { own := some (.floatOperand, some (BitVec.ofNat 32 (below * 2 ^ 19 + top * 2 ^ 16)
    ||| (field s.CIR 16 16).setWidth 32)) }

/-- The operand check of a one-operand instruction (R391): k runs on a zero or normal operand. -/
def withOperand (f : FloatFormat) (v : Nat) (k : Unpacked → M End) : M End :=
  let u := f.unpack v
  let c := classBits (f.classify u)
  if c = 0 then k u else operandTrap 0 c

/-- The operand check of a two-operand instruction (R391), operand 2 on top. -/
def withOperands (f : FloatFormat) (v1 v2 : Nat) (k : Unpacked → Unpacked → M End) : M End :=
  let u1 := f.unpack v1
  let u2 := f.unpack v2
  let c1 := classBits (f.classify u1)
  let c2 := classBits (f.classify u2)
  if c1 = 0 ∧ c2 = 0 then k u1 u2 else operandTrap c1 c2

/-- IR, CC and the Result Trap of a delivered result (R392), after the result has been stored. -/
def concludeResult (f : FloatFormat) (d : Delivered) : M End := do
  if d.inexact then modify (·.setInexact true)
  putCC (f.ccFloat (f.unpack d.bits))
  let s ← get
  match d.trap with
  | none => pure done
  | some b => pure { own := some (.floatResult, some (BitVec.ofNat 32 b ||| (field s.CIR 16 16).setWidth 32)) }

/-! ## Decimal numbers -/

/-- The k-digit BCD number in the low 4k bits, none when a digit is above 9 (R420). -/
def bcdValue : Nat → Nat → Option Nat
  | 0, _ => some 0
  | k + 1, v =>
    if 9 < v % 16 then none
    else
      match bcdValue k (v / 16) with
      | none => none
      | some h => some (10 * h + v % 16)

/-- The k low decimal digits of n as BCD (R420). -/
def bcdOf : Nat → Nat → Nat
  | 0, _ => 0
  | k + 1, n => n % 10 + 16 * bcdOf k (n / 10)

/-- The number of decimal digits of n, at most `fuel`. -/
def decimalDigits : Nat → Nat → Nat
  | 0, _ => 0
  | fuel + 1, n => if n = 0 then 0 else 1 + decimalDigits fuel (n / 10)

/-- floor(log10(num/den)) of a positive double (R424). -/
def floorLog10 (num den : Nat) : Int :=
  if den ≤ num then (decimalDigits 400 (num / den) : Int) - 1
  else - (decimalDigits 400 ((den - 1) / num) : Int)

/-- The double nearest to 10^n (R425). -/
def nearestPower (n : Int) : DWord :=
  BitVec.ofNat 64 (double.deliver 0 0#2 false (10 ^ n.toNat) (10 ^ (- n).toNat) false).bits

/-- `PowerPair(n)` (R425): an entry of the configuration, else the default; below -308 the default of R425 is no double,
and 10^(n+308) over 10^308 is taken (DESIGN CHOICE: entry 24 of the log). -/
def Config.powerPair (c : Config) (n : Int) : DWord × DWord :=
  match c.powers.find? (fun e => e.n == n) with
  | some e => (e.a, e.b)
  | none =>
    if 0 ≤ n then (nearestPower n, nearestPower 0)
    else if -308 ≤ n then (nearestPower 0, nearestPower (- n))
    else (nearestPower (n + 308), nearestPower 308)

/-- `ExponentGuess(N)` (R424): exact, or one too high for the doubles that the configuration lists. -/
def Config.exponentGuess (c : Config) (bits : DWord) (d : Dyadic) : Int :=
  floorLog10 d.num d.den + (if bits ∈ c.guessHigh then 1 else 0)

/-- The first 17 digits of a magnitude between 1 and 10, truncated (R424). -/
def seventeenDigits (d : Dyadic) : Nat := d.num * 10 ^ 16 / d.den

end Sys2Proof.Machine
end

