-- ==== Sys2Proof/Machine/StackReg.lean ====
section
/-! DEFINITION. Stack and register manipulation instructions (spec/41_stack_register.md). -/

namespace Sys2Proof.Machine

/-! ## Delete, duplicate, exchange -/

/-- `S <- S - 4k` under the underflow check (R260). -/
def deleteWords (k : Nat) : M End := do
  checkPop k
  dropWords k
  pure done

/-- DEL, R262. -/
def execDel (s : State) : Host.Outcome State Fault Refusal := run16 (deleteWords 1) s

/-- DDEL, R263. -/
def execDdel (s : State) : Host.Outcome State Fault Refusal := run16 (deleteWords 2) s

/-- DELB, R264. -/
def execDelb (s : State) : Host.Outcome State Fault Refusal :=
  run16 (do
    let a ← peek 0
    checkPop 1
    poke 1 a
    dropWords 1
    pure done) s

/-- DUP, R265; ESCP on CPU_REV le33 asks whether the instruction before it was a DUP (R725). -/
def execDup (s : State) : Host.Outcome State Fault Refusal :=
  runBody 2 true (atomic (do
    let a ← peek 0
    pushAnswer a)) s

/-- DDUP, R266. -/
def execDdup (s : State) : Host.Outcome State Fault Refusal :=
  run16 (do
    let d ← peekDouble 0
    pushDouble d
    putCC (ccDouble d)
    pure done) s

/-- XCH, R267. -/
def execXch (s : State) : Host.Outcome State Fault Refusal :=
  run16 (do
    let a ← peek 0
    let b ← peek 1
    poke 1 a
    answer b) s

/-- DXCH, R268. -/
def execDxch (s : State) : Host.Outcome State Fault Refusal :=
  run16 (do
    let lo ← peekDouble 0
    let hi ← peekDouble 1
    pokeDouble 0 hi
    pokeDouble 1 lo
    putCC (ccDouble hi)
    pure done) s

/-- XAX, R269. -/
def execXax (s : State) : Host.Outcome State Fault Refusal :=
  run16 (do
    let s ← get
    let a ← peek 0
    modify fun s => { s with X := a }
    answer s.X) s

/-- CAB, R270. -/
def execCab (s : State) : Host.Outcome State Fault Refusal :=
  run16 (do
    let a ← peek 0
    let b ← peek 1
    let c ← peek 2
    poke 2 b
    poke 1 a
    answer c) s

/-! ## Index register loads -/

/-- LDXI, R271. -/
def execLdxi (n : BitVec 8) (s : State) : Host.Outcome State Fault Refusal := run16 (setXAnswer (n.setWidth 32)) s

/-- LDXN, R272. -/
def execLdxn (n : BitVec 8) (s : State) : Host.Outcome State Fault Refusal := run16 (setXAnswer (- n.setWidth 32)) s

/-- LDX, R273. -/
def execLdx (i x : Bool) (base : Base) (off : BitVec 19) (s : State) : Host.Outcome State Fault Refusal :=
  run32 (do
    let e ← effective base off.toNat i x false 0
    let v ← readWord e.addr
    setXAnswer v) s

/-! ## Tests -/

/-- Set CC and pop k words when the pop option is set (R274, R275, R276). -/
def testAnd (cc : BitVec 2) (pop : Bool) (k : Nat) : M End := do
  if pop then do
    checkPop k
    dropWords k
  putCC cc
  pure done

/-- TEST, R274. -/
def execTest (b3 : Bool) (s : State) : Host.Outcome State Fault Refusal :=
  run16 (do
    let a ← peek 0
    testAnd (ccWord a) b3 1) s

/-- TSTB, R275. -/
def execTstb (b3 : Bool) (s : State) : Host.Outcome State Fault Refusal :=
  run16 (do
    let a ← peek 0
    testAnd (ccByte (field a 24 8)) b3 1) s

/-- TSTD, R276. -/
def execTstd (b3 : Bool) (s : State) : Host.Outcome State Fault Refusal :=
  run16 (do
    let d ← peekDouble 0
    testAnd (ccDouble d) b3 2) s

/-! ## Moving S -/

/-- ADDS, R277. -/
def execAdds (n : BitVec 8) (s : State) : Host.Outcome State Fault Refusal :=
  run16 (do
    requirePrivileged
    let s ← get
    let newS ← (if n = 0 then do
        let a ← peek 0
        pure ((s.S.toNat : Int) - 4 + 4 * a.toInt)
      else pure ((s.S.toNat : Int) + 4 * n.toNat) : M Int)
    require (decide (newS ≤ s.SL.toNat)) .stackOverflow
    require (decide ((s.Q.toNat : Int) ≤ newS)) .stackUnderflow
    modify fun s => { s with S := wordOf newS }
    pure done) s

/-- N copies of v from the word after `s0` up (R278). -/
def fillWords (v : Word) : Nat → Word → M Unit
  | 0, _ => pure ()
  | n + 1, a => do
    writeWord (a + 4#32) v
    fillWords v n (a + 4#32)

/-- PSHN, R278. -/
def execPshn (b3 : Bool) (s : State) : Host.Outcome State Fault Refusal :=
  run16 (do
    let s ← get
    let temp ← (if b3 then do
        checkPop 1
        peek 0
      else pure 0#32 : M Word)
    let s0 : Word := if b3 then s.S - 4#32 else s.S
    let n := s.X.toInt
    if 0 < n then do
      require (decide ((s0.toNat : Int) + 4 * n ≤ s.SL.toNat)) .stackOverflow
      fillWords temp n.toNat s0
      modify fun s => { s with S := s0 + 4#32 * s.X, X := 0#32 }
      putCC (ccWord temp)
    else modify fun s => { s with S := s0 }
    pure done) s

/-- SUBS, R279. -/
def execSubs (n : BitVec 8) (s : State) : Host.Outcome State Fault Refusal :=
  run16 (do
    if n = 0 then do
      let a ← peek 0
      deleteWords (1 + a.toInt.toNat)
    else deleteWords n.toNat) s

/-! ## Register push and set -/

/-- Push v when the select bit is set. -/
def pushIf (c : Bool) (v : Word) : M Unit := if c then push v else pure ()

/-- The seven-register block of PSHR (R283). -/
def pushBlock (block : Bool) : M Unit := do
  let s ← get
  pushIf block s.P
  pushIf block s.PB
  pushIf block s.PL
  pushIf block s.DB
  pushIf block s.DL
  pushIf block s.SB
  pushIf block s.SL

/-- PSHR, R283: `sel` is CIR(26:6), its bit 0 CIR(26:1). -/
def execPshr (block : Bool) (sel : BitVec 6) (s : State) : Host.Outcome State Fault Refusal :=
  run16 (do
    let s ← get
    if s.cfg.pshrBlockFirst then pushBlock block
    let t ← get
    pushIf (bit sel 5) (t.S - s.SB)
    pushIf (bit sel 4) (s.Q - s.SB)
    pushIf (bit sel 3) s.STATUS
    pushIf (bit sel 2) s.DST
    pushIf (bit sel 1) s.BRKPT
    pushIf (bit sel 0) (s.FLAGS.setWidth 32)
    if s.cfg.pshrBlockFirst = false then pushBlock block
    pure done) s

/-- `mergeStatus(old, v)` (R284): the bits of v that a SETR in the given mode takes. -/
def mergeStatus (privileged : Bool) (old v : Word) : Word :=
  let mask : Word := if privileged then 0xFFBFE000#32 else 0xFFB8C000#32
  (v &&& mask) ||| (old &&& ~~~ mask)

/-- `FLAGS` after SETR (R284, R48): in unprivileged mode only the user bits 0, 2, 4, 6. -/
def mergeFlags (privileged : Bool) (old f : Byte) : Byte :=
  if privileged then f else (old &&& 0b01010101#8) ||| (f &&& 0b10101010#8)

/-- A pop of SETR under the underflow check (R260). -/
def popWord : M Word := do
  let v ← peek 0
  checkPop 1
  dropWords 1
  pure v

/-- `SB < Q and Q < S and S < SL` (R284). -/
def State.stackConsistent (s : State) : Bool :=
  decide (s.SB.toNat < s.Q.toNat) && decide (s.Q.toNat < s.S.toNat) && decide (s.S.toNat < s.SL.toNat)

/-- SETR, R284: every pop is tested before anything is written; `sel` is CIR(26:6). -/
def execSetr (sel : BitVec 6) (s : State) : Host.Outcome State Fault Refusal :=
  runKeep16 (do
    let s0 ← get
    require (s0.privileged || !(bit sel 1 || bit sel 2 || bit sel 5)) .privilegedMode (some 1#32)
    checkPop ((bit sel 0).toNat + (bit sel 1).toNat + (bit sel 2).toNat + (bit sel 3).toNat + (bit sel 4).toNat)
    if bit sel 0 then do
      let v ← popWord
      modify fun s => { s with FLAGS := mergeFlags s0.privileged s.FLAGS (field v 24 8) }
    if bit sel 1 then do
      let v ← popWord
      modify fun s => { s with BRKPT := v }
    if bit sel 2 then do
      let v ← popWord
      modify fun s => { s with DST := v }
    if bit sel 3 then do
      let v ← popWord
      modify fun s => { s with STATUS := mergeStatus s0.privileged s.STATUS v }
    if bit sel 4 then do
      let v ← popWord
      modify fun s => { s with Q := v + s.SB }
    if bit sel 5 then do
      let v ← peek 0
      modify fun s => { s with S := v + s.SB }
    let t ← get
    if (bit sel 4 || bit sel 5) && !t.stackConsistent then do
      modify fun s => { s with Q := s0.Q, S := s0.S }
      raise .inconsistentRegisters (some s0.CIR)
    pure done) s

/-- `DSTentry(n)` with its tests (R285, R137): the entry, owned; its link field is not read (R285). -/
def dstEntryOf (n : BitVec 12) : M DstHead := do
  let s ← get
  let len ← readWord (s.dstBase n)
  checkSegmentNumber (field n 1 11) len
  readDstHead n

/-- The tests of XGDS on the entry of the new global segment (R285, R139). DESIGN CHOICE: a paged entry is refused (U8)
before them (entry 45 of the log). -/
def checkGlobal (n : BitVec 12) (w0 : Word) : M Unit := do
  let s ← get
  insist (!bit w0 26) .pagedGlobalSegment
  require (bit w0 27) .dataSegmentWrite
  require (!bit w0 30 || s.privileged) .privilegedModeData
  if bit w0 31 then raiseAbsent .absentDataSegment (n.setWidth 32)
  require (useCount w0 ≠ 4095#12) .systemError (some 1#32)

/-- The test of XGDS on the entry of the old global segment (R285, R139), which is not the entry e of the new one: its
use count is not 0. -/
def checkOldGlobal (old : BitVec 12) (e : DstHead) : M Unit := do
  let s ← get
  let len ← readWord (s.dstBase old)
  checkSegmentNumber (field old 1 11) len
  let a ← dstAddress old
  if wordAlign a ≠ wordAlign e.addr then do
    let c ← readCount a
    require (c ≠ 0) .systemError (some 1#32)

/-- XGDS, R285: every test first; the increment comes before the decrement, so a segment exchanged with itself keeps its
count. -/
def execXgds (s : State) : Host.Outcome State Fault Refusal :=
  run16 (do
    let s ← get
    let p ← peek 0
    let n := field p 1 12
    let e ← dstEntryOf n
    let tcb ← e.during (do
      checkGlobal n e.w0
      let w ← readWord (s.cpuBlock + 4#32)
      absAddress (w.toNat + 8))
    let segs ← readWord tcb
    let old := field segs 20 12
    let dl ← e.during (do
      checkOldGlobal old e
      absAddress (e.loc.toNat + e.lenM1.toNat))
    modify fun s => { s with DB := e.loc, DL := dl }
    release e.addr (setField e.w0 1 12 (useCount e.w0 + 1))
    writeWord tcb (setField segs 20 12 n)
    poke 0 (setField p 1 12 old)
    let oe ← dstAddress old
    decUse oe
    pure done) s

/-! ## Shifts -/

/-- Replace the TOS word by `f` of it and set CC = CCA (R290). -/
def shiftTop (f : Word → Word) : M End := do
  let a ← peek 0
  answer (f a)

/-- LSL of a word (R293). -/
def shiftLeft (v : Word) (n : Nat) : Word := v <<< n

/-- ASR rounds toward zero (R292): the magnitude is shifted, then the sign restored. -/
def shiftArith (v : Word) (n : Nat) : Word :=
  let q : Int := v.toInt.natAbs / 2 ^ n
  wordOf (if v.toInt < 0 then - q else q)

/-- ASL, R291. -/
def execAsl (x : Bool) (cnt : BitVec 6) (s : State) : Host.Outcome State Fault Refusal :=
  run16 (do
    let s ← get
    let a ← peek 0
    let r : Int := a.toInt * 2 ^ s.shiftCount x cnt
    let e ← overflowIf (overflows32 r) 0 1
    poke 0 (wordOf r)
    putCC (ccWord (wordOf r))
    pure e) s

/-- ASR, R292. -/
def execAsr (x : Bool) (cnt : BitVec 6) (s : State) : Host.Outcome State Fault Refusal :=
  run16 (shiftTop fun v => shiftArith v (s.shiftCount x cnt)) s

/-- LSL, R293. -/
def execLsl (x : Bool) (cnt : BitVec 6) (s : State) : Host.Outcome State Fault Refusal :=
  run16 (shiftTop fun v => shiftLeft v (s.shiftCount x cnt)) s

/-- LSR, R294. -/
def execLsr (x : Bool) (cnt : BitVec 6) (s : State) : Host.Outcome State Fault Refusal :=
  run16 (shiftTop fun v => v >>> s.shiftCount x cnt) s

/-- CSL, R295. -/
def execCsl (x : Bool) (cnt : BitVec 6) (s : State) : Host.Outcome State Fault Refusal :=
  run16 (shiftTop fun v => v.rotateLeft (s.shiftCount x cnt % 32)) s

/-- CSR, R296. -/
def execCsr (x : Bool) (cnt : BitVec 6) (s : State) : Host.Outcome State Fault Refusal :=
  run16 (shiftTop fun v => v.rotateRight (s.shiftCount x cnt % 32)) s

/-- LSXL, R297. -/
def execLsxl (x : Bool) (cnt : BitVec 6) (s : State) : Host.Outcome State Fault Refusal :=
  run16 (do
    let s ← get
    setXAnswer (shiftLeft s.X (s.shiftCount x cnt))) s

/-! ## Field extract and deposit -/

/-- The field of EXF (R300): J.. in `v ++ 0`, 32-K bits long, right justified, zero or sign extended. -/
def extractField (v : Word) (k j : Nat) (signed : Bool) : Word :=
  let t := shiftLeft v j
  if signed then t.sshiftRight k else t >>> k

/-- EXF, R300. -/
def execExf (e x : Bool) (k j : BitVec 5) (s : State) : Host.Outcome State Fault Refusal :=
  run32 (do
    let s ← get
    let kj := s.fieldSpec x k j
    let v ← peek 0
    answer (extractField v kj.1 kj.2 e)) s

/-- The word of DPF (R301): the 32-K right-most bits of `src` deposited into t at bit J, bits past 31 lost. -/
def depositField (t src : Word) (k j : Nat) : Word :=
  let mask := ((0xFFFFFFFF#32 <<< k) : Word) >>> j
  (t &&& ~~~ mask) ||| (((src <<< k) >>> j) &&& mask)

/-- DPF, R301. -/
def execDpf (x : Bool) (k j : BitVec 5) (s : State) : Host.Outcome State Fault Refusal :=
  run32 (do
    let s ← get
    let kj := s.fieldSpec x k j
    let src ← peek 0
    let t ← peek 1
    checkPop 1
    let r := depositField t src kj.1 kj.2
    poke 1 r
    dropWords 1
    putCC (ccWord r)
    pure done) s

end Sys2Proof.Machine
end

