-- ==== Sys2Proof/Machine/FloatDec.lean ====
section
/-! DEFINITION. Floating-point, conversion and decimal instructions (spec/43_float_decimal.md). -/

namespace Sys2Proof.Machine

/-- A two-operand operation on doubles (R393 to R396): the underflow is tested first, then the operands; the result
replaces both. -/
def doubleOp (op : Int → BitVec 2 → Unpacked → Unpacked → Delivered) (divides : Bool) : M End := do
  checkPop 2
  let x1 ← peekDouble 1
  let x2 ← peekDouble 0
  withOperands double x1.toNat x2.toNat fun u1 u2 =>
    if divides ∧ double.classify u2 = .zero then operandTrap 0 0
    else do
      let s ← get
      let d := op (Config.wrap s.cfg double) s.rounding u1 u2
      pokeDouble 1 (BitVec.ofNat 64 d.bits)
      dropWords 2
      concludeResult double d

/-- A two-operand operation on singles (R400 to R403): the operand check comes before the test of the pop. -/
def singleOp (op : Int → BitVec 2 → Unpacked → Unpacked → Delivered) (divides : Bool) : M End := do
  let y1 ← peek 1
  let y2 ← peek 0
  withOperands single y1.toNat y2.toNat fun u1 u2 =>
    if divides ∧ single.classify u2 = .zero then operandTrap 0 0
    else do
      checkPop 1
      let s ← get
      let d := op (Config.wrap s.cfg single) s.rounding u1 u2
      replaceTwo (BitVec.ofNat 32 d.bits)
      concludeResult single d

/-! ## Double precision -/

/-- FADD, R393. -/
def execFadd (s : State) : Host.Outcome State Fault Refusal := run16 (doubleOp double.addition false) s

/-- FSUB, R394. -/
def execFsub (s : State) : Host.Outcome State Fault Refusal := run16 (doubleOp double.subtraction false) s

/-- FMPY, R395. -/
def execFmpy (s : State) : Host.Outcome State Fault Refusal := run16 (doubleOp double.product false) s

/-- FDIV, R396. -/
def execFdiv (s : State) : Host.Outcome State Fault Refusal := run16 (doubleOp double.quotient true) s

/-- `(+0) - X` (R397, R404). -/
def FloatFormat.negated (f : FloatFormat) (rm : BitVec 2) (u : Unpacked) : Delivered :=
  f.subtraction 0 rm { neg := false, exponent := 0, fraction := 0 } u

/-- FNEG, R397. -/
def execFneg (s : State) : Host.Outcome State Fault Refusal :=
  run16 (do
    let x ← peekDouble 0
    withOperand double x.toNat fun u => do
      let s ← get
      let d := double.negated s.rounding u
      pokeDouble 0 (BitVec.ofNat 64 d.bits)
      putCC (double.ccFloat (double.unpack d.bits))
      pure done) s

/-- FCMP, R398. -/
def execFcmp (b3 : Bool) (s : State) : Host.Outcome State Fault Refusal :=
  run16 (do
    let x1 ← peekDouble 1
    let x2 ← peekDouble 0
    withOperands double x1.toNat x2.toNat fun u1 u2 => do
      checkPop (if b3 then 4 else 2)
      putCC ((double.value u1).compare (double.value u2))
      dropWords (if b3 then 4 else 2)
      pure done) s

/-- FTST, R399. -/
def execFtst (b3 : Bool) (s : State) : Host.Outcome State Fault Refusal :=
  run16 (do
    let x ← peekDouble 0
    withOperand double x.toNat fun u => testAnd (double.ccFloat u) b3 2) s

/-! ## Single precision and conversions -/

/-- FADS, R400. -/
def execFads (s : State) : Host.Outcome State Fault Refusal := run16 (singleOp single.addition false) s

/-- FSBS, R401. -/
def execFsbs (s : State) : Host.Outcome State Fault Refusal := run16 (singleOp single.subtraction false) s

/-- FMPS, R402. -/
def execFmps (s : State) : Host.Outcome State Fault Refusal := run16 (singleOp single.product false) s

/-- FDVS, R403. -/
def execFdvs (s : State) : Host.Outcome State Fault Refusal := run16 (singleOp single.quotient true) s

/-- FNGS, R404. -/
def execFngs (s : State) : Host.Outcome State Fault Refusal :=
  run16 (do
    let y ← peek 0
    withOperand single y.toNat fun u => do
      let s ← get
      let d := single.negated s.rounding u
      poke 0 (BitVec.ofNat 32 d.bits)
      putCC (single.ccFloat (single.unpack d.bits))
      pure done) s

/-- FCPS, R405. -/
def execFcps (b3 : Bool) (s : State) : Host.Outcome State Fault Refusal :=
  run16 (do
    let y1 ← peek 1
    let y2 ← peek 0
    withOperands single y1.toNat y2.toNat fun u1 u2 => do
      checkPop (if b3 then 2 else 1)
      putCC ((single.value u1).compare (single.value u2))
      dropWords (if b3 then 2 else 1)
      pure done) s

/-- FTSS, R406. -/
def execFtss (b3 : Bool) (s : State) : Host.Outcome State Fault Refusal :=
  run16 (do
    let y ← peek 0
    withOperand single y.toNat fun u => testAnd (single.ccFloat u) b3 1) s

/-- FLTS, R407. -/
def execFlts (s : State) : Host.Outcome State Fault Refusal :=
  run16 (do
    let s ← get
    let a ← peek 0
    let d := single.deliverDyadic 0 s.rounding { mant := a.toInt, exp := 0 } false
    poke 0 (BitVec.ofNat 32 d.bits)
    concludeResult single d) s

/-- FLTD, R408. DEDUCED: the integer 0 gives +0, which R408 does not say (entry 49 of the log). -/
def execFltd (s : State) : Host.Outcome State Fault Refusal :=
  run16 (do
    let a ← peek 0
    let d := double.deliverDyadic 0 0#2 { mant := a.toInt, exp := 0 } false
    let r : DWord := BitVec.ofNat 64 d.bits
    poke 0 (hiWord r)
    push (loWord r)
    putCC (double.ccFloat (double.unpack d.bits))
    pure done) s

/-- FIXS, R409. -/
def execFixs (b3 : Bool) (s : State) : Host.Outcome State Fault Refusal :=
  run16 (do
    let y ← peek 0
    withOperand single y.toNat fun u => arithTop ((single.value u).fix b3)) s

/-- FIXD, R410. -/
def execFixd (b3 : Bool) (s : State) : Host.Outcome State Fault Refusal :=
  run16 (do
    let x ← peekDouble 0
    withOperand double x.toNat fun u => do
      checkPop 1
      let i := (double.value u).fix b3
      replaceTwo (wordOf i)
      let e ← overflowIf (overflows32 i) 0 1
      putCC (ccWord (wordOf i))
      pure e) s

/-- CSDF, R411: the zero word is pushed before the operand check and stays there on a trap. -/
def execCsdf (s : State) : Host.Outcome State Fault Refusal :=
  run16 (do
    let y ← peek 0
    push 0#32
    withOperand single y.toNat fun u => do
      let d := double.deliverDyadic 0 0#2 (single.value u) u.neg
      pokeDouble 0 (BitVec.ofNat 64 d.bits)
      putCC (double.ccFloat (double.unpack d.bits))
      pure done) s

/-- CDSF, R412. DEDUCED: a zero keeps its sign, which R412 and R392 leave open (entry 47 of the log). -/
def execCdsf (s : State) : Host.Outcome State Fault Refusal :=
  run16 (do
    let s ← get
    let x ← peekDouble 0
    withOperand double x.toNat fun u =>
      let d := single.deliverDyadic 0 s.rounding (double.value u) u.neg
      if d.trap.isSome then operandTrap 0 0
      else do
        checkPop 1
        replaceTwo (BitVec.ofNat 32 d.bits)
        concludeResult single d) s

/-- SRM, R413. -/
def execSrm (src : Bool) (mode : BitVec 2) (s : State) : Host.Outcome State Fault Refusal :=
  run16 (do
    if src then do
      let a ← peek 0
      checkPop 1
      modify (·.setRM (field a 30 2))
      dropWords 1
    else modify (·.setRM mode)
    pure done) s

/-! ## Decimal -/

/-- The digit check of DLAD, DLSB and DTB (R420): IllegalDecimalNumber, parameter the instruction. -/
def digits (k v : Nat) : M Nat := do
  let s ← get
  match bcdValue k v with
  | some n => pure n
  | none => raise .illegalDecimal (some s.CIR)

/-- The common end of DLAD and DLSB (R421, R422). -/
def decimalLogical (f : Int → Int → Int) (carryOf : Int → Bool) (ext : Bool) : M End := do
  let a ← peek 0
  let b ← peek 1
  let na ← digits 8 a.toNat
  let nb ← digits 8 b.toNat
  checkPop 1
  let r := f nb na
  logicalResult (BitVec.ofNat 32 (bcdOf 8 (r % 100000000).toNat)) (carryOf r) ext

/-- DLAD, R421. -/
def execDlad (b3 : Bool) (s : State) : Host.Outcome State Fault Refusal :=
  run16 (do
    let s ← get
    decimalLogical (fun b a => b + a + ofFlag (b3 && s.carry)) (fun r => decide (100000000 ≤ r)) b3) s

/-- DLSB, R422. -/
def execDlsb (b3 : Bool) (s : State) : Host.Outcome State Fault Refusal :=
  run16 (do
    let s ← get
    decimalLogical (fun b a => b - a - ofFlag (b3 && !s.carry)) (fun r => decide (0 ≤ r)) b3) s

/-- The power pair replaces the TOS word and three more (R423, R425). -/
def pushPair (ab : DWord × DWord) : M End := do
  poke 0 (hiWord ab.1)
  push (loWord ab.1)
  pushDouble ab.2
  putCC ccG
  pure done

/-- The exponent range of R423 and R425: ExponentSize, parameter the instruction. -/
def requireExponent (c : Bool) : M Unit := do
  let s ← get
  require c .exponentSize (some s.CIR)

/-- The signed 17-digit integer of a decimal number (R420, R423); 0 for zero digits, whatever the sign bit. -/
def decimalInteger (w0 w1 w2 : Word) : M Int := do
  let n ← digits 17 (field w0 16 16 ++ w1 ++ field w2 0 20).toNat
  pure (if bit w0 15 then - (n : Int) else n)

/-- DTB, R423. DEDUCED: seventeen zero digits with sign bit 1, which R423 leaves open, give +0 as those with sign bit 0
do (entry 49 of the log). -/
def execDtb (b3 : Bool) (s : State) : Host.Outcome State Fault Refusal :=
  run16 (do
    let s ← get
    if b3 then do
      let w ← peek 0
      let e : Int := (field w 0 10).toInt
      requireExponent (decide (-308 < e) && decide (e < 308))
      pushPair (Config.powerPair s.cfg (e - 16))
    else do
      let w2 ← peek 0
      let w1 ← peek 1
      let w0 ← peek 2
      let i ← decimalInteger w0 w1 w2
      checkPop 1
      let d := double.deliverDyadic 0 s.rounding { mant := i, exp := 0 } false
      dropWords 1
      pokeDouble 0 (BitVec.ofNat 64 d.bits)
      concludeResult double d) s

/-- The guess form of BTD (R424). -/
def btdGuess : M End := do
  let s ← get
  let n ← peekDouble 0
  withOperand double n.toNat fun u => do
    checkPop 1
    let i : Int := if double.classify u = .zero then 0 else Config.exponentGuess s.cfg n (double.value u)
    replaceTwo (wordOf i)
    putCC (ccWord (wordOf i))
    pure done

/-- The correction of a wrong guess (R424): N is popped and I adjusted. -/
def btdCorrect (i : Word) (cc : BitVec 2) : M End := do
  checkPop 2
  dropWords 2
  poke 0 i
  putCC cc
  pure done

/-- The three words of the decimal number with exponent i (R424, R420). -/
def pokeDecimal (i : Word) (neg : Bool) (n : Nat) : M Unit := do
  let d : BitVec 68 := BitVec.ofNat 68 (bcdOf 17 n)
  poke 2 (setField (setBit (setField 0#32 0 10 (field i 22 10)) 15 neg) 16 16 (field d 0 16))
  poke 1 (field d 16 32)
  poke 0 (setField 0#32 0 20 (field d 48 20))

/-- The digit form of BTD (R424). -/
def btdDigits : M End := do
  let i ← peek 2
  let n ← peekDouble 0
  withOperand double n.toNat fun u => do
    let d := double.value u
    if double.classify u = .zero then do
      poke 2 0#32
      poke 1 0#32
      poke 0 0#32
      putCC ccE
      pure done
    else if d.num < d.den then btdCorrect (i - 1#32) ccL
    else if 10 * d.den ≤ d.num then btdCorrect (i + 1#32) ccG
    else do
      requireExponent (decide (-512 < i.toInt) && decide (i.toInt < 511))
      pokeDecimal i u.neg (seventeenDigits d)
      putCC ccE
      pure done

/-- BTD, R424. -/
def execBtd (b3 : Bool) (s : State) : Host.Outcome State Fault Refusal :=
  run16 (if b3 then btdGuess else btdDigits) s

/-- POT, R425. -/
def execPot (s : State) : Host.Outcome State Fault Refusal :=
  run16 (do
    let s ← get
    let a ← peek 0
    requireExponent (decide (-308 < a.toInt) && decide (a.toInt < 308))
    pushPair (Config.powerPair s.cfg a.toInt)) s

end Sys2Proof.Machine
end

