-- ==== Sys2Proof/Machine/Io.lean ====
section
/-! DEFINITION. I/O and interrupt instructions (spec/46_io_interrupt.md) and the MPB operations they share with the
channel instructions (R540, R545). -/

namespace Sys2Proof.Machine

/-! ## The MPB -/

/-- `PreCheckMPB()` (R540 (a)): MSG bit 1 or 2 set and disabled gives SystemError(2). -/
def preCheckMpb : M Unit := do
  let s ← get
  let blocked := fun n => bit s.MSG n && (bit s.MASK n || !s.interruptEnable)
  require (!blocked 1 && !blocked 2) .systemError (some 2#32)

/-- Send a request and take the environment's answer (R545); with no answer supplied it is accepted without error and
any data word (DESIGN CHOICE: entry 9 of the log). -/
def mpbRequest (r : MpbRequest) : M MpbReply := fun s =>
  let t := { s with sent := r :: s.sent }
  match s.mpb with
  | a :: rest => .ok (a, { t with mpb := rest })
  | [] => .ok ({ addrErr := false, dataErr := false, timeout := false, data := Config.freeWord s.freeCtr },
               { t with freeCtr := s.freeCtr + 1 })

/-- MSG bits 1 and 2 after an operation (R545). -/
def noteMpbErrors (r : MpbReply) : M Unit := modify fun s =>
  { s with MSG := setBit (setBit s.MSG 1 (bit s.MSG 1 || r.addrErr)) 2 (bit s.MSG 2 || r.dataErr) }

/-- An error of IOW, IOR, IOC or SMSG (R540 (b)): SystemError(5) to (7), the two bits cleared. -/
def raiseMpbError (r : MpbReply) : M Unit := do
  noteMpbErrors r
  if r.addrErr ∨ r.dataErr then do
    let s ← get
    modify fun s => { s with MSG := setBit (setBit s.MSG 1 false) 2 false }
    raise .systemError (some (BitVec.ofNat 32 (4 + 2 * (bit s.MSG 1).toNat + (bit s.MSG 2).toNat)))

/-- CC of RFC and WTC (R577). -/
def channelCC (r : MpbReply) : BitVec 2 :=
  if r.addrErr && r.dataErr then ccL else if r.addrErr || r.dataErr then ccG else ccE

/-- A device address word (R530 (c)); its bits 0-21 must be zero (D16). -/
def checkDeviceWord (w : Word) : M Unit := insist (field w 0 22 == 0) .mustBeZero

/-! ## Instructions -/

/-- INT, R531. -/
def execInt (b3 : Bool) (s : State) : Host.Outcome State Fault Refusal :=
  run16 (do
    requirePrivileged
    modify (·.setI b3)
    pure done) s

/-- PMPB, R532: `sel` is CIR(29:3). MSG is read after the push of MASK, which may set bits of it (R84). -/
def execPmpb (sel : BitVec 3) (s : State) : Host.Outcome State Fault Refusal :=
  run16 (do
    let s ← get
    pushIf (bit sel 2) s.MASK
    let t ← get
    pushIf (bit sel 1) t.MSG
    pushIf (bit sel 0) ((field s.MASK 3 3).setWidth 32)
    pure done) s

/-- SMPB, R533: `sel` is CIR(29:3); the channel number must not be 0 (U17). -/
def execSmpb (sel : BitVec 3) (s : State) : Host.Outcome State Fault Refusal :=
  run16 (do
    requirePrivileged
    checkPop ((bit sel 0).toNat + (bit sel 1).toNat + (bit sel 2).toNat)
    if bit sel 0 then do
      let v ← popWord
      insist (field v 29 3 != 0) .channelZero
      modify fun s => { s with MASK := setField s.MASK 3 3 (field v 29 3) }
    if bit sel 1 then do
      let v ← popWord
      modify fun s => { s with MSG := s.MSG &&& ~~~ v }
    if bit sel 2 then do
      let v ← popWord
      modify fun s => { s with MASK := setField v 3 3 (field s.MASK 3 3) }
    pure done) s

/-- IOW, R534. -/
def execIow (n : BitVec 8) (s : State) : Host.Outcome State Fault Refusal :=
  runKeep16 (do
    requirePrivileged
    preCheckMpb
    let v ← peek 0
    let w ← peek 1
    checkPop 2
    checkDeviceWord w
    let s ← get
    let r ← mpbRequest (.write (field w 26 3) (field w 29 3) (field w 22 4) n v s.secondary)
    raiseMpbError r
    dropWords 2
    pure done) s

/-- IOR, R535: any IOR returns the CPU to primary address mode; its own request still carries the mode it finds (R724;
DESIGN CHOICE, entry 32 of the log), and it stays in primary mode when it traps after the request, the one change that
such a trap finds (R603; DESIGN CHOICE, entry 53 of the log). -/
def execIor (n : BitVec 8) (s : State) : Host.Outcome State Fault Refusal :=
  runKeep16 (do
    requirePrivileged
    preCheckMpb
    let w ← peek 0
    checkPop 1
    checkDeviceWord w
    let s ← get
    modify fun s => { s with secondary := false }
    let r ← mpbRequest (.read (field w 26 3) (field w 29 3) (field w 22 4) n s.X s.secondary)
    if r.timeout then do
      modify (·.setPending false)
      raise .systemError (some 3#32)
    raiseMpbError r
    poke 0 r.data
    pure done) s

/-- IOC, R536. -/
def execIoc (n : BitVec 8) (s : State) : Host.Outcome State Fault Refusal :=
  runKeep16 (do
    requirePrivileged
    preCheckMpb
    let w ← peek 0
    checkPop 1
    checkDeviceWord w
    let s ← get
    let r ← mpbRequest (.control (field w 26 3) (field w 29 3) (field w 22 4) n s.secondary)
    raiseMpbError r
    dropWords 1
    pure done) s

end Sys2Proof.Machine
end

