-- ==== Sys2Proof/Machine/LoadStore.lean ====
section
/-! DEFINITION. Load and store instructions (spec/40_load_store.md). -/

namespace Sys2Proof.Machine

/-! ## Loads -/

/-- R201, R202: the word at E is pushed. -/
def loadWord (b : Base) (off : Nat) (i x : Bool) : M End := do
  let e ← effective b off i x false 0
  let v ← readWord e.addr
  pushAnswer v

/-- R206, R207: the doubleword at E is pushed, first word first: each word is pushed before the next is read. -/
def loadDouble (b : Base) (off : Nat) (i x : Bool) : M End := do
  let s ← get
  let e ← effective b off i x false s.doubleSpan
  let hi ← readWord e.addr
  push hi
  let lo ← readWord (e.addr + 4#32)
  push lo
  putCC (ccDouble (dword hi lo))
  pure done

/-- The range test of a data segment pointer made by LRA's indexing (R219, decision D17). -/
def lraIndexed (p : Word) (xx : Int) : M Word := do
  let r : Int := p.toNat + xx
  let shift : Int := if bit p 0 then 2 ^ 30 else 2 ^ 31
  require (xx = 0 || r / shift = (p.toNat : Int) / shift) .pointerConversion
  pure (wordOf r)

/-- R219, R220: the pointer to the computed address is pushed; indicators unaffected. -/
def loadRelative (b : Base) (off : Nat) (i x : Bool) : M End := do
  let s ← get
  let loc := s.baseAddr b off
  let xx := s.indexOf x
  let v ← (if baseIsCode b then
      if i then do
        let w ← readPointer b loc
        pure (wordOf (loc + w.toInt + xx - s.PB.toNat))
      else pure (wordOf (loc + xx - s.PB.toNat))
    else if i then do
      let p ← readPointer b loc
      lraIndexed p xx
    else do
      let r : Int := (if baseIsGlobal b then loc - s.DB.toNat else loc - s.SB.toNat) + xx
      require (decide (0 ≤ r) && decide (r < 2 ^ 30)) .pointerConversion
      pure (setField (wordOf r) 0 2 (if baseIsGlobal b then 0b10#2 else 0b11#2)) : M Word)
  push v
  pure done

/-- R221, R222: the program pointer of the STT entry at PL - Offset, made external, is pushed. -/
def loadProgramPointer (off : BitVec 19) : M End := do
  let s ← get
  let len ← readWord s.PL
  require (off.toNat ≤ (field len 13 19).toNat) .sttViolation (some 1#32)
  let v ← readWord (s.PL - off.setWidth 32)
  push (if bit v 0 then v else setField (setField 0x80000000#32 1 19 off) 20 12 s.csn)
  pure done

/-- LD, R201. -/
def execLd (i x : Bool) (base : Base) (off : BitVec 19) (s : State) : Host.Outcome State Fault Refusal :=
  run32 (loadWord base off.toNat i x) s

/-- LDS, R202. -/
def execLds (i x : Bool) (base : Base) (off : BitVec 8) (s : State) : Host.Outcome State Fault Refusal :=
  run16 (loadWord base (4 * off.toNat) i x) s

/-- LSI, R203. -/
def execLsi (b3 : Bool) (s : State) : Host.Outcome State Fault Refusal :=
  run16 (do
    checkPop 1
    let p ← peek 0
    let l ← evalPopped p b3 false 0 1
    let v ← readWord l.addr
    answer v) s

/-- LDB, R204. -/
def execLdb (i x : Bool) (base : Base) (off : BitVec 19) (s : State) : Host.Outcome State Fault Refusal :=
  run32 (do
    let e ← effective base off.toNat i x false 0
    let v ← readByte e.addr
    push (v.setWidth 32)
    putCC (ccByte v)
    pure done) s

/-- LBSI, R205. -/
def execLbsi (b3 : Bool) (s : State) : Host.Outcome State Fault Refusal :=
  run16 (do
    checkPop 1
    let p ← peek 0
    let l ← evalPopped p b3 false 0 1
    let v ← readByte l.addr
    poke 0 (v.setWidth 32)
    putCC (ccByte v)
    pure done) s

/-- LDD, R206. -/
def execLdd (i x : Bool) (base : Base) (off : BitVec 19) (s : State) : Host.Outcome State Fault Refusal :=
  run32 (loadDouble base off.toNat i x) s

/-- LDDS, R207. -/
def execLdds (i x : Bool) (base : Base) (off : BitVec 8) (s : State) : Host.Outcome State Fault Refusal :=
  run16 (loadDouble base (4 * off.toNat) i x) s

/-- LDSI, R208. -/
def execLdsi (b3 : Bool) (s : State) : Host.Outcome State Fault Refusal :=
  run16 (do
    checkPop 1
    let p ← peek 0
    let s ← get
    let l ← evalPopped p b3 false s.doubleSpan 1
    let hi ← readWord l.addr
    let lo ← readWord (l.addr + 4#32)
    poke 0 hi
    push lo
    putCC (ccDouble (dword hi lo))
    pure done) s

/-- LDH, R209. -/
def execLdh (i x : Bool) (base : Base) (off : BitVec 19) (s : State) : Host.Outcome State Fault Refusal :=
  run32 (do
    let e ← effective base off.toNat i x false 0
    let v ← readHalf e.addr
    pushAnswer (sext16 v)) s

/-- LHSI, R210. -/
def execLhsi (b3 : Bool) (s : State) : Host.Outcome State Fault Refusal :=
  run16 (do
    checkPop 1
    let p ← peek 0
    let l ← evalPopped p b3 false 0 1
    let v ← readHalf l.addr
    answer (sext16 v)) s

/-- The byte offset that LBIT and SBIT put into X: the bit offset shifted right by 3, sign extended (R211). -/
def bitByteOffset (boff : Word) : Word := (field boff 0 29).signExtend 32

/-- LBIT, R211. -/
def execLbit (b3 : Bool) (s : State) : Host.Outcome State Fault Refusal :=
  run16 (do
    insist b3 .bitIndexRequired
    let boff ← peek 0
    let p ← peek 1
    checkPop 2
    modify fun s => { s with X := bitByteOffset boff }
    let l ← evalPopped p true false 0 2
    let b ← readByte l.addr
    dropWords 2
    pushAnswer ((BitVec.ofBool (bit b (field boff 29 3).toNat)).setWidth 32)) s

/-- LDXA, R212. -/
def execLdxa (s : State) : Host.Outcome State Fault Refusal :=
  run16 (do
    let s ← get
    pushAnswer s.X) s

/-- ZERO, R213. -/
def execZero (s : State) : Host.Outcome State Fault Refusal := run16 (pushAnswer 0#32) s

/-- DZRO, R214. -/
def execDzro (s : State) : Host.Outcome State Fault Refusal :=
  run16 (do
    push 0#32
    pushAnswer 0#32) s

/-- LDI, R215. -/
def execLdi (imm : BitVec 24) (s : State) : Host.Outcome State Fault Refusal := run32 (pushAnswer (imm.setWidth 32)) s

/-- LDIS, R216. -/
def execLdis (n : BitVec 8) (s : State) : Host.Outcome State Fault Refusal := run16 (pushAnswer (n.setWidth 32)) s

/-- LNI, R217. -/
def execLni (imm : BitVec 24) (s : State) : Host.Outcome State Fault Refusal := run32 (pushAnswer (- imm.setWidth 32)) s

/-- LNIS, R218. -/
def execLnis (n : BitVec 8) (s : State) : Host.Outcome State Fault Refusal := run16 (pushAnswer (- n.setWidth 32)) s

/-- LRA, R219. -/
def execLra (i x : Bool) (base : Base) (off : BitVec 19) (s : State) : Host.Outcome State Fault Refusal :=
  run32 (loadRelative base off.toNat i x) s

/-- LRAS, R220: the offset counts bytes. -/
def execLras (i x : Bool) (base : Base) (off : BitVec 8) (s : State) : Host.Outcome State Fault Refusal :=
  run16 (loadRelative base off.toNat i x) s

/-- LPP, R221. -/
def execLpp (off : BitVec 19) (s : State) : Host.Outcome State Fault Refusal := run32 (loadProgramPointer off) s

/-- LPPS, R222. -/
def execLpps (n : BitVec 8) (s : State) : Host.Outcome State Fault Refusal :=
  run16 (loadProgramPointer (4 * n.setWidth 19)) s

/-- PLDA, R223. -/
def execPlda (b3 : Bool) (s : State) : Host.Outcome State Fault Refusal :=
  run16 (do
    requirePrivileged
    let p ← peek 0
    let a ← absoluteAddress p b3
    let v ← readWord a
    answer v) s

/-- PLBA, R224. -/
def execPlba (b3 : Bool) (s : State) : Host.Outcome State Fault Refusal :=
  run16 (do
    requirePrivileged
    let p ← peek 0
    let a ← absoluteAddress p b3
    let v ← readByte a
    poke 0 (v.setWidth 32)
    putCC (ccByte v)
    pure done) s

/-- PLHA, R225. -/
def execPlha (b3 : Bool) (s : State) : Host.Outcome State Fault Refusal :=
  run16 (do
    requirePrivileged
    let p ← peek 0
    let a ← absoluteAddress p b3
    let v ← readHalf a
    answer (sext16 v)) s

/-! ## Stores -/

/-- R230, R231: the TOS word is stored at E and popped. -/
def storeWord (b : Base) (off : Nat) (i x : Bool) : M End := do
  requireDataBase b
  let e ← effective b off i x true 0
  let v ← peek 0
  checkPop 1
  writeWord e.addr v
  dropWords 1
  pure (traced e.pointer 4)

/-- ST, R230. -/
def execSt (i x : Bool) (base : Base) (off : BitVec 19) (s : State) : Host.Outcome State Fault Refusal :=
  run32 (storeWord base off.toNat i x) s

/-- STS, R231. -/
def execSts (i x : Bool) (base : Base) (off : BitVec 8) (s : State) : Host.Outcome State Fault Refusal :=
  run16 (storeWord base (4 * off.toNat) i x) s

/-- SSI, R232. -/
def execSsi (b3 : Bool) (s : State) : Host.Outcome State Fault Refusal :=
  run16 (do
    checkPop 2
    let p ← peek 1
    let v ← peek 0
    let l ← evalPopped p b3 true 0 2
    writeWord l.addr v
    dropWords 2
    tracedThrough l p b3 4) s

/-- STB, R233. -/
def execStb (i x : Bool) (base : Base) (off : BitVec 19) (s : State) : Host.Outcome State Fault Refusal :=
  run32 (do
    requireDataBase base
    let e ← effective base off.toNat i x true 0
    let v ← peek 0
    checkPop 1
    writeByte e.addr (field v 24 8)
    dropWords 1
    pure (traced e.pointer 1)) s

/-- SBSI, R234. -/
def execSbsi (b3 : Bool) (s : State) : Host.Outcome State Fault Refusal :=
  run16 (do
    checkPop 2
    let p ← peek 1
    let v ← peek 0
    let l ← evalPopped p b3 true 0 2
    writeByte l.addr (field v 24 8)
    dropWords 2
    tracedThrough l p b3 1) s

/-- STD, R235. -/
def execStd (i x : Bool) (base : Base) (off : BitVec 19) (s : State) : Host.Outcome State Fault Refusal :=
  run32 (do
    requireDataBase base
    let s ← get
    let e ← effective base off.toNat i x true s.doubleSpan
    let hi ← peek 1
    checkPop 2
    writeWord e.addr hi
    let lo ← peek 0
    writeWord (e.addr + 4#32) lo
    dropWords 2
    pure (traced e.pointer 8)) s

/-- SDSI, R236. -/
def execSdsi (b3 : Bool) (s : State) : Host.Outcome State Fault Refusal :=
  run16 (do
    checkPop 3
    let p ← peek 2
    let hi ← peek 1
    let lo ← peek 0
    let s ← get
    let l ← evalPopped p b3 true s.doubleSpan 3
    writeWord l.addr hi
    writeWord (l.addr + 4#32) lo
    dropWords 3
    tracedThrough l p b3 8) s

/-- STH, R237. -/
def execSth (i x : Bool) (base : Base) (off : BitVec 19) (s : State) : Host.Outcome State Fault Refusal :=
  run32 (do
    requireDataBase base
    let e ← effective base off.toNat i x true 0
    let v ← peek 0
    checkPop 1
    writeHalf e.addr (field v 16 16)
    dropWords 1
    pure (traced e.pointer 2)) s

/-- SHSI, R238. -/
def execShsi (b3 : Bool) (s : State) : Host.Outcome State Fault Refusal :=
  run16 (do
    checkPop 2
    let p ← peek 1
    let v ← peek 0
    let l ← evalPopped p b3 true 0 2
    writeHalf l.addr (field v 16 16)
    dropWords 2
    tracedThrough l p b3 2) s

/-- SBIT, R239. -/
def execSbit (b3 : Bool) (s : State) : Host.Outcome State Fault Refusal :=
  run16 (do
    insist b3 .bitIndexRequired
    let v ← peek 0
    let boff ← peek 1
    let p ← peek 2
    checkPop 3
    modify fun s => { s with X := bitByteOffset boff }
    let l ← evalPopped p true true 0 3
    let b ← readByte l.addr
    writeByte l.addr (setBit b (field boff 29 3).toNat (bit v 31))
    dropWords 3
    tracedThrough l p true 1) s

/-- STAX, R240. -/
def execStax (b3 : Bool) (s : State) : Host.Outcome State Fault Refusal :=
  run16 (do
    let v ← peek 0
    if b3 then do
      checkPop 1
      dropWords 1
    setXAnswer v) s

/-- PSTA, R241. -/
def execPsta (b3 : Bool) (s : State) : Host.Outcome State Fault Refusal :=
  run16 (do
    requirePrivileged
    let p ← peek 1
    let v ← peek 0
    let a ← absoluteAddress p b3
    checkPop 2
    writeWord a v
    dropWords 2
    pure done) s

/-- PSBA, R242. -/
def execPsba (b3 : Bool) (s : State) : Host.Outcome State Fault Refusal :=
  run16 (do
    requirePrivileged
    let p ← peek 1
    let v ← peek 0
    let a ← absoluteAddress p b3
    checkPop 2
    writeByte a (field v 24 8)
    dropWords 2
    pure done) s

/-- PSHA, R243. -/
def execPsha (b3 : Bool) (s : State) : Host.Outcome State Fault Refusal :=
  run16 (do
    requirePrivileged
    let p ← peek 1
    let v ← peek 0
    let a ← absoluteAddress p b3
    checkPop 2
    writeHalf a (field v 16 16)
    dropWords 2
    pure done) s

end Sys2Proof.Machine
end

