-- ==== Sys2Proof/Machine/MoveString.lean ====
section
/-! DEFINITION. Move, scan and string instructions (spec/45_move_string.md). -/

namespace Sys2Proof.Machine

/-! ## The common loop -/

/-- How the loop of a move or scan instruction ends (R500): all bytes counted, stopped at a byte, suspended for an
interrupt (R626), or aborted by a reset (R660). -/
inductive LoopEnd where
  | counted | stopped | suspended | aborted
  deriving DecidableEq, Repr

/-- At most `fuel` iterations of a body that says whether to go on, with the suspension point before each (R500). -/
def iterate (body : M Bool) : Nat → Nat → M LoopEnd
  | 0, _ => pure .counted
  | fuel + 1, k => do
    match ← pollBefore k with
    | .interrupt => pure .suspended
    | .reset => pure .aborted
    | .quiet => do
      let more ← body
      if more then iterate body fuel (k + 1) else pure .stopped

/-- The end of an interruptible instruction: `finish` when its loop has come to its own end, which may ask whether all
bytes were counted. -/
def afterLoop (r : LoopEnd) (finish : Bool → M End) : M End :=
  match r with
  | .suspended => suspend
  | .aborted => pure aborted
  | .counted => finish true
  | .stopped => finish false

/-- D as an integer: -1 for the right-to-left direction (R500). -/
def direction (d : Bool) : Int := if d then -1 else 1

/-- `X <- X + D`. -/
def advanceX (d : Bool) : M Unit := modify fun s => { s with X := if d then s.X - 1#32 else s.X + 1#32 }

/-- The iterations that remain: `signed(W[S]) - D * signed(X)` (R500). DESIGN CHOICE: they are counted once, where the loop
begins or resumes, whatever another agent does to W[S] at a poll (entry 55 of the log). -/
def remaining (d : Bool) : M Nat := do
  let s ← get
  let n ← peek 0
  pure (n.toInt - direction d * s.X.toInt).toNat

/-- `X <- 0` unless the instruction resumes (R500 (b)). -/
def startX : M Unit := modify fun s => if s.pending then s else { s with X := 0#32 }

/-- The parameters `[S-11, S]` are no part of an area (R500 (f), entry U16). DEDUCED: entry 29 of the log. -/
def avoidParameters (a : Word) : M Unit := do
  let s ← get
  insist (decide ((a.toNat : Int) < s.S.toNat - 11) || decide (s.S.toNat < a.toNat)) .parameterOverlap

/-- A source area address with the index given, and the number of bytes behind it in its segment or page (R500 (a)). -/
def sourceAt (ptrType : Bool) (x : Word) : M (Word × Int) := do
  let s ← get
  let p ← peek 2
  if ptrType then do
    let l ← evalDsp p (s.access (some x) false) 0
    pure (l.addr, l.room)
  else do
    let a ← evalLpp p x.toInt
    pure (a, (s.PL.toNat : Int) + 3 - a.toNat)

/-- `SrcAddr()` (R500 (a)). -/
def srcAddr (ptrType : Bool) : M Word := do
  let s ← get
  let a ← sourceAt ptrType s.X
  pure a.1

/-- The target pointer, and the address it leads to with the index X (R500 (a)). -/
def targetAt (modmem : Bool) : M (Word × Word) := do
  let s ← get
  let p ← peek 1
  let l ← evalDsp p (s.access (some s.X) modmem) 0
  pure (p, l.addr)

/-- `TgtAddr()` (R500 (a)). -/
def tgtAddr (modmem : Bool) : M Word := do
  let t ← targetAt modmem
  pure t.2

/-- A byte of an area. -/
def areaByte (a : Word) : M Byte := do
  avoidParameters a
  readByte a

/-- Store a byte of an area. -/
def setAreaByte (a : Word) (b : Byte) : M Unit := do
  avoidParameters a
  writeByte a b

/-- The end of a move or scan (R500 (e)): the count goes down by what was handled, SDEC words are popped, P cleared. -/
def endMove (d : Bool) (sdec : Nat) : M Unit := do
  let s ← get
  let n ← peek 0
  poke 0 (wordOf (n.toInt - direction d * s.X.toInt))
  dropWords sdec
  modify (·.setPending false)

/-- The underflow test of the words a move or scan pops at its end, made after the first evaluation of its addresses and
before it writes anything (R500, R650, D18): X is then as the instruction found it, x (R260). -/
def checkMovePop (x : Word) (k : Nat) : M Unit := fun s =>
  if s.S.toNat < s.Q.toNat + 4 * k then .error (.trap .stackUnderflow none { s with X := x }) else .ok ((), s)

/-- The trace event of a move that has modified `X` bytes, with the target pointer as the instruction found it (R500 (h)).
DESIGN CHOICE: a resumed move takes the one it finds when it resumes (entry 55 of the log). -/
def moveTrace (target : Word) (always : Bool) : M End := do
  let s ← get
  pure { trace := if always || s.X != 0#32 then some (target, s.X) else none }

/-! ## Move and scan instructions -/

/-- One byte of MVB (R501). -/
def moveByte (d ptrType : Bool) : M Bool := do
  let sa ← srcAddr ptrType
  let ta ← tgtAddr true
  let b ← areaByte sa
  setAreaByte ta b
  advanceX d
  pure true

/-- MVB on the top three words (R501), also the tail of SLD, SAS and SCON (R510 (i)). -/
def moveBytes (d ptrType : Bool) (sdec : Nat) (traceAlways : Bool) : M End := do
  let s ← get
  startX
  let _ ← srcAddr ptrType
  let target ← targetAt true
  checkMovePop s.X sdec
  let n ← remaining d
  let r ← iterate (moveByte d ptrType) n 0
  afterLoop r fun _ => do
    let e ← moveTrace target.1 traceAlways
    endMove d sdec
    pure e

/-- MVB, R501. -/
def execMvb (d ptrType : Bool) (sdec : BitVec 2) (s : State) : Host.Outcome State Fault Refusal :=
  runKeep16 (moveBytes d ptrType sdec.toNat false) s

/-- One byte of PMVA (R502). -/
def moveAbsolute (d : Bool) : M Bool := do
  let src ← peek 2
  let tgt ← peek 1
  let sa ← absoluteAddress src true
  let ta ← absoluteAddress tgt true
  let b ← areaByte sa
  setAreaByte ta b
  advanceX d
  pure true

/-- PMVA, R502. DESIGN CHOICE: the two addresses are looked at for each byte, so with no byte to move neither is refused
(entry 52 of the log). -/
def execPmva (d : Bool) (sdec : BitVec 2) (s : State) : Host.Outcome State Fault Refusal :=
  runKeep16 (do
    requirePrivileged
    checkPop sdec.toNat
    startX
    let n ← remaining d
    let r ← iterate (moveAbsolute d) n 0
    afterLoop r fun _ => do
      endMove d sdec.toNat
      pure done) s

/-- One byte of SCW and SCU (R503, R504): `go` says of the byte and the second word whether the scan goes on. -/
def scanByte (d ptrType : Bool) (go : Byte → Word → Bool) : M Bool := do
  let sa ← srcAddr ptrType
  let b ← areaByte sa
  let w ← peek 1
  poke 1 (setField (setField w 0 8 b) 8 8 (b ^^^ field w 16 8))
  if go b w then do
    advanceX d
    pure true
  else pure false

/-- SCW and SCU (R503, R504). -/
def scanBytes (d ptrType : Bool) (sdec : Nat) (go : Byte → Word → Bool) : M End := do
  let s ← get
  startX
  let n0 ← peek 0
  let _ ← srcAddr ptrType
  checkMovePop s.X sdec
  let n ← remaining d
  let r ← iterate (scanByte d ptrType go) n 0
  afterLoop r fun _ => do
    let w ← peek 1
    if 0 < n0.toInt then putCC (ccByte (field w 0 8))
    endMove d sdec
    pure done

/-- SCW, R503. -/
def execScw (d ptrType : Bool) (sdec : BitVec 2) (s : State) : Host.Outcome State Fault Refusal :=
  runKeep16 (scanBytes d ptrType sdec.toNat fun b w => b == field w 24 8) s

/-- SCU, R504. -/
def execScu (d ptrType : Bool) (sdec : BitVec 2) (s : State) : Host.Outcome State Fault Refusal :=
  runKeep16 (scanBytes d ptrType sdec.toNat fun b w => b != field w 24 8 && b != field w 16 8) s

/-- One comparison of CMPB (R505): CC is left at what the pair gives. -/
def compareByte (d ptrType : Bool) : M Bool := do
  let sa ← srcAddr ptrType
  let ta ← tgtAddr false
  let a ← areaByte sa
  let b ← areaByte ta
  if a = b then do
    advanceX d
    pure true
  else do
    putCC (if b.toNat < a.toNat then ccG else ccL)
    pure false

/-- CMPB, R505. -/
def execCmpb (d ptrType : Bool) (sdec : BitVec 2) (s : State) : Host.Outcome State Fault Refusal :=
  runKeep16 (do
    let s ← get
    startX
    let _ ← srcAddr ptrType
    let _ ← tgtAddr false
    checkMovePop s.X sdec.toNat
    let n ← remaining d
    let r ← iterate (compareByte d ptrType) n 0
    afterLoop r fun counted => do
      if counted then putCC ccE
      endMove d sdec.toNat
      pure done) s

/-- One byte of TRAN (R506): the table access stays in the segment or page of the table's first byte (U14).
DEDUCED: entry 28 of the log. -/
def translateByte (d : Bool) (table : Word × Int) : M Bool := do
  let ta ← tgtAddr true
  let b ← areaByte ta
  insist (decide ((b.toNat : Int) ≤ table.2)) .translationTable
  let v ← areaByte (table.1 + b.setWidth 32)
  setAreaByte ta v
  advanceX d
  pure true

/-- TRAN, R506. -/
def execTran (d ptrType : Bool) (sdec : BitVec 2) (s : State) : Host.Outcome State Fault Refusal :=
  runKeep16 (do
    let s ← get
    startX
    let table ← sourceAt ptrType 0#32
    let target ← targetAt true
    checkMovePop s.X sdec.toNat
    let n ← remaining d
    let r ← iterate (translateByte d table) n 0
    afterLoop r fun _ => do
      let e ← moveTrace target.1 false
      endMove d sdec.toNat
      pure e) s

/-- One byte of FILB (R507). -/
def fillByte (fill : Byte) : M Bool := do
  let ta ← tgtAddr true
  setAreaByte ta fill
  advanceX false
  pure true

/-- FILB, R507: with a count that is not positive nothing is evaluated; with one that is, the address of the first byte
comes before the underflow test. -/
def execFilb (sdec : BitVec 2) (s : State) : Host.Outcome State Fault Refusal :=
  runKeep16 (do
    let s ← get
    startX
    let n0 ← peek 0
    if n0.toInt ≤ 0 then do
      checkMovePop s.X sdec.toNat
      dropWords sdec.toNat
      modify (·.setPending false)
      pure done
    else do
      let target ← peek 1
      let w ← peek 2
      let left ← remaining false
      if 0 < left then do
        let _ ← tgtAddr true
      checkMovePop s.X sdec.toNat
      let n ← remaining false
      let r ← iterate (fillByte (field w 24 8)) n 0
      afterLoop r fun _ => do
        let e ← moveTrace target false
        endMove false sdec.toNat
        pure e) s

/-! ## String descriptors -/

/-- A string operand (R510): its descriptor, the address of its current-length word, that length, and whether an
addition to the pointer must keep its thirteen most significant bits. -/
structure StringOperand where
  maxLen : Int
  ptr : Word
  first : Int
  len : Int
  adr : Word
  curLen : Int
  narrow : Bool

/-- `StringTrap(t, e)` unless c holds (R510 (g)). -/
def stringCheck (c : Bool) (t : Bool) (e : Nat) : M Unit := do
  let s ← get
  require c .string (some (BitVec.ofNat 32 (t.toNat * 2 ^ 20 + e * 2 ^ 16) ||| (field s.CIR 16 16).setWidth 32))

/-- An EDS pointer into an unpaged segment (R510 (h)). -/
def Located.narrow (l : Located) : Bool := !bit l.ptr 0 && !l.paged

/-- The operand whose pointer is a data segment pointer (R510 (d), R513). -/
def dataOperand (maxLen ptr first len : Word) (modmem : Bool) : M StringOperand := do
  let s ← get
  let l ← evalDsp ptr (s.access none modmem) 0
  let c ← readWord l.addr
  pure { maxLen := maxLen.toInt, ptr := ptr, first := first.toInt, len := len.toInt, adr := l.addr,
         curLen := c.toInt, narrow := l.narrow }

/-- `FetchSource()` (R510 (d)): the pointer word is aligned in the stack before the checks. -/
def fetchSource (ptrType : Bool) : M StringOperand := do
  let m ← peek 3
  let p ← peek 2
  poke 2 (wordAlign p)
  let f ← peek 1
  let n ← peek 0
  if ptrType then dataOperand m (wordAlign p) f n false
  else do
    let a ← evalLpp (wordAlign p) 0
    let c ← readWord a
    pure { maxLen := m.toInt, ptr := wordAlign p, first := f.toInt, len := n.toInt, adr := a, curLen := c.toInt,
           narrow := false }

/-- `Validate` (R510 (e)). -/
def validate (o : StringOperand) (negok t : Bool) : M Unit := do
  stringCheck (decide (0 ≤ o.maxLen)) t 1
  stringCheck (decide (0 ≤ o.len) || negok) t 2
  stringCheck (decide (0 < o.first)) t 3
  stringCheck (decide (o.len < 0) || decide (o.first + o.len - 1 ≤ o.maxLen)) t 4
  stringCheck (decide (0 ≤ o.curLen)) t 5
  stringCheck (decide (o.curLen ≤ o.maxLen)) t 6
  stringCheck (decide (o.first ≤ o.curLen + 1)) t 7

/-- `ActualLen()` (R510 (f)). -/
def StringOperand.actualLen (o : StringOperand) : Int :=
  if o.len < 0 ∨ o.curLen - o.first + 1 < o.len then o.curLen - o.first + 1 else o.len

/-- `PtrAdd(p, n, t)` (R510 (h)). -/
def ptrAdd (o : StringOperand) (n : Int) (t : Bool) : M Word := do
  let r := o.ptr + wordOf n
  stringCheck (field r 0 2 == field o.ptr 0 2) t 8
  stringCheck (!o.narrow || field r 0 13 == field o.ptr 0 13) t 8
  pure r

/-- The source operand of a string instruction, fetched and validated. -/
def sourceOperand (ptrType negLen : Bool) : M StringOperand := do
  let o ← fetchSource ptrType
  validate o negLen false
  pure o

/-- The target operand of SAS and SCON, below the source descriptor or below the source temp (R513). -/
def targetOperand (src : StringOperand) (srcTemp tNegLen : Bool) : M StringOperand := do
  let s ← get
  let d : Int := if srcTemp then (src.adr.toNat : Int) - 16 else (s.S.toNat : Int) - 28
  if srcTemp then
    require (decide ((s.Q.toNat : Int) ≤ d) && decide (d ≤ (s.S.toNat : Int) - 28)) .boundsViolation
  let a := wordOf d
  let m ← readWord a
  let p ← readWord (a + 4#32)
  let f ← readWord (a + 8#32)
  let n ← readWord (a + 12#32)
  let o ← dataOperand m (wordAlign p) f n true
  validate o tNegLen true
  pure o

/-- The stack segment pointer to an address (R105). -/
def State.stackPointer (s : State) (a : Word) : Word := 0xC0000000#32 ||| (a - s.SB)

/-- Push the three words of an MVB and run it (R510 (i)). -/
def pushAndMove (src tgt : Word) (len : Int) (d ptrType traceAlways : Bool) : M End := do
  push src
  push tgt
  push (wordOf len)
  moveBytes d ptrType 3 traceAlways

/-- The resumption of SLD, SAS and SCON inside their MVB (R510 (i)). -/
def resuming (d : M Bool) (ptrType : Bool) (fresh : M End) : M End := do
  let s ← get
  if s.pending then do
    let b ← d
    moveBytes b ptrType 3 false
  else fresh

/-! ## String instructions -/

/-- SVAL, R511. -/
def execSval (negLen retLen ptrType : Bool) (s : State) : Host.Outcome State Fault Refusal :=
  runKeep16 (do
    let o ← sourceOperand ptrType negLen
    if retLen then poke 0 (wordOf o.actualLen)
    pure done) s

/-- The number of words of a string of n bytes: its length word and its data words (R510 (c)). -/
def stringWords (n : Int) : Int := (n + 3) / 4 + 1

/-- The six words of a string temp's size and descriptor on top of the stack (R512, R514). -/
def writeTemp (adr : Word) (words len : Int) (ptr first : Word) : M Unit := do
  writeWord adr (wordOf len)
  poke 4 (wordOf words)
  poke 3 (wordOf len)
  poke 2 ptr
  poke 1 first
  poke 0 0xFFFFFFFF#32

/-- The part of SLD before its move (R512). -/
def loadString (negLen ptrType : Bool) : M End := do
  let s ← get
  let o ← sourceOperand ptrType negLen
  let len := o.actualLen
  let src ← ptrAdd o (o.first + 3) false
  let temp := s.S - 15#32
  let words := stringWords len
  let newS : Int := temp.toNat + 4 * words + 19
  require (decide (newS ≤ s.SL.toNat)) .stackOverflow
  modify fun s => { s with S := wordOf newS }
  writeTemp temp words len (s.stackPointer temp) 1#32
  pushAndMove src (s.stackPointer (temp + 4#32)) len false ptrType false

/-- SLD, R512. -/
def execSld (negLen ptrType : Bool) (s : State) : Host.Outcome State Fault Refusal :=
  runKeep16 (resuming (pure false) ptrType (loadString negLen ptrType)) s

/-- What SAS has computed when its checks are done (R513). -/
structure AssignPlan where
  backward : Bool
  src : Word
  tgt : Word
  moveLen : Int
  curLen : Int
  fill : Option Word
  fillLen : Int
  target : Word
  sourceEmpty : Bool

/-- The lengths of an assignment (R513): the target's new current length and the number of bytes moved. -/
def assignLengths (o t : StringOperand) : M (Int × Int) := do
  if t.len < 0 then do
    let c := t.first + o.actualLen - 1
    stringCheck (decide (c ≤ t.maxLen)) true 9
    pure (c, o.actualLen)
  else pure (max t.curLen (t.first + t.len - 1), min o.actualLen t.len)

/-- Every check and computation of SAS (R513). -/
def planAssign (negLen fill ptrType tNegLen srcTemp : Bool) : M AssignPlan := do
  let o ← sourceOperand ptrType negLen
  let t ← targetOperand o srcTemp tNegLen
  let ln ← assignLengths o t
  let back := t.adr == o.adr && decide (o.first < t.first)
  let extra : Int := if back then ln.2 + 2 else 3
  let src ← ptrAdd o (o.first + extra) false
  let tgt ← ptrAdd t (t.first + extra) true
  let f ← (if fill && decide (ln.2 < t.len) then do
      let p ← ptrAdd t (t.first + ln.2 + 3) true
      pure (some p)
    else pure none : M (Option Word))
  checkPop (if srcTemp then 4 else 8)
  pure { backward := back, src := src, tgt := tgt, moveLen := ln.2, curLen := ln.1, fill := f,
         fillLen := if f.isSome then t.len - ln.2 else 0, target := t.adr, sourceEmpty := decide (o.curLen = 0) }

/-- SAS before its move (R513); with nothing to fill, FILLTARGET has no defined value (U15;
entry 15 of the log). -/
def assignString (negLen fill ptrType tNegLen srcTemp : Bool) : M End := do
  let s ← get
  let p ← planAssign negLen fill ptrType tNegLen srcTemp
  putCC (if p.backward then ccL else ccG)
  dropWords (if srcTemp then 4 else 8)
  if fill then do
    let f ← (match p.fill with
      | some w => pure w
      | none => drawFree : M Word)
    push 32#32
    push f
    push (wordOf p.fillLen)
  writeWord p.target (wordOf p.curLen)
  pushAndMove p.src p.tgt p.moveLen p.backward ptrType (s.cfg.rev == .fixed || !p.sourceEmpty)

/-- SAS, R513; a resumed one takes the direction of its move from CC: backward for 01 alone. DESIGN CHOICE: with CC =
11, which R33 reads as CCL and the hardware never writes, it moves forward (entry 51 of the log). -/
def execSas (negLen fill ptrType tNegLen srcTemp : Bool) (s : State) : Host.Outcome State Fault Refusal :=
  runKeep16 (resuming (do
      let s ← get
      pure (s.cc == ccL)) ptrType (assignString negLen fill ptrType tNegLen srcTemp)) s

/-- SCON before its move (R514). -/
def concatString (negLen ptrType tNegLen srcTemp : Bool) : M End := do
  let s ← get
  let o ← sourceOperand ptrType negLen
  let t ← targetOperand o srcTemp tNegLen
  require (decide (s.Q.toNat ≤ t.adr.toNat) && decide ((t.adr.toNat : Int) ≤ s.S.toNat - 16)) .boundsViolation
  let cur := if 0 ≤ t.len then min t.curLen (t.first + t.len - 1) else t.curLen
  let src ← ptrAdd o (o.first + 3) false
  let tgt ← ptrAdd t (cur + 4) true
  let newLen := cur + o.actualLen
  let newS : Int := t.adr.toNat + 4 * stringWords newLen + 19
  let keep := decide (newS < s.S.toNat)
  require (keep || decide (newS ≤ s.SL.toNat)) .stackOverflow
  let words : Int := if keep then ((s.S.toNat : Int) - t.adr.toNat - 19) / 4 else stringWords newLen
  if keep = false then modify fun s => { s with S := wordOf newS }
  writeTemp t.adr words newLen t.ptr (wordOf t.first)
  pushAndMove src tgt o.actualLen false ptrType false

/-- SCON, R514. -/
def execScon (negLen ptrType tNegLen srcTemp : Bool) (s : State) : Host.Outcome State Fault Refusal :=
  runKeep16 (resuming (pure false) ptrType (concatString negLen ptrType tNegLen srcTemp)) s

end Sys2Proof.Machine
end

