-- ==== Sys2Proof/Machine/Special.lean ====
section
/-! DEFINITION. Special instructions (spec/47_special.md). -/

namespace Sys2Proof.Machine

/-! ## Linked lists -/

/-- The word at an absolute address outside the active stack (R223, R57, U7). -/
def absWord (a : Word) : M Word := do
  checkAbsolute a
  readWord a

/-- Store at an absolute address outside the active stack. -/
def setAbsWord (a v : Word) : M Unit := do
  checkAbsolute a
  writeWord a v

/-- The address `base + off` of a word of a list entry (R550 to R552): the sum is unbounded, and it and the link both
have 29 bits (R81, U1; entry 44 of the log). -/
def listAddress (base : Word) (off : Int) : M Word := do
  let b ← absAddress base.toNat
  absAddress (b.toNat + off)

/-- The relation CCF selects between a target and the test word (R550): 4 greater, 2 equal, 1 less. -/
def listMatch (target test : Int) (ccf : BitVec 3) : Bool :=
  (decide (test < target) && bit ccf 0) || (decide (target = test) && bit ccf 1) || (decide (target < test) && bit ccf 2)

/-- The walk of LLSH (R550), at most X links; the condition code it ends with. It is not interrupted (D34; entry 34 of
the log). -/
def walkList (ccf : BitVec 3) (test : Int) (off : Int) : Nat → M (BitVec 2)
  | 0 => pure ccL
  | n + 1 => do
    let a ← peek 0
    if a = 0#32 then pure ccG
    else do
      let spot ← listAddress a off
      let target ← absWord spot
      if listMatch target.toInt test ccf then do
        let next ← absWord a
        poke 0 next
        modify fun s => { s with X := s.X - 1#32 }
        walkList ccf test off n
      else pure ccE

/-- LLSH, R550. -/
def execLlsh (ccf : BitVec 3) (s : State) : Host.Outcome State Fault Refusal :=
  run16 (do
    requirePrivileged
    let s ← get
    let test ← peek 1
    let off ← peek 2
    let cc ← walkList ccf test.toInt off.toInt s.X.toInt.toNat
    putCC cc
    pure done) s

/-- LINS, R551. -/
def execLins (s : State) : Host.Outcome State Fault Refusal :=
  run16 (do
    requirePrivileged
    let e0 ← peek 0
    let n ← peek 1
    let off ← peek 2
    if n ≠ 0#32 then do
      let flag := e0 == 0#32
      let e := if flag then n else e0
      if flag then poke 0 n
      setAbsWord n e
      let back ← listAddress e off.toInt
      let newBack ← listAddress n off.toInt
      let bkw ← absWord back
      setAbsWord back newBack
      if flag = false then do
        if bkw ≠ 0#32 then do
          let prev ← listAddress bkw (- off.toInt)
          setAbsWord prev n
        setAbsWord newBack bkw
    pure done) s

/-- LDEL, R552. -/
def execLdel (s : State) : Host.Outcome State Fault Refusal :=
  run16 (do
    requirePrivileged
    let e ← peek 0
    let off ← peek 1
    if e ≠ 0#32 then do
      let fwd ← absWord e
      let back ← listAddress e off.toInt
      let bkw ← absWord back
      if bkw ≠ 0#32 then do
        let prev ← listAddress bkw (- off.toInt)
        setAbsWord prev fwd
      if fwd ≠ 0#32 then do
        let next ← listAddress fwd off.toInt
        setAbsWord next bkw
      putCC (if fwd = e then ccE else ccG)
    else putCC ccE
    pure done) s

/-! ## Control store and semaphores -/

/-- The 38 bits of a control store location whose low 32 bits are known (R731). -/
def releaseWord (a : BitVec 14) (date : Word) : BitVec 38 := field (Config.controlStore a) 0 6 ++ date

/-- CONTROL_STORE[a] (R55, R557, R731): location 5 holds the release date of the chip, the rest is a parameter. -/
def Config.controlWord (c : Config) (a : BitVec 14) : BitVec 38 :=
  if a = 5 then
    match c.rev with
    | .le33 => releaseWord a 0x19811102#32
    | .r40 => releaseWord a 0x19820319#32
    | .fixed => Config.controlStore a
  else Config.controlStore a

/-- RCS, R557. -/
def execRcs (s : State) : Host.Outcome State Fault Refusal :=
  run16 (do
    let s ← get
    let d := Config.controlWord s.cfg (field s.X 18 14)
    push (setField 0#32 0 6 (field d 0 6))
    push (field d 6 32)
    pure done) s

/-- SEML, R558. -/
def execSeml (i x : Bool) (base : Base) (off : BitVec 19) (s : State) : Host.Outcome State Fault Refusal :=
  run32 (do
    requireDataBase base
    let e ← effective base off.toNat i x true 0
    let v ← readWord e.addr
    writeWord e.addr 0xFFFFFFFF#32
    push v
    putCC (ccWord v)
    pure (traced e.pointer 4)) s

/-- PSLA, R559. -/
def execPsla (b3 : Bool) (s : State) : Host.Outcome State Fault Refusal :=
  run16 (do
    requirePrivileged
    let p ← peek 0
    let a ← absoluteAddress p b3
    let v ← readWord a
    writeWord a 0xFFFFFFFF#32
    answer v) s

/-! ## Pointer conversion and validation -/

/-- CPAA, R560. -/
def execCpaa (b3 : Bool) (s : State) : Host.Outcome State Fault Refusal :=
  run16 (do
    requirePrivileged
    let p ← peek 0
    let l ← evalPopped p b3 false 0 1
    poke 0 l.addr
    pure done) s

/-- Run a pointer evaluation as a probe: a trap is an answer, not an end (R561, R590). -/
def probing (m : M Located) : M (Except (Trap × Option Word) Located) := fun s =>
  match m s with
  | .ok (l, s1) => .ok (.ok l, s1)
  | .error (.trap t p s1) => .ok (.error (t, p), s1)
  | .error e => .error e

/-- CC of VPTR for an external pointer (R561): an absent page table is a real trap. -/
def externalCC (p : Word) (k : AccessKind) : M (BitVec 2) := do
  let r ← probing (evalEds p k)
  match r with
  | .ok _ => pure ccG
  | .error (.absentDataSegment, _) => pure ccE
  | .error (.absentPage, _) => pure ccE
  | .error (.absentPageTable, q) => raise .absentPageTable q
  | .error _ => pure ccL

/-- VPTR, R561: the pointer is popped last. -/
def execVptr (b3 : Bool) (s : State) : Host.Outcome State Fault Refusal :=
  run16 (do
    let s ← get
    let p ← peek 0
    let mode ← peek 1
    let limit ← peek 2
    let off : Int := (pointerOffset p).toNat + s.indexOf b3
    let cc ← (if bit mode 31 && !s.privileged then pure ccL
      else if bit p 0 = false then
        externalCC p { index := s.indexWord b3, modmem := bit mode 30, unpriv := !bit mode 31, probe := true }
      else do
        let top : Word := if bit p 1 then limit else s.DL - s.DB
        pure (if decide (off < 0) || decide ((top.toNat : Int) < off) then ccL else ccG) : M (BitVec 2))
    checkPop 1
    dropWords 1
    putCC cc
    pure done) s

/-- The evaluated external pointer of CPEP and CPTR (R562, R563): its offset must fit in 19 bits. -/
def convertEvaluated (p x : Word) : M Word := do
  let s ← get
  let l ← evalDsp p (s.access (some x) false) 0
  require (decide (l.offset < 2 ^ 19)) .pointerConversion
  pure l.ptr

/-- LOCATION of a DST entry, read under its semaphore and without tests (R562, R140). DESIGN CHOICE: this is no access
in the sense of R139, and the use count is not tested (entry 58 of the log). -/
def dstLocation (seg : BitVec 12) : M Word := do
  let a ← dstAddress seg
  let w ← acquire a
  let loc ← readWord (a + 8#32)
  release a w
  pure loc

/-- The external pointer to a stack or global location (R562). -/
def toExternal (p : Word) (b3 : Bool) : M Word := do
  let s ← get
  let off0 := pointerOffset p + (if b3 then s.X else 0#32)
  let tcb ← readWord (s.cpuBlock + 4#32)
  let a ← absAddress (tcb.toNat + 8)
  let segs ← readWord a
  let so ← (if bit p 1 then do
      let seg := field segs 4 12
      let loc ← dstLocation seg
      pure (seg, off0 + (s.SB - loc))
    else pure (field segs 20 12, off0) : M (BitVec 12 × Word))
  require (field so.2 0 13 == 0) .pointerConversion
  pure (setField (setField 0#32 1 12 so.1) 13 19 (field so.2 13 19))

/-- CPEP, R562; on the ICS it is refused (U19). -/
def execCpep (b3 : Bool) (s : State) : Host.Outcome State Fault Refusal :=
  run16 (do
    let s ← get
    insist (!s.icsFlag) .convertOnIcs
    let p ← peek 0
    if bit p 0 = false then do
      if b3 then do
        let q ← convertEvaluated p s.X
        poke 0 q
    else do
      let q ← toExternal p b3
      poke 0 q
    pure done) s

/-- CPTR, R563. -/
def execCptr (b3 : Bool) (s : State) : Host.Outcome State Fault Refusal :=
  run16 (do
    let xn ← peek 0
    let p ← peek 1
    let np ← (if b3 && !bit p 0 then convertEvaluated p xn
      else do
        let off := pointerOffset p + xn
        require (field off 0 2 == 0) .pointerConversion
        pure (setField p 2 30 (field off 2 30)) : M Word)
    checkPop 1
    modify fun s => { s with X := xn }
    poke 1 np
    dropWords 1
    pure done) s

/-! ## Condition code to data -/

/-- CCI, R564. -/
def execCci (s : State) : Host.Outcome State Fault Refusal :=
  run16 (do
    let s ← get
    push (if s.cc = ccG then 1#32 else if s.cc = ccE then 0#32 else 0xFFFFFFFF#32)
    pure done) s

/-- TCC, R565. -/
def execTcc (ccf : BitVec 3) (s : State) : Host.Outcome State Fault Refusal :=
  run16 (do
    let s ← get
    push (if ccSelected s.cc ccf then 1#32 else 0#32)
    pure done) s

/-! ## Static-link walk -/

/-- Where the walk of LIA stands (R575): the SB and the upper bound of the stack segment the pointer lives in, the
pointer, and for a foreign segment its number and its segment-base-relative SB. The addresses are unbounded sums,
refused beyond 29 bits when they are used (R81). -/
structure LinkWalk where
  sb : Int
  upper : Int
  ptr : Word
  foreign : Option (BitVec 12 × Word)

/-- `W[a]` at an unbounded address (R9, R81). -/
def wordAt (a : Int) : M Word := do
  let w ← absAddress a
  readWord w

/-- An external link into a paged segment (R575): UnexpectedEDSType. DESIGN CHOICE: the entry read for its P bit is
given back, as it was, before the test and before the evaluation takes it again (R140; entry 57 of the log), and its use
count is not tested here (R139; entry 58). -/
def requireUnpaged (p : Word) : M Unit := do
  let s ← get
  let seg := field p 1 12
  let len ← readWord (s.dstBase seg)
  if field seg 1 11 ≠ 0 ∧ 16 * (field seg 1 11).toNat ≤ len.toNat then do
    let e ← readDst seg
    e.giveBack
    require (!bit e.w0 26) .unexpectedEdsType

/-- The stack segment an external link leads into (R575), and the address the link names there. -/
def enterForeign (w : LinkWalk) : M (LinkWalk × Int) := do
  requireUnpaged w.ptr
  let s ← get
  let l ← evalDsp w.ptr (s.access none false) 0
  let loc ← readWord (l.entry + 8#32)
  let rel ← readWord loc
  let sb : Int := loc.toNat + rel.toNat
  let top ← wordAt (sb - 4)
  pure ({ w with sb := sb, upper := sb + top.toNat, foreign := some (field l.ptr 1 12, rel) }, l.addr.toNat)

/-- One level of the walk (R575). -/
def followLink (w : LinkWalk) : M LinkWalk := do
  let wa ← (if bit w.ptr 0 = false then enterForeign w
    else do
      require (bit w.ptr 1) .unexpectedPointerType
      pure (w, w.sb + (pointerOffset w.ptr).toNat) : M (LinkWalk × Int))
  let la := wa.2 - 16
  checkBounds wa.1.sb wa.1.upper la
  let p ← wordAt la
  pure { wa.1 with ptr := p, upper := la }

/-- The walk over `level` links (R575). -/
def followLinks : Nat → LinkWalk → M LinkWalk
  | 0, w => pure w
  | n + 1, w => do
    let w' ← followLink w
    followLinks n w'

/-- An external pointer with the offset o, which must fit in 19 bits (R575). -/
def externalWith (p : Word) (o : Int) : M Word := do
  require (decide (0 ≤ o) && decide (o < 2 ^ 19)) .pointerConversion
  pure (setField p 13 19 (BitVec.ofInt 19 o))

/-- LIA and LIAS (R575, R576). -/
def loadIntermediate (level : Nat) (disp : Int) : M End := do
  let s ← get
  let w ← followLinks level
    { sb := s.SB.toNat, upper := s.Q.toNat, ptr := 0xC0000000#32 ||| (s.Q - s.SB), foreign := none }
  let r ← (if bit w.ptr 0 = false then externalWith w.ptr ((field w.ptr 13 19).toNat + disp)
    else do
      let o : Int := (pointerOffset w.ptr).toNat + disp
      match w.foreign with
      | some f => externalWith (setField 0#32 1 12 f.1) (o + f.2.toNat)
      | none => pure (retag 0xC0000000#32 o) : M Word)
  push r
  pure done

/-- LIA, R575. -/
def execLia (level : BitVec 4) (sign : Bool) (off : BitVec 19) (s : State) : Host.Outcome State Fault Refusal :=
  run32 (loadIntermediate level.toNat (if sign then - (off.toNat : Int) else off.toNat)) s

/-- LIAS, R576. -/
def execLias (level : BitVec 2) (off : BitVec 6) (s : State) : Host.Outcome State Fault Refusal :=
  run16 (loadIntermediate level.toNat off.toNat) s

/-! ## MPB channel instructions -/

/-- RFC, R577; after an error the data word is any value (U20; entry 14 of the log). -/
def execRfc (b3 : Bool) (s : State) : Host.Outcome State Fault Refusal :=
  runKeep16 (do
    requirePrivileged
    preCheckMpb
    let w ← peek 0
    let r ← mpbRequest (.channelRead (field w 3 29) b3)
    noteMpbErrors r
    let v ← (if r.addrErr || r.dataErr then drawFree else pure r.data : M Word)
    push v
    putCC (channelCC r)
    pure done) s

/-- The end of a WTC that has waited for MSG bit 12, or found it set (R578). -/
def finishWait : M End := do
  modify fun s => { s with MSG := setBit s.MSG 12 false, run := .running }
  putCC ccE
  dropWords 2
  pure done

/-- WTC, R578. -/
def execWtc (b3 : Bool) (s : State) : Host.Outcome State Fault Refusal :=
  runKeep16 (do
    requirePrivileged
    preCheckMpb
    let v ← peek 0
    let w ← peek 1
    checkPop 2
    let r ← mpbRequest (.channelWrite (field w 3 29) v b3)
    noteMpbErrors r
    if !r.addrErr && !r.dataErr && bit w 0 then do
      let s ← get
      if bit s.MSG 12 then finishWait
      else do
        modify fun s => { s with run := .channelWait }
        pure { stay := true }
    else do
      putCC (channelCC r)
      dropWords 2
      pure done) s

/-- RSC, R580; with MSG bit 6 set it is refused (U21). -/
def execRsc (s : State) : Host.Outcome State Fault Refusal :=
  run16 (do
    requirePrivileged
    let s ← get
    insist (!bit s.MSG 6) .slaveDataValid
    push s.SAR
    push s.SDR
    pure done) s

/-- SMSG, R581. -/
def execSmsg (b3 : Bool) (s : State) : Host.Outcome State Fault Refusal :=
  runKeep16 (do
    requirePrivileged
    preCheckMpb
    let w ← peek 0
    checkPop 1
    let s ← get
    let r ← mpbRequest (.message (field w 3 29) b3 s.secondary)
    raiseMpbError r
    dropWords 1
    pure done) s

/-- ALM, R583. -/
def execAlm (b3 : Bool) (s : State) : Host.Outcome State Fault Refusal :=
  run16 (do
    requirePrivileged
    modify fun s => { s with lockout := b3 }
    pure done) s

/-! ## Range check and bit counting -/

/-- CHEK, R584. -/
def execChek (lo : BitVec 5) (hi : BitVec 19) (s : State) : Host.Outcome State Fault Refusal :=
  run32 (do
    let s ← get
    let a ← peek 0
    pure (if (lo.toNat : Int) ≤ a.toInt ∧ a.toInt ≤ hi.toNat then done else { own := some (.check, some s.CIR) })) s

/-- The number of ones among the n low bits (R585). -/
def countOnes (v : Word) : Nat → Nat
  | 0 => 0
  | n + 1 => countOnes v n + (v.getLsbD n).toNat

/-- The number of zeros above the leftmost one of the n low bits (R586). -/
def leadingZeros (v : Word) : Nat → Nat
  | 0 => 0
  | n + 1 => if v.getLsbD n then 0 else 1 + leadingZeros v n

/-- Replace the TOS word, or push above it (R585, R586). -/
def replaceOrPush (pushes : Bool) (v : Word) : M End := do
  if pushes then push v else poke 0 v
  pure done

/-- CNTO, R585. -/
def execCnto (b3 : Bool) (s : State) : Host.Outcome State Fault Refusal :=
  run16 (do
    let a ← peek 0
    replaceOrPush b3 (BitVec.ofNat 32 (countOnes a 32))) s

/-- FLMO, R586. -/
def execFlmo (b3 : Bool) (s : State) : Host.Outcome State Fault Refusal :=
  run16 (do
    let a ← peek 0
    replaceOrPush b3 (BitVec.ofNat 32 (leadingZeros a 32))) s

/-! ## TRY and ESCAPE -/

/-- The set-up form of TRY (R587). -/
def trySetUp : M Unit := do
  let s ← get
  let r ← peek 0
  let link ← readWord (s.SB + 8#32)
  let top ← absAddress (s.S.toNat + 12)
  writeWord (top - 12#32) link
  writeWord (top - 8#32) r
  writeWord (top - 4#32) s.STATUS
  writeWord top (top - s.Q)
  writeWord (s.SB + 8#32) (top - s.SB)
  modify fun s => { s with S := top }

/-- The removal form of TRY (R587). DESIGN CHOICE: TEMP is taken modulo 2^32 (entry 54 of the log). -/
def tryRemove : M Unit := do
  let s ← get
  let link ← readWord (s.SB + 8#32)
  let temp := s.SB + link
  require (decide (s.Q.toNat + 16 ≤ temp.toNat) && decide (temp.toNat ≤ s.S.toNat)) .boundsViolation
  let prev ← readWord (temp - 12#32)
  writeWord (s.SB + 8#32) prev
  modify fun s => { s with S := temp - 16#32 }
  writeWord (s.SB + 16#32) 0#32

/-- TRY, R587. -/
def execTryMark (b3 : Bool) (s : State) : Host.Outcome State Fault Refusal :=
  run16 (do
    if b3 then trySetUp else tryRemove
    pure done) s

/-- The escape through the latest pseudo marker (R588): nS is S after the pop of the escape code. -/
def escape (code : Option Word) (nS : Word) : M End := do
  let s ← get
  let link ← readWord (s.SB + 8#32)
  let temp := s.SB + link
  require (decide (s.SB.toNat + 48 ≤ temp.toNat) && decide (temp.toNat ≤ nS.toNat)) .boundsViolation
  match code with
  | some c => writeWord (s.SB + 12#32) c
  | none => pure ()
  writeWord (s.SB + 16#32) 0xFFFFFFFF#32
  let prev ← readWord (temp - 12#32)
  writeWord (s.SB + 8#32) prev
  modify fun s => { s with Q := temp }
  exitCore 0 (!s.privileged)

/-- ESCP, R588; on CPU_REV le33 the raising form is refused unless a DUP came just before (R725). -/
def execEscp (b3 : Bool) (s : State) : Host.Outcome State Fault Refusal :=
  run16 (do
    let s ← get
    insist (s.cfg.rev != .le33 || b3 || s.prevDup) .revisionBug
    if b3 then do
      let w ← readWord (s.SB + 16#32)
      if w = 0#32 then pure done else undoing (escape none s.S)
    else do
      let c ← peek 0
      checkPop 1
      undoing (escape (some c) (s.S - 4#32))) s

/-! ## Operating-system support -/

/-- The new use count of MUC, the pop being tested before it is written (R590, R139, R140). -/
def countUse (entry : Word) (up : Bool) : M Unit := do
  let w ← acquire entry
  let c := useCount w
  owning entry w (do
    require (if up then c != 4095 else c != 0) .systemError (some 1#32)
    checkPop 1)
  release entry (setField w 1 12 (if up then c + 1 else c - 1))

/-- The three traps of an evaluation that mean an absent segment, page table or page. -/
def Trap.isAbsent : Trap → Bool
  | .absentDataSegment | .absentPage | .absentPageTable => true
  | _ => false

/-- MUC, R590: the pointer is popped last; a stack or global pointer is refused (U18). -/
def execMuc (b3 : Bool) (s : State) : Host.Outcome State Fault Refusal :=
  run16 (do
    requirePrivileged
    let p ← peek 0
    insist (!bit p 0) .notExternalPointer
    let r ← probing (evalEds p { index := none, modmem := false, unpriv := false, probe := true })
    let cc ← (match r with
      | .ok l => do
        countUse l.entry b3
        pure ccG
      | .error e => do
        checkPop 1
        pure (if e.1.isAbsent then ccE else ccL) : M (BitVec 2))
    dropWords 1
    putCC cc
    pure done) s

/-- GTSP, R591. -/
def execGtsp (s : State) : Host.Outcome State Fault Refusal :=
  run16 (do
    requirePrivileged
    let s ← get
    let t ← peek 0
    writeWord (s.cpuBlock + 4#32) t
    let a ← absAddress (t.toNat + 8)
    let w ← readWord a
    poke 0 (setField 0#32 1 12 (field w 4 12))
    push (setField 0#32 1 12 (field w 20 12))
    push ((field s.MASK 3 3).setWidth 32)
    let d ← readWord (t + 4#32)
    modify fun s => { s with DST := d }
    pure done) s

end Sys2Proof.Machine
end

