-- ==== Sys2Proof/Machine/Dispatch.lean ====
section
/-! DEFINITION. exec: one arm per instruction of the opcode table, each one direct call of its meaning. -/

namespace Sys2Proof.Machine

def exec (i : Instr) (s : State) : Host.Outcome State Fault Refusal :=
  match i with
  | .lds ind x base off => Sys2Proof.Machine.execLds ind x base off s
  | .lras ind x base off => Sys2Proof.Machine.execLras ind x base off s
  | .ldds ind x base off => Sys2Proof.Machine.execLdds ind x base off s
  | .sts ind x base off => Sys2Proof.Machine.execSts ind x base off s
  | .bccs ind ccf sign off => Sys2Proof.Machine.execBccs ind ccf sign off s
  | .exf e x k j => Sys2Proof.Machine.execExf e x k j s
  | .dpf x k j => Sys2Proof.Machine.execDpf x k j s
  | .chek lo hi => Sys2Proof.Machine.execChek lo hi s
  | .pcl off => Sys2Proof.Machine.execPcl off s
  | .lpp off => Sys2Proof.Machine.execLpp off s
  | .lia level sign off => Sys2Proof.Machine.execLia level sign off s
  | .ldi imm => Sys2Proof.Machine.execLdi imm s
  | .lni imm => Sys2Proof.Machine.execLni imm s
  | .ld ind x base off => Sys2Proof.Machine.execLd ind x base off s
  | .st ind x base off => Sys2Proof.Machine.execSt ind x base off s
  | .ldb ind x base off => Sys2Proof.Machine.execLdb ind x base off s
  | .cmpm ind x base off => Sys2Proof.Machine.execCmpm ind x base off s
  | .ldd ind x base off => Sys2Proof.Machine.execLdd ind x base off s
  | .ldh ind x base off => Sys2Proof.Machine.execLdh ind x base off s
  | .decm ind x base off => Sys2Proof.Machine.execDecm ind x base off s
  | .incm ind x base off => Sys2Proof.Machine.execIncm ind x base off s
  | .sth ind x base off => Sys2Proof.Machine.execSth ind x base off s
  | .ldx ind x base off => Sys2Proof.Machine.execLdx ind x base off s
  | .incf ind x base off => Sys2Proof.Machine.execIncf ind x base off s
  | .br ind x base off => Sys2Proof.Machine.execBr ind x base off s
  | .bcc ind ccf sign off => Sys2Proof.Machine.execBcc ind ccf sign off s
  | .decf ind x base off => Sys2Proof.Machine.execDecf ind x base off s
  | .seml ind x base off => Sys2Proof.Machine.execSeml ind x base off s
  | .stb ind x base off => Sys2Proof.Machine.execStb ind x base off s
  | .std ind x base off => Sys2Proof.Machine.execStd ind x base off s
  | .lra ind x base off => Sys2Proof.Machine.execLra ind x base off s
  | .sol n => Sys2Proof.Machine.execSol n s
  | .sop n => Sys2Proof.Machine.execSop n s
  | .cmpn n => Sys2Proof.Machine.execCmpn n s
  | .cmpi n => Sys2Proof.Machine.execCmpi n s
  | .addi n => Sys2Proof.Machine.execAddi n s
  | .subi n => Sys2Proof.Machine.execSubi n s
  | .mpyi n => Sys2Proof.Machine.execMpyi n s
  | .divi n => Sys2Proof.Machine.execDivi n s
  | .ldxi n => Sys2Proof.Machine.execLdxi n s
  | .ldxn n => Sys2Proof.Machine.execLdxn n s
  | .ldis n => Sys2Proof.Machine.execLdis n s
  | .lnis n => Sys2Proof.Machine.execLnis n s
  | .sos n => Sys2Proof.Machine.execSos n s
  | .iow n => Sys2Proof.Machine.execIow n s
  | .ior n => Sys2Proof.Machine.execIor n s
  | .ioc n => Sys2Proof.Machine.execIoc n s
  | .pcls n => Sys2Proof.Machine.execPcls n s
  | .exit n => Sys2Proof.Machine.execExit n s
  | .sxit n => Sys2Proof.Machine.execSxit n s
  | .lias level off => Sys2Proof.Machine.execLias level off s
  | .adxi n => Sys2Proof.Machine.execAdxi n s
  | .sbxi n => Sys2Proof.Machine.execSbxi n s
  | .solc n => Sys2Proof.Machine.execSolc n s
  | .adds n => Sys2Proof.Machine.execAdds n s
  | .subs n => Sys2Proof.Machine.execSubs n s
  | .lpps n => Sys2Proof.Machine.execLpps n s
  | .ori n => Sys2Proof.Machine.execOri n s
  | .xori n => Sys2Proof.Machine.execXori n s
  | .andi n => Sys2Proof.Machine.execAndi n s
  | .lsl x cnt => Sys2Proof.Machine.execLsl x cnt s
  | .lsr x cnt => Sys2Proof.Machine.execLsr x cnt s
  | .csl x cnt => Sys2Proof.Machine.execCsl x cnt s
  | .csr x cnt => Sys2Proof.Machine.execCsr x cnt s
  | .asl x cnt => Sys2Proof.Machine.execAsl x cnt s
  | .asr x cnt => Sys2Proof.Machine.execAsr x cnt s
  | .lsxl x cnt => Sys2Proof.Machine.execLsxl x cnt s
  | .sld negLen ptrType => Sys2Proof.Machine.execSld negLen ptrType s
  | .sval negLen retLen ptrType => Sys2Proof.Machine.execSval negLen retLen ptrType s
  | .scon negLen ptrType tNegLen srcTemp => Sys2Proof.Machine.execScon negLen ptrType tNegLen srcTemp s
  | .sas negLen fill ptrType tNegLen srcTemp => Sys2Proof.Machine.execSas negLen fill ptrType tNegLen srcTemp s
  | .pmpb sel => Sys2Proof.Machine.execPmpb sel s
  | .smpb sel => Sys2Proof.Machine.execSmpb sel s
  | .srm src mode => Sys2Proof.Machine.execSrm src mode s
  | .pshr block sel => Sys2Proof.Machine.execPshr block sel s
  | .setr sel => Sys2Proof.Machine.execSetr sel s
  | .llsh ccf => Sys2Proof.Machine.execLlsh ccf s
  | .tcc ccf => Sys2Proof.Machine.execTcc ccf s
  | .bir ind sign off => Sys2Proof.Machine.execBir ind sign off s
  | .bun ind sign off => Sys2Proof.Machine.execBun ind sign off s
  | .pmva d sdec => Sys2Proof.Machine.execPmva d sdec s
  | .mvb d ptrType sdec => Sys2Proof.Machine.execMvb d ptrType sdec s
  | .scw d ptrType sdec => Sys2Proof.Machine.execScw d ptrType sdec s
  | .scu d ptrType sdec => Sys2Proof.Machine.execScu d ptrType sdec s
  | .cmpb d ptrType sdec => Sys2Proof.Machine.execCmpb d ptrType sdec s
  | .tran d ptrType sdec => Sys2Proof.Machine.execTran d ptrType sdec s
  | .filb sdec => Sys2Proof.Machine.execFilb sdec s
  | .bcy ind sign off => Sys2Proof.Machine.execBcy ind sign off s
  | .bnc ind sign off => Sys2Proof.Machine.execBnc ind sign off s
  | .bov ind sign off => Sys2Proof.Machine.execBov ind sign off s
  | .bno ind sign off => Sys2Proof.Machine.execBno ind sign off s
  | .brz ind sign off => Sys2Proof.Machine.execBrz ind sign off s
  | .bre ind sign off => Sys2Proof.Machine.execBre ind sign off s
  | .bro ind sign off => Sys2Proof.Machine.execBro ind sign off s
  | .crb ind sign off => Sys2Proof.Machine.execCrb ind sign off s
  | .nop => Sys2Proof.Machine.execNop s
  | .del => Sys2Proof.Machine.execDel s
  | .delb => Sys2Proof.Machine.execDelb s
  | .fixd b3 => Sys2Proof.Machine.execFixd b3 s
  | .ddel => Sys2Proof.Machine.execDdel s
  | .fltd => Sys2Proof.Machine.execFltd s
  | .ftst b3 => Sys2Proof.Machine.execFtst b3 s
  | .stax b3 => Sys2Proof.Machine.execStax b3 s
  | .ftss b3 => Sys2Proof.Machine.execFtss b3 s
  | .ldxa => Sys2Proof.Machine.execLdxa s
  | .pshn b3 => Sys2Proof.Machine.execPshn b3 s
  | .dup => Sys2Proof.Machine.execDup s
  | .zero => Sys2Proof.Machine.execZero s
  | .ddup => Sys2Proof.Machine.execDdup s
  | .dzro => Sys2Proof.Machine.execDzro s
  | .fcmp b3 => Sys2Proof.Machine.execFcmp b3 s
  | .dlad b3 => Sys2Proof.Machine.execDlad b3 s
  | .fadd => Sys2Proof.Machine.execFadd s
  | .dlsb b3 => Sys2Proof.Machine.execDlsb b3 s
  | .fsub => Sys2Proof.Machine.execFsub s
  | .dxch => Sys2Proof.Machine.execDxch s
  | .fmpy => Sys2Proof.Machine.execFmpy s
  | .cmp b3 => Sys2Proof.Machine.execCmp b3 s
  | .fdiv => Sys2Proof.Machine.execFdiv s
  | .add b3 => Sys2Proof.Machine.execAdd b3 s
  | .fneg => Sys2Proof.Machine.execFneg s
  | .sub b3 => Sys2Proof.Machine.execSub b3 s
  | .cab => Sys2Proof.Machine.execCab s
  | .mpy b3 => Sys2Proof.Machine.execMpy b3 s
  | .lcmp b3 => Sys2Proof.Machine.execLcmp b3 s
  | .div b3 => Sys2Proof.Machine.execDiv b3 s
  | .ladd b3 => Sys2Proof.Machine.execLadd b3 s
  | .neg => Sys2Proof.Machine.execNeg s
  | .lsub b3 => Sys2Proof.Machine.execLsub b3 s
  | .test b3 => Sys2Proof.Machine.execTest b3 s
  | .lmpy => Sys2Proof.Machine.execLmpy s
  | .tstd b3 => Sys2Proof.Machine.execTstd b3 s
  | .not => Sys2Proof.Machine.execNot s
  | .tstb b3 => Sys2Proof.Machine.execTstb b3 s
  | .or => Sys2Proof.Machine.execOr s
  | .cdsf => Sys2Proof.Machine.execCdsf s
  | .xor => Sys2Proof.Machine.execXor s
  | .csdf => Sys2Proof.Machine.execCsdf s
  | .and => Sys2Proof.Machine.execAnd s
  | .xch => Sys2Proof.Machine.execXch s
  | .flts => Sys2Proof.Machine.execFlts s
  | .divs b3 => Sys2Proof.Machine.execDivs b3 s
  | .fixs b3 => Sys2Proof.Machine.execFixs b3 s
  | .isc => Sys2Proof.Machine.execIsc s
  | .fads => Sys2Proof.Machine.execFads s
  | .xax => Sys2Proof.Machine.execXax s
  | .fsbs => Sys2Proof.Machine.execFsbs s
  | .adax b3 => Sys2Proof.Machine.execAdax b3 s
  | .fmps => Sys2Proof.Machine.execFmps s
  | .adxa => Sys2Proof.Machine.execAdxa s
  | .fdvs => Sys2Proof.Machine.execFdvs s
  | .fngs => Sys2Proof.Machine.execFngs s
  | .fcps b3 => Sys2Proof.Machine.execFcps b3 s
  | .dtb b3 => Sys2Proof.Machine.execDtb b3 s
  | .tryMark b3 => Sys2Proof.Machine.execTryMark b3 s
  | .btd b3 => Sys2Proof.Machine.execBtd b3 s
  | .escp b3 => Sys2Proof.Machine.execEscp b3 s
  | .lbit b3 => Sys2Proof.Machine.execLbit b3 s
  | .alm b3 => Sys2Proof.Machine.execAlm b3 s
  | .sbit b3 => Sys2Proof.Machine.execSbit b3 s
  | .cci => Sys2Proof.Machine.execCci s
  | .eos => Sys2Proof.Machine.execEos s
  | .eop => Sys2Proof.Machine.execEop s
  | .lsi b3 => Sys2Proof.Machine.execLsi b3 s
  | .plba b3 => Sys2Proof.Machine.execPlba b3 s
  | .lbsi b3 => Sys2Proof.Machine.execLbsi b3 s
  | .psba b3 => Sys2Proof.Machine.execPsba b3 s
  | .ldsi b3 => Sys2Proof.Machine.execLdsi b3 s
  | .plha b3 => Sys2Proof.Machine.execPlha b3 s
  | .lhsi b3 => Sys2Proof.Machine.execLhsi b3 s
  | .psha b3 => Sys2Proof.Machine.execPsha b3 s
  | .int b3 => Sys2Proof.Machine.execInt b3 s
  | .pot => Sys2Proof.Machine.execPot s
  | .gtsp => Sys2Proof.Machine.execGtsp s
  | .cnto b3 => Sys2Proof.Machine.execCnto b3 s
  | .muc b3 => Sys2Proof.Machine.execMuc b3 s
  | .flmo b3 => Sys2Proof.Machine.execFlmo b3 s
  | .xgds => Sys2Proof.Machine.execXgds s
  | .rfc b3 => Sys2Proof.Machine.execRfc b3 s
  | .psdb => Sys2Proof.Machine.execPsdb s
  | .wtc b3 => Sys2Proof.Machine.execWtc b3 s
  | .disp => Sys2Proof.Machine.execDisp s
  | .smsg b3 => Sys2Proof.Machine.execSmsg b3 s
  | .pseb => Sys2Proof.Machine.execPseb s
  | .rsc => Sys2Proof.Machine.execRsc s
  | .ssi b3 => Sys2Proof.Machine.execSsi b3 s
  | .psla b3 => Sys2Proof.Machine.execPsla b3 s
  | .sbsi b3 => Sys2Proof.Machine.execSbsi b3 s
  | .plda b3 => Sys2Proof.Machine.execPlda b3 s
  | .sdsi b3 => Sys2Proof.Machine.execSdsi b3 s
  | .psta b3 => Sys2Proof.Machine.execPsta b3 s
  | .shsi b3 => Sys2Proof.Machine.execShsi b3 s
  | .cpaa b3 => Sys2Proof.Machine.execCpaa b3 s
  | .rcs => Sys2Proof.Machine.execRcs s
  | .cpep b3 => Sys2Proof.Machine.execCpep b3 s
  | .brsi b3 => Sys2Proof.Machine.execBrsi b3 s
  | .cptr b3 => Sys2Proof.Machine.execCptr b3 s
  | .vptr b3 => Sys2Proof.Machine.execVptr b3 s
  | .lins => Sys2Proof.Machine.execLins s
  | .ldel => Sys2Proof.Machine.execLdel s
  | .ixit => Sys2Proof.Machine.execIxit s
  | .wait b3 => Sys2Proof.Machine.execWait b3 s
  | .stop b3 => Sys2Proof.Machine.execStop b3 s

end Sys2Proof.Machine
end

