-- ==== Sys2Proof/Machine/Env.lean ====
section
/-! DEFINITION. What happens around an instruction: fetching it (spec/30_encoding.md rule R168), the turns of the other
agents (spec/60_exceptions.md rule R640, spec/46_io_interrupt.md rule R545), and the end of the two instructions that
wait (R466, R578). -/

namespace Sys2Proof.Machine

/-! ## Fetch -/

/-- The instruction at P into CIR (R168): 32 bits when OP1 = 7, which must stand at a word address (U4). -/
def fetch : M Word := do
  let s ← get
  let w ← readWord s.P
  let h : Half := if bit s.P 30 then field w 16 16 else field w 0 16
  let cir ← (if ilenOf h = 4 then do
      insist (!bit s.P 30) .misalignedInstruction
      pure w
    else pure (h.setWidth 32) : M Word)
  modify fun s => { s with CIR := cir }
  pure cir

/-- The three unassigned opcodes that CPU_REV le33 does not trap on (R728). DESIGN CHOICE: the third is the halfword
0x007D alone; 0x107D, the same opcode with bit 3 = 1, traps (R177; entry 43 of the log). -/
def silentOpcode (cir : Word) : Bool :=
  field cir 0 8 == 0xFF#8 || (field cir 0 16 == 0#16 && field cir 16 8 == 0x38#8) || cir == 0x7D#32

/-- The length in bytes of the instruction in CIR. -/
def cirLength (cir : Word) : Nat := if field cir 0 3 = 7#3 then 4 else 2

/-- An unassigned opcode (R177): trap 20o at the end of the empty instruction; refused where le33 has no trap (R728). -/
def unassigned (cir : Word) (s : State) : Host.Outcome State Fault Refusal :=
  if s.cfg.rev = .le33 ∧ silentOpcode cir = true then .refused .revisionBug
  else runBody (cirLength cir) false (pure { own := some (.unimplemented, some cir) }) s

/-! ## The other agents -/

/-- One turn of the environment between two instructions (R640, R545). -/
def act (a : EnvAction) : M Unit :=
  match a with
  | .pass => pure ()
  | .move m => deliver m
  | .pollInside k moves => modify fun s => { s with poll := some { iteration := k, moves := moves } }

/-! ## The end of a wait -/

/-- An unmasked MSG bit, bits 3-5 apart (R466). -/
def State.awake (s : State) : Bool := s.messageBits != 0#32 || s.levelBits != 0#32

/-- A sleeping STOP wakes: MASK and STATUS are restored and the instruction completes (R466). -/
def wakeUp (mask status : Word) : M End := do
  modify fun s => { s with MASK := mask, STATUS := status, run := .running }
  pure done

/-- One step of a CPU asleep in STOP (R466). -/
def sleepStep (mask status : Word) (s : State) : Host.Outcome State Fault Refusal :=
  if s.awake then runBody 2 false (wakeUp mask status) s else .next s

/-- One step of a CPU waiting in WTC (R578). -/
def channelWaitStep (s : State) : Host.Outcome State Fault Refusal :=
  if bit s.MSG 12 then runBody 2 false finishWait s else .next s

end Sys2Proof.Machine
end

