-- ==== Sys2Proof/Machine/Step.lean ====
section
/-! DEFINITION. One step of the machine: a move of the environment when one is scheduled, else one instruction. -/

namespace Sys2Proof.Machine

/-- Run what the decoder has read (R168, R177, R178). -/
def runDecoded (d : Decoded) (cir : Word) (s : State) : Host.Outcome State Fault Refusal :=
  match d with
  | .instr i => exec i s
  | .unimplemented => unassigned cir s
  | .reservedBits => .refused .mustBeZero
  | .truncated => .refused .mustBeZero

/-- Fetch, decode and run one instruction. -/
def instructionStep (s : State) : Host.Outcome State Fault Refusal :=
  match fetch s with
  | .ok (cir, s1) => runDecoded (decodeCir cir) cir s1
  | .error e => conclude s (fun _ => .error e) s

/-- One step of the CPU in its run state (R54); an instruction or a wake-up that has waited for a semaphore starts
again (R124). DESIGN CHOICE: a wait is a step, entry 21 of the log. -/
def cpuStep (s : State) : Host.Outcome State Fault Refusal :=
  match s.run with
  | .running => instructionStep s.regained
  | .halted => .next s
  | .sleeping mask status => sleepStep mask status s.regained
  | .channelWait => channelWaitStep s.regained

/-- One step of the machine: the environment's scheduled moves come between instructions (R640). -/
def step (s : State) : Host.Outcome State Fault Refusal :=
  match s.inputs with
  | [] => cpuStep s
  | .pass :: rest => cpuStep { s with inputs := rest }
  | a :: rest => conclude s (act a) { s with inputs := rest }

/-- The state with an instruction of the opcode table stored where the next step fetches it: at P, big endian, the CPU
running, waiting for nothing, and no environment move before it. DESIGN CHOICE: how a program comes to run is entry 6
of the log. -/
def State.withFetchWord (s : State) (nbits w : Nat) : State :=
  let v := tableWord nbits w
  { s with mem := (s.mem.writeHalf s.P.toNat (field v 0 16)).writeHalf (s.P.toNat + 2) (field v 16 16),
           run := .running, inputs := [], owned := [] }

end Sys2Proof.Machine
end

