-- ==== Sys2Proof/Safety.lean ====
section
/-! DEFINITION. What counts as a safe run, and the words the statements are written in: where there is memory, the state
with some words stored, and the normal end of an instruction (spec/60_exceptions.md rule R620 with no condition true). -/

namespace Sys2Proof.Machine

/-- `t` is reached from `s` by steps of the machine. -/
inductive Reaches (s : State) : State → Prop where
  | refl : Reaches s s
  | next {t u : State} : Reaches s t → step t = .next u → Reaches s u

/-- No run from `s` stops in a fault or a refusal. -/
def SafeFrom (s : State) : Prop := ∀ t, Reaches s t → ∃ u, step t = .next u

/-! ## Where there is memory -/

/-- The absolute byte address n has 29 bits and is no hole of MEM_MAP (R81, R84). -/
def State.present (s : State) (n : Nat) : Bool := decide (n < addressSpace) && !Config.isHole s.cfg n

/-- There is memory for the word at a. -/
def State.hasWord (s : State) (a : Word) : Bool := s.present (wordAlign a).toNat

/-- There is memory for the halfword at a. -/
def State.hasHalf (s : State) (a : Word) : Bool := s.present (halfAlign a).toNat

/-- There is memory for the byte at a. -/
def State.hasByte (s : State) (a : Word) : Bool := s.present a.toNat

/-- There is memory for the word at the unbounded address a (R81). -/
def State.hasAddr (s : State) (a : Int) : Bool := decide (0 ≤ a) && decide (a < addressSpace) && s.hasWord (wordOf a)

/-- There is memory for n words from the k-th word above the top of the stack downwards. -/
def State.hasWords (s : State) (k : Nat) : Nat → Bool
  | 0 => true
  | n + 1 => s.hasWord (s.S + BitVec.ofNat 32 (4 * k) - BitVec.ofNat 32 (4 * n)) && s.hasWords k n

/-- There is memory for the stack words from the k-th above the top, whose address has 29 bits (R81), to the (n-1)-th
below it. -/
def State.hasStack (s : State) (n k : Nat) : Bool :=
  (k == 0 || decide (s.S.toNat + 4 * k < addressSpace)) && s.hasWords k (n + k)

/-- The k-th word from the top of the stack, k = 0 the TOS word (R11). -/
def State.top (s : State) (k : Nat) : Word := s.word (s.S - BitVec.ofNat 32 (4 * k))

/-- The k-th doubleword from the top (R11). -/
def State.topDouble (s : State) (k : Nat) : DWord := dword (s.top (2 * k + 1)) (s.top (2 * k))

/-- k words can be popped without a stack underflow (R260). -/
def State.canPop (s : State) (k : Nat) : Bool := decide (s.Q.toNat + 4 * k ≤ s.S.toNat)

/-! ## The state with something stored -/

/-- The state with the word v stored at a. -/
def State.putWord (s : State) (a v : Word) : State := { s with mem := s.mem.writeWord (wordAlign a).toNat v }

/-- The state with the semaphore of the table entry at ent taken: its first word is -1 (R124). -/
def State.taken (s : State) (ent : Word) : State := s.putWord ent 0xFFFFFFFF#32

/-- The state with the halfword v stored at a. -/
def State.putHalf (s : State) (a : Word) (v : Half) : State := { s with mem := s.mem.writeHalf (halfAlign a).toNat v }

/-- The state with the byte v stored at a. -/
def State.putByte (s : State) (a : Word) (v : Byte) : State := { s with mem := s.mem.write a.toNat v }

/-- The state with the k-th word from the top replaced. -/
def State.putTop (s : State) (k : Nat) (v : Word) : State := s.putWord (s.S - BitVec.ofNat 32 (4 * k)) v

/-- The state with v pushed (R11). -/
def State.pushed (s : State) (v : Word) : State := { s.putWord (s.S + 4#32) v with S := s.S + 4#32 }

/-- The state with k words popped. -/
def State.popped (s : State) (k : Nat) : State := { s with S := s.S - BitVec.ofNat 32 (4 * k) }

/-- The state with X replaced. -/
def State.putX (s : State) (v : Word) : State := { s with X := v }

/-- O is set when c holds, else left alone (R320). -/
def State.noteOverflow (s : State) (c : Bool) : State := if c then s.setO true else s

/-! ## The normal end of an instruction -/

/-- None of the conditions of R620 holds, the instruction's own trap and its trace event apart. -/
def State.quiet (t : State) : Bool :=
  !(t.overflow && t.trapEnable) && !t.interruptPending && !t.outOfSequence && !t.stackOverflowed
    && !decide (t.P = t.BRKPT) && !(t.machineTrap && t.machineTrapEnable)

/-- P at the next instruction (R168), and DUP remembered for ESCP (R725). -/
def State.advanced (u : State) (i : Instr) : State :=
  { u with P := u.P + BitVec.ofNat 32 i.ilen, prevDup := decide (i = .dup) }

/-- P at a transfer target, its lowest bit 0 (R21). -/
def State.jumped (u : State) (target : Word) : State := { u with P := halfAlign target, prevDup := false }

/-- i completes from s with the effect u of its own: when no condition of R620 holds after it, the next state is u
with P advanced and EM set (R634). -/
def CompletesAs (i : Instr) (s u : State) : Prop :=
  (u.advanced i).quiet = true → exec i s = .next ((u.advanced i).setEM true)

/-- i completes from s with the effect u and transfers to the target, under the same condition; the fetch there meets no
bug of the old chips (R722). -/
def JumpsAs (i : Instr) (s u : State) (target : Word) : Prop :=
  u.alignmentBug (halfAlign target) = false → (u.jumped target).quiet = true →
    exec i s = .next ((u.jumped target).setEM true)

/-- i raises the note-2 trap t (R603) from s as it stands. -/
def Raises (i : Instr) (s : State) (t : Trap) (param : Option Word) : Prop :=
  exec i s = conclude s (takeTrap t param) s

/-- i ends in the note-1 trap t (R603) after the effect u of its own, when neither a User Trap nor an interrupt is due
then; `count` is the second parameter of the Variable Trace trap (R632). -/
def EndsInTrap (i : Instr) (s u : State) (t : Trap) (param count : Option Word) : Prop :=
  ((u.advanced i).overflow && (u.advanced i).trapEnable) = false → (u.advanced i).interruptPending = false →
    exec i s =
      conclude s (do trapEntry t param (u.advanced i).P count; postEntryTests postEntryFuel false) (u.advanced i)

/-- i modifies memory and leaves u (R632): it completes, or with TV = 1 it ends in the Variable Trace trap with the
pointer to the modified bytes and their number. -/
def CompletesTraced (i : Instr) (s u : State) (pointer count : Word) : Prop :=
  (u.tv = false → CompletesAs i s u) ∧
    (u.tv = true → EndsInTrap i s u .variableTrace (some pointer) (some count))

/-- i ends in the User Trap after the effect u of its own, which has set O: with T = 1, and no interrupt due, O is cleared
and the trap is entered with the parameter of the overflow (R320, R631). -/
def EndsInUserTrap (i : Instr) (s u : State) (param : Word) : Prop :=
  let v := (u.setO false).advanced i
  u.trapEnable = true → v.interruptPending = false →
    exec i s = conclude s (do
      trapEntry .user (some param) v.P
      postEntryTests postEntryFuel false) v

/-- As `EndsInUserTrap` of an instruction that has modified memory: with TV = 1 the Variable Trace trap is entered first
and the User Trap on top of it (R620, R632). -/
def EndsInTracedUserTrap (i : Instr) (s u : State) (pointer count param : Word) : Prop :=
  let v := (u.setO false).advanced i
  (u.tv = false → EndsInUserTrap i s u param) ∧
    (u.tv = true → u.trapEnable = true → v.interruptPending = false →
      exec i s = conclude s (do
        trapEntry .variableTrace (some pointer) v.P (some count)
        let w ← get
        trapEntry .user (some param) w.P
        postEntryTests postEntryFuel false) v)

/-- k words can be popped, or none are to be (R260). -/
def State.popsOk (s : State) (k : Nat) : Bool := k == 0 || s.canPop k

/-- Where there is memory for n stack words from the top down and k above it, i pops p words net and has the effect u,
or raises StackUnderflow when S would fall below Q (R260). -/
def OnStack (i : Instr) (s : State) (n k p : Nat) (u : State) : Prop :=
  s.hasStack n k = true → if s.popsOk p then CompletesAs i s u else Raises i s .stackUnderflow none

/-- As `OnStack` of an instruction that sets O when c holds, c then being part of u: with T = 1 it ends in the User Trap
with the parameter (R320). -/
def OnStackSettingO (i : Instr) (s : State) (n k p : Nat) (u : State) (c : Bool) (param : Word) : Prop :=
  OnStack i s n k p u ∧
    (s.hasStack n k = true → s.popsOk p = true → c = true → EndsInUserTrap i s u param)

/-- CC after an extended operation: a zero result leaves it alone (R321). -/
def State.noteExtended (s : State) (v : Word) (ext : Bool) : State :=
  if ext = true ∧ v = 0#32 then s else s.setCC (ccWord v)

/-- Whether the integer r differs from the word that two's complement arithmetic leaves (R320). -/
def inexactWord (r : Int) : Bool := decide ((wordOf r).toInt ≠ r)

/-- The word at the absolute address a lies outside the active stack and its marker (U7, R57; log entry 18). -/
def State.offStack (s : State) (a : Word) : Bool :=
  !(decide (s.Q.toNat ≤ (wordAlign a).toNat + 15) && decide ((wordAlign a).toNat ≤ s.SL.toNat))

/-- A note-2 trap from the evaluation m of an operand reaches the instruction: it is taken with the registers of the
instruction's start, and with the memory that m leaves, in which the R and D bits already set stay set (R603, decision
D18; log entry 37). -/
def PassesTrapsOf {α : Type} (i : Instr) (s : State) (m : M α) : Prop :=
  ∀ t p s1, m s = .error (.trap t p s1) → exec i s = conclude s (takeTrap t p) (s.unwound s1)

/-- i takes the note-2 trap with the registers of its start s and with the memory that s1, where the trap was raised,
holds (R603, decision D18; log entry 37). -/
def TrapsFrom (i : Instr) (s s1 : State) (t : Trap) (param : Option Word) : Prop :=
  exec i s = conclude s (takeTrap t param) (s.unwound s1)

/-- Every byte of memory outside the `len` bytes from `a` on reads in t as it does in s. -/
def SameBytesOutside (s t : State) (a len : Nat) : Prop := ∀ n, n < a ∨ a + len ≤ n → t.byte n = s.byte n

/-! ## Transfers -/

/-- i, with the effect u of its own, branches from s when `take` holds to P + disp, or through the self-relative pointer
there, which must lie in the code segment (R444, R446); else it completes. -/
def BranchesIf (i : Instr) (s u : State) (take : Bool) (disp : Int) (ind : Bool) : Prop :=
  let loc : Int := s.P.toNat + disp
  if take = false then CompletesAs i s u
  else if ind = false then JumpsAs i s u (wordOf loc)
  else if loc < s.PB.toNat ∨ (s.PL.toNat : Int) + 3 < loc then Raises i s .boundsViolation none
  else s.hasAddr loc = true → JumpsAs i s u (wordOf (loc + (s.word (wordOf loc)).toInt))

/-- The displacement of sign and magnitude. -/
def signedDisp (sign : Bool) (mag : Nat) : Int := if sign then - (mag : Int) else mag

/-- Where the pointer to the table of a code segment number stands (R122). -/
def State.cstPointer (s : State) (c : BitVec 12) : Word :=
  if c.toNat < 1024 then 0#32 else if c.toNat < 3072 then 4#32 else (field s.MASK 3 3).setWidth 32 * 16#32

/-- The number of a code segment's entry in its table (R122). -/
def cstIndex (c : BitVec 12) : Nat :=
  if c.toNat < 1024 then c.toNat else if c.toNat < 3072 then c.toNat - 1024 else c.toNat - 3072

/-- The table of a code segment number (R122). -/
def State.cstTable (s : State) (c : BitVec 12) : Word := s.word (s.cstPointer c)

/-- The address of the CST entry of a code segment number (R122). -/
def State.cstOf (s : State) (c : BitVec 12) : Word := s.cstTable c + BitVec.ofNat 32 (16 * cstIndex c)

/-- The code segment number names an entry (R122), and there is memory for the table's pointer, its length word and that
entry. -/
def State.hasCst (s : State) (c : BitVec 12) : Bool :=
  s.hasWord (s.cstPointer c) && s.hasWord (s.cstTable c) && decide ((s.cstTable c).toNat + 16 * cstIndex c < addressSpace)
    && s.hasWord (s.cstOf c) && s.hasWord (s.cstOf c + 4#32) && s.hasWord (s.cstOf c + 8#32)

/-- The number of a code segment that has an entry: not 0, 1024 or 3072 (R122). -/
def namesEntry (c : BitVec 12) : Bool := decide (c.toNat % 1024 ≠ 0) || decide (c.toNat = 2048)

/-- The entry lies in its table (R122). -/
def State.cstWithin (s : State) (c : BitVec 12) : Bool := decide (16 * cstIndex c ≤ (s.word (s.cstTable c)).toNat)

/-- PL of a code segment whose entry is at `ent`, as an unbounded sum (R121). -/
def State.limitAt (s : State) (ent : Word) : Int := ((s.word (ent + 8#32)).toNat : Int) + (s.word (ent + 4#32)).toNat - 3

/-- The code segment number has an entry in its table, and nobody owns it (R122, R124). -/
def State.isCounted (s : State) (c : BitVec 12) : Bool :=
  s.hasCst c && namesEntry c && s.cstWithin c && !bit (s.word (s.cstOf c)) 0

/-- The entry of the code segment `old`, which is left for `new`, can be read while the entry of `new` is owned, and
nobody owns it (R124, R133). -/
def State.canLeave (s : State) (old new : BitVec 12) : Bool :=
  s.isCounted old && [s.cstOf old, s.cstPointer old, s.cstTable old].all fun a => wordAlign a != wordAlign (s.cstOf new)

/-- The state with a new first word of the CST entry of `c`: its use count n more or less. -/
def State.counted (s : State) (c : BitVec 12) (n : BitVec 12) : State :=
  s.putWord (s.cstOf c) (setField (s.word (s.cstOf c)) 1 12 (useCount (s.word (s.cstOf c)) + n))

/-- i transfers through the program pointer p (R133) after the effect v of its own, a function of the state that the
tests leave: a trap of the tests is taken from s, else the segment is changed and P is the target. -/
def TransfersThrough (i : Instr) (s : State) (p : Word) (kind : TransferKind) (v : State → State) : Prop :=
  PassesTrapsOf i s (planTransfer p kind) ∧
    ∀ g t u, planTransfer p kind s = .ok (g, t) → commitTransfer g (v t) = .ok ((), u) → JumpsAs i s u g.target

/-- A transfer through the program pointer p has passed its tests from s, those of an external pointer leaving its
target's entry owned, but the word it pops is not there: a StackUnderflow, which finds the entry given back (R133,
R260). -/
def UnderflowsAfterPlan (i : Instr) (s : State) (p : Word) (kind : TransferKind) : Prop :=
  let csn := field p 20 12
  (bit p 0 = false → Raises i s .stackUnderflow none) ∧
    (s.mem.wf = true → s.hasCst csn = true → ∀ g, planTransfer p kind s = .ok (g, s.taken (s.cstOf csn)) →
      Raises i s .stackUnderflow none)

/-- A debug aid: the note-1 trap when its enable bit is set, else nothing (R480 to R489). -/
def TrapsIf (i : Instr) (s u : State) (c : Bool) (t : Trap) (param : Option Word) : Prop :=
  if c then EndsInTrap i s u t param none else CompletesAs i s u

/-- The state with a stack marker pushed (R60): X, the PB-relative return address, STATUS, the distance to the old Q. -/
def State.marked (s : State) (ra : Word) : State :=
  let top := s.S + 16#32
  { (((s.putWord (top - 12#32) s.X).putWord (top - 8#32) (ra - s.PB)).putWord (top - 4#32) s.STATUS).putWord top
      (top - s.Q) with S := top, Q := top }

/-- The stack marker at Q is that of s with the return address ra (R60). -/
def State.holdsMarkerOf (u s : State) (ra : Word) : Bool :=
  decide (u.word u.Q = u.Q - s.Q) && decide (u.word (u.Q - 4#32) = s.STATUS)
    && decide (u.word (u.Q - 8#32) = ra - s.PB) && decide (u.word (u.Q - 12#32) = s.X)

/-! ## Areas of bytes -/

/-- The k-th step of a move: up, or down when d is set (R500). -/
def stepBy (d : Bool) (k : Nat) : Int := if d then - (k : Int) else k

/-- The byte k steps into the area of the pointer p: a program pointer when `code`, else a stack or a global pointer
(R104, R105, R131). -/
def State.areaAt (s : State) (code : Bool) (p : Word) (d : Bool) (k : Nat) : Int :=
  (if code then s.PB else if bit p 1 then s.SB else s.DB).toNat + (pointerOffset p).toNat + stepBy d k

/-- The absolute byte address of `areaAt`. -/
def State.areaByte (s : State) (code : Bool) (p : Word) (d : Bool) (k : Nat) : Nat := (wordOf (s.areaAt code p d k)).toNat

/-- The byte at a exists and is no part of the parameters [S-11, S] (R500, entry U16). -/
def State.freeByte (s : State) (a : Word) : Bool :=
  s.hasByte a && (decide ((a.toNat : Int) < s.S.toNat - 11) || decide (s.S.toNat < a.toNat))

/-- p is a program pointer when `code`, else a stack or a global pointer, and the n bytes of its area lie in its
segment, exist, and are no part of the parameters. -/
def State.areaIn (s : State) (code : Bool) (p : Word) (d : Bool) (n : Nat) : Prop :=
  bit p 0 = !code ∧ ∀ k, (k = 0 ∨ k < n) →
    (if code then s.PB else if bit p 1 then s.SB else s.DB).toNat ≤ s.areaAt code p d k ∧
    s.areaAt code p d k ≤
      (if code then (s.PL.toNat : Int) + 3 else if bit p 1 then (s.S.toNat : Int) else (s.DL.toNat : Int)) ∧
    (code = true → s.areaAt code p d k < 2 ^ 29) ∧
    (k < n → s.freeByte (wordOf (s.areaAt code p d k)) = true)

/-- n bytes copied one at a time, the k-th from `src k` to `tgt k`. -/
def copied (m : Memory) (src tgt : Nat → Nat) : Nat → Memory
  | 0 => m
  | n + 1 => (copied m src tgt n).write (tgt n) ((copied m src tgt n).read (src n))

/-- No interruption is under way or due inside, S ends a word, and there is memory for the parameters. -/
def State.fresh (s : State) : Bool :=
  !s.pending && s.poll.isNone && (field s.S 30 2 == 3#2) && s.hasStack 3 0

/-- The state after a move or scan that has handled n of its bytes (R500 (e)). -/
def State.moved (s : State) (d : Bool) (sdec n : Nat) : State :=
  ((({ s with X := wordOf (stepBy d n) }).putTop 0 (wordOf ((s.top 0).toInt - n))).popped sdec).setPending false

/-- u is what the whole byte move with the parameters on top of s leaves (R501). -/
def MoveResult (s : State) (d code : Bool) (sdec : Nat) (u : State) : Prop :=
  let n := (s.top 0).toInt.toNat
  s.fresh = true ∧ s.canPop sdec = true ∧ s.areaIn code (s.top 2) d n ∧ s.areaIn false (s.top 1) d n ∧
    u = ({ s with mem := copied s.mem (s.areaByte code (s.top 2) d) (s.areaByte false (s.top 1) d) n }).moved d sdec n

/-- i completes with the effect u, and reports the modified bytes when it has modified some (R632, R500 (h)). -/
def CompletesMoved (i : Instr) (s u : State) (target : Word) (always : Bool) : Prop :=
  if always || u.X != 0#32 then CompletesTraced i s u target u.X else CompletesAs i s u

/-- The state after the end of a move or scan that has counted its bytes in X: they are taken off the count, `sdec`
words are popped and STATUS.P is cleared (R500 (e)). -/
def State.ended (s : State) (d : Bool) (sdec : Nat) : State :=
  ((s.putTop 0 (wordOf ((s.top 0).toInt - (if d then -1 else 1) * s.X.toInt))).popped sdec).setPending false

/-- i, begun at s and having come to w, runs the loop of a move or scan (R500): X starts at 0 unless the instruction
resumes (STATUS.P = 1); `first` evaluates the areas before anything is written; `body` handles each byte that is left.
It has the outcome `ends`, of what `first` gave, when all bytes are counted (true) or a byte ended the loop (false), it is
suspended for an interrupt (R626) or aborted by a reset (R660), or it takes a trap with the progress it has made. -/
def LoopsFrom {α : Type} (i : Instr) (s w : State) (d : Bool) (sdec : Nat) (first : M α) (body : α → M Bool)
    (ends : α → Bool → State → Prop) : Prop :=
  let start := if w.pending then w else w.putX 0#32
  (∀ t p u, first start = .error (.trap t p u) → exec i s = conclude s (takeTrap t p) u) ∧
    ∀ a v, first start = .ok (a, v) → v.hasWord v.S = true →
      let n := ((v.top 0).toInt - (if d then -1 else 1) * v.X.toInt).toNat
      if v.canPop sdec = false then exec i s = conclude s (takeTrap .stackUnderflow none) { v with X := w.X }
      else ∀ u,
        (iterate (body a) n 0 v = .ok (.counted, u) → ends a true u) ∧
        (iterate (body a) n 0 v = .ok (.stopped, u) → ends a false u) ∧
        (iterate (body a) n 0 v = .ok (.suspended, u) → ∀ t, suspend u = .ok ({ stay := true }, t) →
          exec i s = .next { t with prevDup := false }) ∧
        (iterate (body a) n 0 v = .ok (.aborted, u) → exec i s = .next { u with prevDup := false }) ∧
        ∀ t p, iterate (body a) n 0 v = .error (.trap t p u) → exec i s = conclude s (takeTrap t p) u

/-- i, begun at s, moves bytes from w on as MVB does (R501, R510 (i)), through pointers of any kind; a trace reports the
target pointer that the first evaluation found (R500 (h)). -/
def MovesFrom (i : Instr) (s w : State) (d data : Bool) (sdec : Nat) (always : Bool) : Prop :=
  LoopsFrom i s w d sdec (do let _ ← srcAddr data; targetAt true) (fun _ => moveByte d data) fun target _ u =>
    u.hasStack 1 0 = true → CompletesMoved i s (u.ended d sdec) target.1 always

/-- The number of the first check of a string operand that fails (R510 (e)). -/
def StringOperand.error (o : StringOperand) (negOk : Bool) : Option Nat :=
  if o.maxLen < 0 then some 1
  else if o.len < 0 ∧ negOk = false then some 2
  else if o.first ≤ 0 then some 3
  else if 0 ≤ o.len ∧ o.maxLen < o.first + o.len - 1 then some 4
  else if o.curLen < 0 then some 5
  else if o.maxLen < o.curLen then some 6
  else if o.curLen + 1 < o.first then some 7
  else none

/-- The parameter of the String Trap for operand t (false: source) and error e (R510 (g)). -/
def State.stringParam (s : State) (t : Bool) (e : Nat) : Word :=
  BitVec.ofNat 32 (t.toNat * 2 ^ 20 + e * 2 ^ 16) ||| (field s.CIR 16 16).setWidth 32

/-- The number of bytes of interest of a valid operand (R510 (f)). -/
def StringOperand.bytes (o : StringOperand) : Int :=
  let rest := o.curLen - o.first + 1
  if o.len < 0 ∨ rest < o.len then rest else o.len

/-- The sum of an operand's pointer and k keeps its two most significant bits, and thirteen in an unpaged external
segment (R510 (h)). -/
def StringOperand.fits (o : StringOperand) (k : Int) : Prop :=
  field (o.ptr + wordOf k) 0 2 = field o.ptr 0 2 ∧
    (o.narrow = true → field (o.ptr + wordOf k) 0 13 = field o.ptr 0 13)

/-! ## The MPB -/

/-- Neither MSG bit 1 nor bit 2 is set and disabled (R540). -/
def State.mpbReady (s : State) : Bool :=
  let blocked := fun n => bit s.MSG n && (bit s.MASK n || !s.interruptEnable)
  !blocked 1 && !blocked 2

/-- The answer the environment has ready for the next MPB operation; with none, an error-free one with a free data word
(R545, log entry 9). -/
def State.reply (s : State) : MpbReply :=
  s.mpb.head?.getD { addrErr := false, dataErr := false, timeout := false, data := Config.freeWord s.freeCtr }

/-- The state after the request r was sent and answered. -/
def State.asked (s : State) (r : MpbRequest) : State :=
  { s with sent := r :: s.sent, mpb := s.mpb.tail, freeCtr := s.freeCtr + (if s.mpb.isEmpty then 1 else 0) }

/-- The state with the errors of the answer r in MSG bits 1 and 2 (R545). -/
def State.noted (s : State) (r : MpbReply) : State :=
  { s with MSG := s.MSG ||| (if r.addrErr then 0x40000000#32 else 0#32) ||| (if r.dataErr then 0x20000000#32 else 0#32) }

/-- i sends the request r from s and completes with the effect u; after an error it ends in SystemError(4 + 2b1 + b2),
MSG bits 1 and 2 cleared, nothing popped (R540, R545). -/
def SendsAs (i : Instr) (s v : State) (r : MpbRequest) (u : State) : Prop :=
  if s.reply.addrErr = false ∧ s.reply.dataErr = false then CompletesAs i s u
  else
    let t := (v.asked r).noted s.reply
    exec i s = conclude s (takeTrap .systemError
        (some (BitVec.ofNat 32 (4 + 2 * (bit t.MSG 1).toNat + (bit t.MSG 2).toNat))))
      { t with MSG := t.MSG &&& 0x9FFFFFFF#32 }

/-! ## Numbers -/

/-- The rational number that a zero or normal floating-point number stands for (R390). -/
def FloatFormat.rat (f : FloatFormat) (u : Unpacked) : ℚ :=
  (if u.neg then -1 else 1) * (if u.exponent = 0 then 0 else (2 : ℚ) ^ f.fracBits + u.fraction)
    * (2 : ℚ) ^ ((u.exponent : Int) - f.bias - f.fracBits)

/-- The weight of the lowest fraction bit of a normal number. -/
def FloatFormat.ulp (f : FloatFormat) (u : Unpacked) : ℚ := (2 : ℚ) ^ ((u.exponent : Int) - f.bias - f.fracBits)

/-- u is zero or normal (R391). -/
def FloatFormat.usable (f : FloatFormat) (u : Unpacked) : Bool := classBits (f.classify u) == 0

/-- u is the exact number x rounded by the method rm of R390: to nearest, ties to an even fraction; toward plus
infinity; toward zero; toward minus infinity. -/
def FloatFormat.Rounds (f : FloatFormat) (rm : BitVec 2) (x : ℚ) (u : Unpacked) : Prop :=
  f.usable u = true ∧ (f.rat u = 0 ↔ x = 0) ∧
    (if rm = 0#2 then
      2 * |f.rat u - x| ≤ f.ulp u ∧ (2 * |f.rat u - x| = f.ulp u → u.fraction % 2 = 0)
    else |f.rat u - x| < f.ulp u ∨ x = 0) ∧
    (rm = 1#2 → x ≤ f.rat u) ∧ (rm = 2#2 → |f.rat u| ≤ |x|) ∧ (rm = 3#2 → f.rat u ≤ x)

/-- The largest finite number of a format. -/
def FloatFormat.maxFinite (f : FloatFormat) : ℚ :=
  ((2 : ℚ) ^ (f.fracBits + 1) - 1) * (2 : ℚ) ^ ((f.top : Int) - 1 - f.bias - f.fracBits)

/-- The smallest positive normal number of a format. -/
def FloatFormat.minNormal (f : FloatFormat) : ℚ := (2 : ℚ) ^ (1 - (f.bias : Int))

/-- IR and CC after a delivered result (R392). -/
def State.noteResult (s : State) (f : FloatFormat) (d : Delivered) : State :=
  (if d.inexact then s.setInexact true else s).setCC (f.ccFloat (f.unpack d.bits))

/-- The instruction's 16 bits at the right end of a trap parameter (R611). -/
def State.cirHalf (s : State) : Word := (field s.CIR 16 16).setWidth 32

/-- i delivers the result d and leaves u, IR and CC apart: it completes, or ends in the Result Trap (R392). -/
def EndsWithResult (i : Instr) (s u : State) (f : FloatFormat) (d : Delivered) : Prop :=
  match d.trap with
  | none => CompletesAs i s (u.noteResult f d)
  | some b => EndsInTrap i s (u.noteResult f d) .floatResult (some (BitVec.ofNat 32 b ||| s.cirHalf)) none

/-- i ends in the Operand Trap after the effect u, with the class bits of both operands (R391, R611). -/
def EndsInOperandTrap (i : Instr) (s u : State) (below top : Nat) : Prop :=
  EndsInTrap i s u .floatOperand (some (BitVec.ofNat 32 (below * 2 ^ 19 + top * 2 ^ 16) ||| s.cirHalf)) none

/-- v holds the k decimal digits of n, four bits each (R420). -/
def Digits (k v n : Nat) : Prop := n < 10 ^ k ∧ ∀ j < k, v / 16 ^ j % 16 = n / 10 ^ j % 10

end Sys2Proof.Machine
end

