-- ==== Sys2Proof/Certificates/Slice0/Obligations.lean ====
section
/-! DEFINITION. The statements for the provers. In each, `a`, `b`, `c`, `d` are the words A, B, C, D on top of the stack
(spec/00_scope.md rule R11), and `CompletesAs i s u` (Sys2Proof/Safety.lean) says that instruction i, run from s, answers the
next state u with P advanced and EM set, when none of the conditions of R620 holds in it: everything u does not change is
unchanged. -/

open Sys2Proof Sys2Proof.Machine

/-! ## Stack and register manipulation -/

/-- R262 to R264, R279: the deleting instructions move S down and, for DELB, keep the top word. -/
def Obligations.DeletingInstructionsLowerS : Prop :=
  ∀ s : State,
    OnStack .del s 0 0 1 (s.popped 1) ∧ encode .del = 0x0020#32 ∧
    OnStack .ddel s 0 0 2 (s.popped 2) ∧ encode .ddel = 0x0002#32 ∧
    OnStack .delb s 2 0 1 ((s.putTop 1 (s.top 0)).popped 1) ∧ encode .delb = 0x0001#32 ∧
    (∀ n : BitVec 8, n ≠ 0 → OnStack (.subs n) s 0 0 n.toNat (s.popped n.toNat)) ∧
    OnStack (.subs 0) s 1 0 (1 + (s.top 0).toInt.toNat) (s.popped (1 + (s.top 0).toInt.toNat))

/-- R265 to R270: duplicate and exchange, each with CC = CCA on the new top word or doubleword. -/
def Obligations.DuplicateAndExchangePermuteTheStack : Prop :=
  ∀ s : State,
    let a := s.top 0
    let b := s.top 1
    let c := s.top 2
    let d := s.top 3
    OnStack .dup s 1 1 0 ((s.pushed a).setCC (ccWord a)) ∧
    OnStack .ddup s 2 2 0 (((s.pushed b).pushed a).setCC (ccDouble (dword b a))) ∧
    OnStack .xch s 2 0 0 (((s.putTop 1 a).putTop 0 b).setCC (ccWord b)) ∧ encode .xch = 0x001A#32 ∧
    encode .dxch = 0x000E#32 ∧ encode .xax = 0x001D#32 ∧ encode .cab = 0x002E#32 ∧
    OnStack .dxch s 4 0 0
      (((((s.putTop 1 d).putTop 0 c).putTop 3 b).putTop 2 a).setCC (ccDouble (dword d c))) ∧
    OnStack .xax s 1 0 0 (((s.putX a).putTop 0 s.X).setCC (ccWord s.X)) ∧
    OnStack .cab s 3 0 0 ((((s.putTop 2 b).putTop 1 a).putTop 0 c).setCC (ccWord c))

/-- R213 to R218, R212, R564, R565: a constant, X, or a word that stands for CC is pushed. R240, R271, R272, R338, R340,
R341: what is loaded into X or added to it, with CC = CCA on X. R320, R631: an addition that overflows ends, with T = 1,
in the User Trap with parameter 1. -/
def Obligations.ConstantsAndIndexLoads : Prop :=
  (∀ s : State,
    let pushedWith := fun v : Word => (s.pushed v).setCC (ccWord v)
    OnStack .zero s 0 1 0 ((s.pushed 0#32).setCC ccE) ∧
    OnStack .dzro s 0 2 0 (((s.pushed 0#32).pushed 0#32).setCC ccE) ∧
    (∀ n : BitVec 24, OnStack (.ldi n) s 0 1 0 (pushedWith (n.setWidth 32))) ∧
    (∀ n : BitVec 24, OnStack (.lni n) s 0 1 0 (pushedWith (- n.setWidth 32))) ∧
    (∀ n : BitVec 8, OnStack (.ldis n) s 0 1 0 (pushedWith (n.setWidth 32))) ∧
    (∀ n : BitVec 8, OnStack (.lnis n) s 0 1 0 (pushedWith (- n.setWidth 32))) ∧
    OnStack .ldxa s 0 1 0 (pushedWith s.X) ∧
    OnStack .cci s 0 1 0
      (s.pushed (if s.cc = 0b00#2 then 1#32 else if s.cc = 0b10#2 then 0#32 else 0xFFFFFFFF#32)) ∧
    (∀ f : BitVec 3, OnStack (.tcc f) s 0 1 0
      (s.pushed (if (if s.cc = 0b00#2 then bit f 0 else if s.cc = 0b10#2 then bit f 1 else bit f 2) then 1#32
        else 0#32)))) ∧
  (∀ s : State,
    let a := s.top 0
    let set := fun (t : State) (v : Word) => (t.putX v).setCC (ccWord v)
    let sum := fun (t : State) (r : Int) => ((t.putX (wordOf r)).noteOverflow (inexactWord r)).setCC (ccWord (wordOf r))
    (∀ n : BitVec 8, OnStack (.ldxi n) s 0 0 0 (set s (n.setWidth 32))) ∧
    (∀ n : BitVec 8, OnStack (.ldxn n) s 0 0 0 (set s (- n.setWidth 32))) ∧
    OnStack (.stax false) s 1 0 0 (set s a) ∧
    OnStack (.stax true) s 1 0 1 (set (s.popped 1) a) ∧
    let adds := fun (i : Instr) (n p : Nat) (r : Int) =>
      OnStackSettingO i s n 0 p (sum (s.popped p) r) (inexactWord r) 0x01#32
    (∀ n : BitVec 8, adds (.adxi n) 0 0 (s.X.toInt + n.toNat) ∧ adds (.sbxi n) 0 0 (s.X.toInt - n.toNat)) ∧
    adds (.adax false) 1 0 (s.X.toInt + a.toInt) ∧ adds (.adax true) 1 1 (s.X.toInt + a.toInt))

/-- R274 to R276, R327, R331, R336, R337: tests and compares write CC and pop, and change nothing else. R15: CCB of a
byte: a digit gives CCG, a letter CCE, any other character CCL. -/
def Obligations.TestsAndComparesSetOnlyCC : Prop :=
  (∀ s : State,
    let a := s.top 0
    let b := s.top 1
    let popIf := fun (pop : Bool) (k : Nat) => if pop then k else 0
    let order := fun x y : Int => if x < y then 0b01#2 else if x = y then 0b10#2 else 0b00#2
    (∀ p : Bool, encode (.test p) = 0x0015#32 ||| (if p then 0x1000#32 else 0#32) ∧
      encode (.tstb p) = 0x0017#32 ||| (if p then 0x1000#32 else 0#32) ∧
      encode (.tstd p) = 0x0016#32 ||| (if p then 0x1000#32 else 0#32)) ∧
    (∀ p, OnStack (.test p) s 1 0 (popIf p 1) ((s.popped (popIf p 1)).setCC (order a.toInt 0))) ∧
    (∀ p, OnStack (.tstb p) s 1 0 (popIf p 1) ((s.popped (popIf p 1)).setCC (ccByte (a.setWidth 8)))) ∧
    (∀ p, OnStack (.tstd p) s 2 0 (popIf p 2) ((s.popped (popIf p 2)).setCC (order (b ++ a).toInt 0))) ∧
    (∀ p, OnStack (.cmp p) s 2 0 (1 + popIf p 1) ((s.popped (1 + popIf p 1)).setCC (order b.toInt a.toInt))) ∧
    (∀ p, OnStack (.lcmp p) s 2 0 (1 + popIf p 1) ((s.popped (1 + popIf p 1)).setCC (order b.toNat a.toNat))) ∧
    (∀ n : BitVec 8, OnStack (.cmpi n) s 1 0 1 ((s.popped 1).setCC (order a.toInt n.toNat))) ∧
    (∀ n : BitVec 8, OnStack (.cmpn n) s 1 0 1 ((s.popped 1).setCC (order a.toInt (- (n.toNat : Int)))))) ∧
  (∀ b : Byte,
    ((0x30 ≤ b.toNat ∧ b.toNat ≤ 0x39) → ccByte b = 0b00#2) ∧
    ((0x41 ≤ b.toNat ∧ b.toNat ≤ 0x5A ∨ 0x61 ≤ b.toNat ∧ b.toNat ≤ 0x7A) → ccByte b = 0b10#2) ∧
    (b.toNat < 0x30 ∨ (0x39 < b.toNat ∧ b.toNat < 0x41) ∨ (0x5A < b.toNat ∧ b.toNat < 0x61) ∨ 0x7A < b.toNat →
      ccByte b = 0b01#2))

/-- R277, R278: ADDS and PSHN move S up, tested against SL before anything is written (R261): a StackOverflow asks for no
memory above SL. PSHN pops the word it repeats, or takes 0; with X not positive it pushes nothing. -/
def Obligations.StackGrowthInstructions : Prop :=
  ∀ s : State,
    (s.privileged = true → ∀ n : BitVec 8, (n = 0 → s.hasStack 1 0 = true) →
      let newS : Int := if n = 0 then (s.S.toNat : Int) - 4 + 4 * (s.top 0).toInt else (s.S.toNat : Int) + 4 * n.toNat
      if s.SL.toNat < newS then Raises (.adds n) s .stackOverflow none
      else if newS < s.Q.toNat then Raises (.adds n) s .stackUnderflow none
      else CompletesAs (.adds n) s { s with S := wordOf newS }) ∧
    (∀ b3 : Bool, s.X.toInt ≤ 0 → OnStack (.pshn b3) s 1 0 (if b3 then 1 else 0) (s.popped (if b3 then 1 else 0))) ∧
    (∀ b3 : Bool, 0 < s.X.toInt →
      let v : Word := if b3 then s.top 0 else 0#32
      let k := if b3 then 1 else 0
      let t := s.popped k
      (s.popsOk k = false → Raises (.pshn b3) s .stackUnderflow none) ∧
      (s.popsOk k = true → (b3 = true → s.hasStack 1 0 = true) →
        if s.SL.toNat < (t.S.toNat : Int) + 4 * s.X.toInt then Raises (.pshn b3) s .stackOverflow none
        else t.hasStack 0 s.X.toNat = true → CompletesAs (.pshn b3) s
          (((Nat.repeat (fun u => u.pushed v) s.X.toNat t).putX 0#32).setCC (ccWord v))))

/-! ## Integer arithmetic, logic and shifts -/

/-- R321, R322: ADD and SUB, with the extended forms that take Carry in, leave the two's complement word, set O when the
exact result does not fit, leave Carry alone, and leave CC alone for a zero extended result. R328, R329: LADD and LSUB
leave the unsigned word, Carry (for LSUB the complement of the borrow), CCG for a result that is not zero and, but for
a zero extended result, CCE for zero; O is left alone. R320, R631: an ADD or SUB that overflows ends, with T = 1, in
the User Trap with parameter 1. -/
def Obligations.AddAndSubtractResults : Prop :=
  (∀ (s : State) (ext : Bool),
    let a := s.top 0
    let b := s.top 1
    let carry : Int := if ext && s.carry then 1 else 0
    let borrow : Int := if ext && !s.carry then 1 else 0
    let left := fun r : Int =>
      (((s.putTop 1 (wordOf r)).popped 1).noteOverflow (inexactWord r)).noteExtended (wordOf r) ext
    let claim := fun (i : Instr) (r : Int) => OnStackSettingO i s 2 0 1 (left r) (inexactWord r) 0x01#32
    claim (.add ext) (b.toInt + a.toInt + carry) ∧ claim (.sub ext) (b.toInt - a.toInt - borrow)) ∧
  (∀ (s : State) (ext : Bool),
    let a := (s.top 0).toNat
    let b := (s.top 1).toNat
    let carry := if ext && s.carry then 1 else 0
    let borrow := if ext && !s.carry then 1 else 0
    let left := fun (v : Word) (c : Bool) =>
      let t := ((s.putTop 1 v).popped 1).setCarry c
      if v ≠ 0#32 then t.setCC 0b00#2 else if ext then t else t.setCC 0b10#2
    OnStack (.ladd ext) s 2 0 1 (left (BitVec.ofNat 32 (b + a + carry)) (decide (2 ^ 32 ≤ b + a + carry))) ∧
    OnStack (.lsub ext) s 2 0 1
      (left (wordOf ((b : Int) - a - borrow)) (decide (a + borrow ≤ b))))

/-- R326, R332 to R334, R339, R350: the instructions that replace the top word by an arithmetic result, or test its size.
R320, R631: one that overflows ends, with T = 1, in the User Trap with parameter 1, ISC with parameter 0. -/
def Obligations.TopWordArithmeticResults : Prop :=
  ∀ (s : State) (n : BitVec 8),
    let a := (s.top 0).toInt
    let left := fun r : Int => ((s.putTop 0 (wordOf r)).noteOverflow (inexactWord r)).setCC (ccWord (wordOf r))
    let claim := fun (i : Instr) (r : Int) => OnStackSettingO i s 1 0 0 (left r) (inexactWord r) 0x01#32
    let long := decide (a < -32768) || decide (32767 < a)
    claim .neg (- a) ∧ claim (.addi n) (a + n.toNat) ∧ claim (.subi n) (a - n.toNat) ∧
    claim (.mpyi n) (a * n.toNat) ∧ claim .adxa (a + s.X.toInt) ∧
    OnStackSettingO .isc s 1 0 0 ((s.noteOverflow long).setCC (ccWord (s.top 0))) long 0x00#32

/-- R323, R330: the product of the two top words, one word or two. R324, R325, R335: a divisor of 0 sets O and leaves
the stack and CC; any other leaves the quotient and the remainder, truncated toward zero or, with bit 3, with a
remainder that is not negative; O is set when the quotient does not fit. R320, R631: with T = 1 the instruction that
sets O ends in the User Trap, with parameter 0x01 for a word that does not fit, 0x04 for a doubleword, and, for a
divisor of 0, with 0x24 for DIV and 0x21 for DIVS and DIVI. -/
def Obligations.MultiplyAndDivideResults : Prop :=
  (∀ s : State,
    let a := s.top 0
    let b := s.top 1
    let p := b.toInt * a.toInt
    let q := b.toNat * a.toNat
    OnStackSettingO (.mpy false) s 2 0 1
      ((((s.putTop 1 (wordOf p)).popped 1).noteOverflow (inexactWord p)).setCC (ccWord (wordOf p))) (inexactWord p)
      0x01#32 ∧
    OnStack (.mpy true) s 2 0 0
      (((s.putTop 1 (hiWord (BitVec.ofInt 64 p))).putTop 0 (loWord (BitVec.ofInt 64 p))).setCC
        (if p < 0 then 0b01#2 else if p = 0 then 0b10#2 else 0b00#2)) ∧
    OnStack .lmpy s 2 0 0
      (((s.putTop 1 (BitVec.ofNat 32 (q / 2 ^ 32))).putTop 0 (BitVec.ofNat 32 q)).setCC
        (if q = 0 then 0b10#2 else 0b00#2))) ∧
  (∀ (s : State) (pos : Bool) (n : BitVec 8),
    let a := s.top 0
    let b := s.top 1
    let c := s.top 2
    let long := fun q : Int => decide ((BitVec.ofInt 64 q).toInt ≠ q)
    (a = 0#32 → OnStackSettingO (.div pos) s 3 0 0 (s.setO true) true 0x24#32 ∧
      OnStackSettingO (.divs pos) s 2 0 0 (s.setO true) true 0x21#32) ∧
    (a ≠ 0#32 → ∀ q r : Int, (c ++ b).toInt = q * a.toInt + r → |r| < |a.toInt| →
      (if pos then 0 ≤ r else 0 ≤ r * (c ++ b).toInt) →
      OnStackSettingO (.div pos) s 3 0 0
        (((((s.noteOverflow (long q)).putTop 2 (hiWord (BitVec.ofInt 64 q))).putTop 1
          (loWord (BitVec.ofInt 64 q))).putTop 0 (wordOf r)).setCC (ccDouble (BitVec.ofInt 64 q))) (long q) 0x04#32) ∧
    (a ≠ 0#32 → ∀ q r : Int, b.toInt = q * a.toInt + r → |r| < |a.toInt| →
      (if pos then 0 ≤ r else 0 ≤ r * b.toInt) →
      OnStackSettingO (.divs pos) s 2 0 0
        ((((s.noteOverflow (inexactWord q)).putTop 1 (wordOf q)).putTop 0 (wordOf r)).setCC (ccWord (wordOf q)))
        (inexactWord q) 0x01#32) ∧
    OnStackSettingO (.divi 0) s 1 0 0 (s.setO true) true 0x21#32 ∧
    (n ≠ 0 → ∀ q r : Int, a.toInt = q * n.toNat + r → |r| < n.toNat → 0 ≤ r * a.toInt →
      OnStack (.divi n) s 1 0 0 ((s.putTop 0 (wordOf q)).setCC (ccWord (wordOf q)))))

/-- R351 to R354: AND, OR and XOR of the two top words, NOT of one, with their encodings. R355 to R357: the logic
instructions with an immediate byte, with their encodings. -/
def Obligations.LogicInstructionResults : Prop :=
  (∀ s : State,
    let a := s.top 0
    let b := s.top 1
    let two := fun v : Word => ((s.putTop 1 v).popped 1).setCC (ccWord v)
    OnStack .and s 2 0 1 (two (b &&& a)) ∧ encode .and = 0x0037#32 ∧
    OnStack .or s 2 0 1 (two (b ||| a)) ∧ encode .or = 0x0035#32 ∧
    OnStack .xor s 2 0 1 (two (b ^^^ a)) ∧ encode .xor = 0x0036#32 ∧
    OnStack .not s 1 0 0 ((s.putTop 0 (~~~ a)).setCC (ccWord (~~~ a))) ∧ encode .not = 0x0034#32) ∧
  (∀ (s : State) (n : BitVec 8),
    let a := s.top 0
    let one := fun v : Word => (s.putTop 0 v).setCC (ccWord v)
    OnStack (.andi n) s 1 0 0 (one (a &&& n.setWidth 32)) ∧ encode (.andi n) = 0x3F00#32 ||| n.setWidth 32 ∧
    OnStack (.ori n) s 1 0 0 (one (a ||| n.setWidth 32)) ∧ encode (.ori n) = 0x3D00#32 ||| n.setWidth 32 ∧
    OnStack (.xori n) s 1 0 0 (one (a ^^^ n.setWidth 32)) ∧ encode (.xori n) = 0x3E00#32 ||| n.setWidth 32)

/-- R290 to R297: the shifts by CNT = (CNT field + X when indexed) mod 64; only ASL sets O, and with T = 1 it then ends in
the User Trap with parameter 1 (R320, R631). R300, R301: with K and J the
halves of the 10-bit field after indexing, EXF moves the 32-K bits from bit J of the top word (zeros past its end) to
the right end, under zeros or copies of the sign, and DPF puts the 32-K low bits of the top word at bit J of the next,
the bits past its end lost. R585, R586: CNTO counts the ones of the top word, FLMO the zeros above its leftmost one
(32 for zero); the number replaces the word or, with bit 3, is pushed. -/
def Obligations.ShiftFieldAndBitCountResults : Prop :=
  (∀ (s : State) (x : Bool) (cnt : BitVec 6),
    let a := s.top 0
    let n := (cnt.toNat + (if x then s.X.toNat else 0)) % 64
    let one := fun v : Word => (s.putTop 0 v).setCC (ccWord v)
    let full : Int := a.toInt * 2 ^ n
    OnStackSettingO (.asl x cnt) s 1 0 0
      (((s.noteOverflow (inexactWord full)).putTop 0 (wordOf full)).setCC (ccWord (wordOf full))) (inexactWord full)
      0x01#32 ∧
    OnStack (.asr x cnt) s 1 0 0 (one (wordOf (a.toInt.tdiv (2 ^ n)))) ∧
    OnStack (.lsl x cnt) s 1 0 0 (one (wordOf (a.toNat * 2 ^ n))) ∧
    OnStack (.lsr x cnt) s 1 0 0 (one (wordOf (a.toNat / 2 ^ n))) ∧
    OnStack (.csl x cnt) s 1 0 0 (one (a.rotateLeft (n % 32))) ∧
    OnStack (.csr x cnt) s 1 0 0 (one (a.rotateRight (n % 32))) ∧
    OnStack (.lsxl x cnt) s 0 0 0
      ((s.putX (wordOf (s.X.toNat * 2 ^ n))).setCC (ccWord (wordOf (s.X.toNat * 2 ^ n))))) ∧
  (∀ (s : State) (e x : Bool) (k j : BitVec 5),
    let f := (k.toNat * 32 + j.toNat + (if x then s.X.toNat else 0)) % 1024
    let K := f / 32
    let J := f % 32
    let a := s.top 0
    let b := s.top 1
    let src := fun m : Nat => decide (m < 32) && bit a m
    (∀ r : Word, (∀ m < 32, bit r m = if m < K then e && src J else src (J + (m - K))) →
      OnStack (.exf e x k j) s 1 0 0 ((s.putTop 0 r).setCC (ccWord r))) ∧
    (∀ r : Word, (∀ m < 32, bit r m = if J ≤ m ∧ m < J + (32 - K) then bit a (m - J + K) else bit b m) →
      OnStack (.dpf x k j) s 2 0 1 (((s.putTop 1 r).popped 1).setCC (ccWord r)))) ∧
  (∀ (s : State) (b3 : Bool),
    let a := s.top 0
    let put := fun n : Nat => if b3 then s.pushed (BitVec.ofNat 32 n) else s.putTop 0 (BitVec.ofNat 32 n)
    OnStack (.cnto b3) s 1 1 0 (put ((List.range 32).countP fun k => bit a k)) ∧
    (∀ k, k ≤ 32 → (∀ j < k, bit a j = false) → (k < 32 → bit a k = true) → OnStack (.flmo b3) s 1 1 0 (put k)))

/-! ## Load and store -/

/-- R201 to R209, R273: where EA (R100) leaves the operand's address and a state t that differs from s in table marks at
most, LD, LDS, LDB, LDH and LDX read the word, byte or halfword there and push it or put it into X; a trap of EA is
taken with the registers of s and the memory that EA leaves, R and D bits already set staying set (R603, log entry
37). R206, R207: LDD and LDDS push the word at the address, then the one 4 bytes on as it reads after that push, with
CC = CCA of the doubleword; the bounds are tested for the second word too (R107), but on CPU_REV le33 (R727), and a
trap of EA or of that test is taken as above. -/
def Obligations.LoadsFetchTheOperandAtTheirAddress : Prop :=
  (∀ (s t : State) (e : Effective) (i x : Bool) (b : Base) (off : BitVec 19) (n : BitVec 8),
    let at19 := effective b off.toNat i x false 0
    let at8 := effective b (4 * n.toNat) i x false 0
    let put := fun v : Word => (t.pushed v).setCC (ccWord v)
    PassesTrapsOf (.ld i x b off) s at19 ∧ PassesTrapsOf (.ldb i x b off) s at19 ∧
    PassesTrapsOf (.ldh i x b off) s at19 ∧ PassesTrapsOf (.ldx i x b off) s at19 ∧
    PassesTrapsOf (.lds i x b n) s at8 ∧
    (at8 s = .ok (e, t) → t.hasStack 0 1 = true → t.hasWord e.addr = true →
      CompletesAs (.lds i x b n) s (put (t.word e.addr))) ∧
    (at19 s = .ok (e, t) → t.hasStack 0 1 = true →
      (t.hasWord e.addr = true → CompletesAs (.ld i x b off) s (put (t.word e.addr))) ∧
      (t.hasHalf e.addr = true →
        CompletesAs (.ldh i x b off) s (put ((t.mem.half (halfAlign e.addr).toNat).signExtend 32))) ∧
      (t.hasByte e.addr = true →
        CompletesAs (.ldb i x b off) s
          ((t.pushed ((t.byte e.addr.toNat).setWidth 32)).setCC (ccByte (t.byte e.addr.toNat))))) ∧
    (at19 s = .ok (e, t) → t.hasWord e.addr = true →
      CompletesAs (.ldx i x b off) s ((t.putX (t.word e.addr)).setCC (ccWord (t.word e.addr))))) ∧
  (∀ (s t : State) (e : Effective) (i x : Bool) (b : Base) (off : BitVec 19) (n : BitVec 8),
    let span := if s.cfg.rev = .le33 then 0 else 4
    let hi := t.word e.addr
    let lo := (t.pushed hi).word (e.addr + 4#32)
    let put := ((t.pushed hi).pushed lo).setCC (ccDouble (dword hi lo))
    let at19 := effective b off.toNat i x false span
    let at8 := effective b (4 * n.toNat) i x false span
    PassesTrapsOf (.ldd i x b off) s at19 ∧ PassesTrapsOf (.ldds i x b n) s at8 ∧
    (t.hasStack 0 2 = true → t.hasWord e.addr = true → t.hasWord (e.addr + 4#32) = true →
      (at19 s = .ok (e, t) → CompletesAs (.ldd i x b off) s put) ∧
      (at8 s = .ok (e, t) → CompletesAs (.ldds i x b n) s put)))

/-- R203 to R211: the pointer on top of the stack, evaluated with the stack bound of the state after its pop (what
`evalPopped` finds is EffectiveAddresses), gives the operand that replaces it; LBIT pops a bit offset and a pointer, leaves the byte offset in X and pushes the bit. The
words to pop are tested first; a trap of the evaluation is then taken with the registers of the start, X among them,
and the memory that the evaluation leaves, R bits already set staying set (R603, log entry 37). -/
def Obligations.StackIndirectLoadsReplaceThePointer : Prop :=
  ∀ (s t : State) (l : Located) (b3 : Bool) (tr : Trap) (q : Option Word),
    let p := s.top 0
    let span := if s.cfg.rev = .le33 then 0 else 4
    let put := fun v : Word => (t.putTop 0 v).setCC (ccWord v)
    let hi := t.word l.addr
    let lo := t.word (l.addr + 4#32)
    let boff := s.top 0
    let s1 := s.putX (boff.sshiftRight 3)
    let theBit : Word := if bit (t.byte l.addr.toNat) (boff.toNat % 8) then 1#32 else 0#32
    (s.canPop 1 = false → ∀ i ∈ [Instr.lsi b3, .lbsi b3, .lhsi b3, .ldsi b3],
      Raises i s .stackUnderflow none) ∧
    (s.hasStack 2 0 = true → s.canPop 2 = false → Raises (.lbit true) s .stackUnderflow none) ∧
    (s.hasStack 1 0 = true → s.canPop 1 = true →
      (∀ i ∈ [Instr.lsi b3, .lbsi b3, .lhsi b3], PassesTrapsOf i s (evalPopped p b3 false 0 1)) ∧
      PassesTrapsOf (.ldsi b3) s (evalPopped p b3 false span 1)) ∧
    (s.hasStack 2 0 = true → s.canPop 2 = true → evalPopped (s.top 1) true false 0 2 s1 = .error (.trap tr q t) →
      TrapsFrom (.lbit true) s t tr q) ∧
    (s.hasStack 1 0 = true → s.canPop 1 = true → t.hasStack 1 0 = true → evalPopped p b3 false 0 1 s = .ok (l, t) →
      (t.hasWord l.addr = true → CompletesAs (.lsi b3) s (put (t.word l.addr))) ∧
      (t.hasHalf l.addr = true →
        CompletesAs (.lhsi b3) s (put ((t.mem.half (halfAlign l.addr).toNat).signExtend 32))) ∧
      (t.hasByte l.addr = true →
        CompletesAs (.lbsi b3) s
          ((t.putTop 0 ((t.byte l.addr.toNat).setWidth 32)).setCC (ccByte (t.byte l.addr.toNat))))) ∧
    (s.hasStack 1 0 = true → s.canPop 1 = true → t.hasStack 1 1 = true →
      evalPopped p b3 false span 1 s = .ok (l, t) →
      t.hasWord l.addr = true → t.hasWord (l.addr + 4#32) = true →
      CompletesAs (.ldsi b3) s (((t.putTop 0 hi).pushed lo).setCC (ccDouble (dword hi lo)))) ∧
    (s.hasStack 2 0 = true → s.canPop 2 = true → evalPopped (s.top 1) true false 0 2 s1 = .ok (l, t) →
      (t.popped 2).hasStack 0 1 = true → t.hasByte l.addr = true →
      CompletesAs (.lbit true) s (((t.popped 2).pushed theBit).setCC (ccWord theBit)))

/-- R219, R220: LRA and LRAS push the pointer to the address computed without its segment's bounds test: PB-relative for
P+ and P-, tagged 10 or 11 for the global and the stack bases, the indirect pointer plus X otherwise. R221, R222: LPP
and LPPS push the program pointer of the STT entry at PL - Offset, a local one made external with the current
segment's number; an offset beyond the STT traps. -/
def Obligations.PointersArePushed : Prop :=
  (∀ (s : State) (x : Bool) (b : Base) (off : BitVec 19) (n : BitVec 8),
    let xx : Int := if x then s.X.toInt else 0
    let both := fun (ind : Bool) (Says : Instr → Nat → Prop) =>
      Says (.lra ind x b off) off.toNat ∧ Says (.lras ind x b n) n.toNat
    s.hasStack 0 1 = true →
    (baseIsCode b = true →
      both false fun i k => CompletesAs i s (s.pushed (wordOf (s.baseAddr b k + xx - s.PB.toNat)))) ∧
    (baseIsCode b = false →
      both false fun i k =>
        let r : Int := s.baseAddr b k - (if baseIsGlobal b then s.DB.toNat else s.SB.toNat) + xx
        if 0 ≤ r ∧ r < 2 ^ 30 then
          CompletesAs i s (s.pushed (wordOf r ||| (if baseIsGlobal b then 0x80000000#32 else 0xC0000000#32)))
        else Raises i s .pointerConversion none) ∧
    (both true fun i k =>
      let loc := s.baseAddr b k
      if s.baseLow b ≤ loc ∧ loc ≤ s.baseHigh b then
        let p := s.word (wordOf loc)
        s.hasAddr loc = true →
          (baseIsCode b = true → CompletesAs i s (s.pushed (wordOf (loc + p.toInt + xx - s.PB.toNat)))) ∧
          (baseIsCode b = false →
            let r : Int := p.toNat + xx
            let unit : Int := if bit p 0 then 2 ^ 30 else 2 ^ 31
            if xx = 0 ∨ r / unit = p.toNat / unit then CompletesAs i s (s.pushed (wordOf r))
            else Raises i s .pointerConversion none)
      else Raises i s .boundsViolation none)) ∧
  (∀ (s : State) (off : BitVec 19) (n : BitVec 8),
    let len := s.word s.PL
    let claim := fun (i : Instr) (off : BitVec 19) =>
      let v := s.word (s.PL - off.setWidth 32)
      s.hasWord s.PL = true →
      if (field len 13 19).toNat < off.toNat then Raises i s .sttViolation (some 1#32)
      else s.hasWord (s.PL - off.setWidth 32) = true → s.hasStack 0 1 = true →
        CompletesAs i s (s.pushed
          (if bit v 0 then v else 0x80000000#32 ||| (off.setWidth 32 <<< 12) ||| s.csn.setWidth 32))
    claim (.lpp off) off ∧ claim (.lpps n) (n.setWidth 19 * 4))

/-- R223 to R225, R559, R241 to R243: the privileged loads and stores at an absolute address base + XX, both of 29 bits
(log entry 44), outside the active stack (U7, log entry 18). -/
def Obligations.AbsoluteLoadsAndStores : Prop :=
  ∀ (s : State) (b3 : Bool),
    let xx : Int := if b3 then s.X.toInt else 0
    let a := wordOf ((s.top 0).toNat + xx)
    let d := wordOf ((s.top 1).toNat + xx)
    let inSpace := fun base : Word =>
      base.toNat < 2 ^ 29 ∧ 0 ≤ (base.toNat : Int) + xx ∧ (base.toNat : Int) + xx < 2 ^ 29
    let v := s.top 0
    let put := fun (t : State) (v : Word) => (t.putTop 0 v).setCC (ccWord v)
    s.privileged = true →
    (s.hasStack 1 0 = true → inSpace (s.top 0) → s.offStack a = true →
      (s.hasWord a = true → CompletesAs (.plda b3) s (put s (s.word a))) ∧
      (s.hasWord a = true → CompletesAs (.psla b3) s (put (s.putWord a 0xFFFFFFFF#32) (s.word a))) ∧
      (s.hasHalf a = true → CompletesAs (.plha b3) s (put s ((s.mem.half (halfAlign a).toNat).signExtend 32))) ∧
      (s.hasByte a = true → CompletesAs (.plba b3) s
        ((s.putTop 0 ((s.byte a.toNat).setWidth 32)).setCC (ccByte (s.byte a.toNat))))) ∧
    (s.hasStack 2 0 = true → inSpace (s.top 1) → s.offStack d = true →
      (s.canPop 2 = false → ∀ i ∈ [Instr.psta b3, .psba b3, .psha b3], Raises i s .stackUnderflow none) ∧
      (s.canPop 2 = true →
        (s.hasWord d = true → CompletesAs (.psta b3) s ((s.putWord d v).popped 2)) ∧
        (s.hasHalf d = true → CompletesAs (.psha b3) s ((s.putHalf d (v.setWidth 16)).popped 2)) ∧
        (s.hasByte d = true → CompletesAs (.psba b3) s ((s.putByte d (v.setWidth 8)).popped 2))))

/-- R230 to R237: ST, STS, STB, STH and STD store the word, byte or halfword on top at the address of EA, pop it and,
with TV = 1, report the store; a program base is a CodeSegmentViolation. STD reads its second word after it has stored
the first. A trap of EA, of its second-word test, or of the pop after it (StackUnderflow), finds the memory that EA
leaves, R and D bits already set staying set (R603, log entry 37). -/
def Obligations.StoresWriteTheOperandAtTheirAddress : Prop :=
  ∀ (s t : State) (e : Effective) (i x : Bool) (b : Base) (off : BitVec 19) (n : BitVec 8),
    let at19 := effective b off.toNat i x true 0
    let at8 := effective b (4 * n.toNat) i x true 0
    let both := effective b off.toNat i x true (if s.cfg.rev = .le33 then 0 else 4)
    let v := t.top 0
    let first := t.putWord e.addr (t.top 1)
    let underflows := fun j : Instr => TrapsFrom j s t .stackUnderflow none
    (baseIsCode b = true → ∀ j ∈ [Instr.st i x b off, .sts i x b n, .stb i x b off, .sth i x b off, .std i x b off],
      Raises j s .codeSegmentViolation none) ∧
    (baseIsCode b = false →
      (∀ j ∈ [Instr.st i x b off, .stb i x b off, .sth i x b off], PassesTrapsOf j s at19 ∧
        (at19 s = .ok (e, t) → t.hasStack 1 0 = true → t.canPop 1 = false → underflows j)) ∧
      PassesTrapsOf (.sts i x b n) s at8 ∧ PassesTrapsOf (.std i x b off) s both ∧
      (at8 s = .ok (e, t) → t.hasStack 1 0 = true → t.canPop 1 = false → underflows (.sts i x b n)) ∧
      (both s = .ok (e, t) → t.hasStack 2 0 = true → t.canPop 2 = false → underflows (.std i x b off)) ∧
      (at19 s = .ok (e, t) → t.hasStack 1 0 = true → t.canPop 1 = true →
        (t.hasWord e.addr = true → CompletesTraced (.st i x b off) s ((t.putWord e.addr v).popped 1) e.pointer 4#32) ∧
        (t.hasHalf e.addr = true →
          CompletesTraced (.sth i x b off) s ((t.putHalf e.addr (v.setWidth 16)).popped 1) e.pointer 2#32) ∧
        (t.hasByte e.addr = true →
          CompletesTraced (.stb i x b off) s ((t.putByte e.addr (v.setWidth 8)).popped 1) e.pointer 1#32)) ∧
      (at8 s = .ok (e, t) → t.hasStack 1 0 = true → t.canPop 1 = true →
        t.hasWord e.addr = true → CompletesTraced (.sts i x b n) s ((t.putWord e.addr v).popped 1) e.pointer 4#32) ∧
      (both s = .ok (e, t) → t.hasStack 2 0 = true → t.canPop 2 = true → t.hasWord e.addr = true →
        t.hasWord (e.addr + 4#32) = true →
        CompletesTraced (.std i x b off) s ((first.putWord (e.addr + 4#32) (first.top 0)).popped 2) e.pointer 8#32))

/-- R232 to R239: the stack-indirect stores write the value on top through the pointer below it, evaluated with the
stack bound of the state after both are popped (what `evalPopped` finds is EffectiveAddresses); SBIT writes one bit and leaves the byte offset in X. The pointer that
a trace reports is the one popped, indexed if the instruction indexes (R632): its offset changes, the entire pointer
where it leads into a page (R102, R113); that an offset beyond 19 bits keeps the low ones is log entry 27. The words
to pop are tested first; a trap of the evaluation is then taken with the registers of the start, X among them, and the
memory that the evaluation leaves, R and D bits already set staying set (R603, log entry 37). -/
def Obligations.StackIndirectStoresWriteThroughThePointer : Prop :=
  ∀ (s t : State) (l : Located) (b3 : Bool) (tr : Trap) (q : Option Word),
    let v := s.top 0
    let span := if s.cfg.rev = .le33 then 0 else 4
    let boff := s.top 1
    let s1 := s.putX (boff.sshiftRight 3)
    let old := t.byte l.addr.toNat
    let indexed := fun p x : Word =>
      if bit p 0 then (p &&& 0xC0000000#32) ||| ((p + x) &&& 0x3FFFFFFF#32)
      else if l.paged then p + x else (p &&& 0xFFF80000#32) ||| ((p + x) &&& 0x7FFFF#32)
    let xx := if b3 then s.X else 0#32
    let ptr := indexed (s.top 1) xx
    (s.canPop 2 = false → ∀ i ∈ [Instr.ssi b3, .sbsi b3, .shsi b3], Raises i s .stackUnderflow none) ∧
    (s.canPop 3 = false → Raises (.sdsi b3) s .stackUnderflow none) ∧
    (s.hasStack 3 0 = true → s.canPop 3 = false → Raises (.sbit true) s .stackUnderflow none) ∧
    (s.hasStack 2 0 = true → s.canPop 2 = true → ∀ i ∈ [Instr.ssi b3, .sbsi b3, .shsi b3],
      PassesTrapsOf i s (evalPopped (s.top 1) b3 true 0 2)) ∧
    (s.hasStack 3 0 = true → s.canPop 3 = true → PassesTrapsOf (.sdsi b3) s (evalPopped (s.top 2) b3 true span 3) ∧
      (evalPopped (s.top 2) true true 0 3 s1 = .error (.trap tr q t) → TrapsFrom (.sbit true) s t tr q)) ∧
    (s.hasStack 2 0 = true → s.canPop 2 = true → evalPopped (s.top 1) b3 true 0 2 s = .ok (l, t) →
      (t.hasWord l.addr = true → CompletesTraced (.ssi b3) s ((t.putWord l.addr v).popped 2) ptr 4#32) ∧
      (t.hasHalf l.addr = true → CompletesTraced (.shsi b3) s ((t.putHalf l.addr (v.setWidth 16)).popped 2) ptr 2#32) ∧
      (t.hasByte l.addr = true →
        CompletesTraced (.sbsi b3) s ((t.putByte l.addr (v.setWidth 8)).popped 2) ptr 1#32)) ∧
    (s.hasStack 3 0 = true → s.canPop 3 = true →
      evalPopped (s.top 2) b3 true span 3 s = .ok (l, t) →
      t.hasWord l.addr = true → t.hasWord (l.addr + 4#32) = true →
      CompletesTraced (.sdsi b3) s (((t.putWord l.addr (s.top 1)).putWord (l.addr + 4#32) (s.top 0)).popped 3)
        (indexed (s.top 2) xx) 8#32) ∧
    (s.hasStack 3 0 = true → s.canPop 3 = true → evalPopped (s.top 2) true true 0 3 s1 = .ok (l, t) →
      t.hasByte l.addr = true → ∀ new : Byte,
      (∀ m < 8, bit new m = if m = boff.toNat % 8 then bit v 31 else bit old m) →
      CompletesTraced (.sbit true) s ((t.putByte l.addr new).popped 3) (indexed (s.top 2) s1.X) 1#32)

/-- R342 to R346, R558: CMPM compares the top word with the operand and pops it; INCM, DECM, INCF and DECF add 1, -1, 4
and -4 to the operand in memory; SEML pushes the operand and leaves all ones. An addition that overflows ends, with T =
1, in the User Trap with parameter 1, on top of the Variable Trace trap when TV = 1 (R320, R620, R631). A trap of EA,
or of CMPM's pop after it (StackUnderflow), finds the memory that EA leaves, R and D bits already set staying set
(R603, log entry 37). -/
def Obligations.MemoryOperandInstructions : Prop :=
  ∀ (s t : State) (e : Effective) (i x : Bool) (b : Base) (off : BitVec 19),
    let v := t.word e.addr
    let sum := fun k : Int =>
      ((t.putWord e.addr (wordOf (v.toInt + k))).noteOverflow (inexactWord (v.toInt + k))).setCC
        (ccWord (wordOf (v.toInt + k)))
    let adds := fun (j : Instr) (k : Int) =>
      CompletesTraced j s (sum k) e.pointer 4#32 ∧
        (inexactWord (v.toInt + k) = true → EndsInTracedUserTrap j s (sum k) e.pointer 4#32 0x01#32)
    let reads := effective b off.toNat i x false 0
    let writes := effective b off.toNat i x true 0
    PassesTrapsOf (.cmpm i x b off) s reads ∧
    (reads s = .ok (e, t) → t.hasStack 1 0 = true → t.canPop 1 = false → t.hasWord e.addr = true →
      TrapsFrom (.cmpm i x b off) s t .stackUnderflow none) ∧
    (reads s = .ok (e, t) → t.hasStack 1 0 = true → t.canPop 1 = true → t.hasWord e.addr = true →
      CompletesAs (.cmpm i x b off) s ((t.popped 1).setCC
        (if (t.top 0).toInt < v.toInt then 0b01#2 else if (t.top 0).toInt = v.toInt then 0b10#2 else 0b00#2))) ∧
    (baseIsCode b = true → ∀ j ∈ [Instr.incm i x b off, .decm i x b off, .incf i x b off, .decf i x b off,
      .seml i x b off], Raises j s .codeSegmentViolation none) ∧
    (baseIsCode b = false → ∀ j ∈ [Instr.incm i x b off, .decm i x b off, .incf i x b off, .decf i x b off,
      .seml i x b off], PassesTrapsOf j s writes) ∧
    (baseIsCode b = false → writes s = .ok (e, t) → t.hasWord e.addr = true →
      adds (.incm i x b off) 1 ∧ adds (.decm i x b off) (-1) ∧ adds (.incf i x b off) 4 ∧ adds (.decf i x b off) (-4) ∧
      (t.hasStack 0 1 = true →
        CompletesTraced (.seml i x b off) s
          (((t.putWord e.addr 0xFFFFFFFF#32).pushed v).setCC (ccWord v)) e.pointer 4#32))

/-! ## Floating point and decimal -/

/-- R390, R392: a delivered number is the exact one rounded by RM, IR says whether it differs, and there is no Result
Trap when the exact number lies between the smallest normal and the largest finite one. R392, R390, R611: the bits of
a delivered number. The magnitude is cut after the format's significand and two more bits are looked at, the round bit
and whether anything follows; RM says whether one is added; the exponent is unbounded meanwhile. An exponent field
that is then too large or too small is a Result Trap, with the field wrapped around by the amount of the configuration
(U12; that it is cut to its width is log entry 24) and the last bit, the round bit, the sticky bit and the direction
in the parameter. The sign of a zero product or quotient is the exclusive or of the signs; that of a zero sum of
opposite signs is plus, but minus when RM = 11; that of a zero sum of equal signs is the sign both have, which is the
model's choice (log entry 50). -/
def Obligations.DeliveredNumbersAreRoundedExactNumbers : Prop :=
  (∀ (f : FloatFormat) (wrap : Int) (rm : BitVec 2) (v w : Nat) (z : Bool) (d : Machine.Dyadic),
    f = single ∨ f = double →
    let x := f.unpack v
    let y := f.unpack w
    let claim := fun (r : Delivered) (exact : ℚ) =>
      (r.trap = none → f.Rounds rm exact (f.unpack r.bits) ∧ (r.inexact = true ↔ f.rat (f.unpack r.bits) ≠ exact) ∧
        f.ccFloat (f.unpack r.bits) = (if exact < 0 then 0b01#2 else if exact = 0 then 0b10#2 else 0b00#2)) ∧
      (exact = 0 ∨ f.minNormal ≤ |exact| ∧ |exact| ≤ f.maxFinite → r.trap = none)
    claim (f.deliverDyadic wrap rm d z) (d.mant * (2 : ℚ) ^ d.exp) ∧
    (f.usable x = true → f.usable y = true →
      claim (f.addition wrap rm x y) (f.rat x + f.rat y) ∧
      claim (f.subtraction wrap rm x y) (f.rat x - f.rat y) ∧
      claim (f.product wrap rm x y) (f.rat x * f.rat y) ∧
      (f.rat y ≠ 0 → claim (f.quotient wrap rm x y) (f.rat x / f.rat y)))) ∧
  (∀ (f : FloatFormat) (wrap : Int) (rm : BitVec 2) (v w : Nat) (z : Bool) (d : Machine.Dyadic),
    f = single ∨ f = double →
    let x := f.unpack v
    let y := f.unpack w
    let claim := fun (r : Delivered) (exact : ℚ) (minusZero : Bool) =>
      (exact = 0 → f.unpack r.bits = { neg := minusZero, exponent := 0, fraction := 0 } ∧ r.inexact = false ∧
        r.trap = none) ∧
      ∀ e : Int, (2 : ℚ) ^ e ≤ |exact| → |exact| < (2 : ℚ) ^ (e + 1) →
        let scaled := |exact| * (2 : ℚ) ^ ((f.fracBits : Int) + 1 - e)
        let n := ⌊scaled⌋.toNat
        let neg := decide (exact < 0)
        let last := decide (n / 2 % 2 = 1)
        let round := decide (n % 2 = 1)
        let sticky := decide ((n : ℚ) ≠ scaled)
        let up := match rm.toNat with
          | 0 => round && (sticky || last) | 1 => !neg && (round || sticky) | 2 => false | _ => neg && (round || sticky)
        let sig := n / 2 + up.toNat
        let full := decide (sig = 2 ^ (f.fracBits + 1))
        let exponent : Int := e + (if full then 1 else 0) + f.bias
        let tooBig := decide ((f.top : Int) ≤ exponent)
        let tooSmall := decide (exponent < 1)
        let field := if tooBig then exponent - wrap else if tooSmall then exponent + wrap else exponent
        f.unpack r.bits = { neg := neg, exponent := (field % 2 ^ f.expBits).toNat, fraction := sig % 2 ^ f.fracBits } ∧
          r.inexact = (round || sticky) ∧
          r.trap = if tooBig || tooSmall then some (last.toNat * 2 ^ 20 + round.toNat * 2 ^ 19 + sticky.toNat * 2 ^ 18 +
            tooBig.toNat * 2 ^ 17 + tooSmall.toNat * 2 ^ 16) else none
    claim (f.deliverDyadic wrap rm d z) (d.mant * (2 : ℚ) ^ d.exp) z ∧
    (f.usable x = true → f.usable y = true →
      claim (f.addition wrap rm x y) (f.rat x + f.rat y) (if x.neg = y.neg then x.neg else decide (rm = 0b11#2)) ∧
      claim (f.subtraction wrap rm x y) (f.rat x - f.rat y) (if x.neg ≠ y.neg then x.neg else decide (rm = 0b11#2)) ∧
      claim (f.product wrap rm x y) (f.rat x * f.rat y) (x.neg != y.neg) ∧
      (f.rat y ≠ 0 → claim (f.quotient wrap rm x y) (f.rat x / f.rat y) (x.neg != y.neg))))

/-- R391, R393 to R396: the double operations deliver their result over both operands; an operand that is neither zero
nor normal, or a divisor of zero, ends in the Operand Trap. R391, R400 to R403: the same for singles, whose operands
are tested before the pop. -/
def Obligations.FloatArithmeticDeliversTheResult : Prop :=
  (∀ (s : State) (i : Instr) (op : Int → BitVec 2 → Unpacked → Unpacked → Delivered),
    (i, op) = (.fadd, double.addition) ∨ (i, op) = (.fsub, double.subtraction) ∨ (i, op) = (.fmpy, double.product) ∨
      (i, op) = (.fdiv, double.quotient) →
    let x := double.unpack (s.topDouble 1).toNat
    let y := double.unpack (s.topDouble 0).toNat
    let d := op s.cfg.wrapDouble s.rounding x y
    let r : DWord := BitVec.ofNat 64 d.bits
    s.hasStack 4 0 = true →
    if s.canPop 2 = false then Raises i s .stackUnderflow none
    else if double.usable x = false ∨ double.usable y = false then
      EndsInOperandTrap i s s (classBits (double.classify x)) (classBits (double.classify y))
    else if i = .fdiv ∧ double.classify y = .zero then EndsInOperandTrap i s s 0 0
    else EndsWithResult i s (((s.putTop 3 (hiWord r)).putTop 2 (loWord r)).popped 2) double d) ∧
  (∀ (s : State) (i : Instr) (op : Int → BitVec 2 → Unpacked → Unpacked → Delivered),
    (i, op) = (.fads, single.addition) ∨ (i, op) = (.fsbs, single.subtraction) ∨ (i, op) = (.fmps, single.product) ∨
      (i, op) = (.fdvs, single.quotient) →
    let x := single.unpack (s.top 1).toNat
    let y := single.unpack (s.top 0).toNat
    let d := op s.cfg.wrapSingle s.rounding x y
    s.hasStack 2 0 = true →
    if single.usable x = false ∨ single.usable y = false then
      EndsInOperandTrap i s s (classBits (single.classify x)) (classBits (single.classify y))
    else if i = .fdvs ∧ single.classify y = .zero then EndsInOperandTrap i s s 0 0
    else if s.canPop 1 = false then Raises i s .stackUnderflow none
    else EndsWithResult i s ((s.putTop 1 (BitVec.ofNat 32 d.bits)).popped 1) single d)

/-- R397 to R399, R404 to R406: negation flips the sign, but (+0) - (±0) follows the rule of signs; compares and tests
write CC from the numbers and pop; the operands are tested before the pop. -/
def Obligations.FloatNegateCompareAndTest : Prop :=
  ∀ (s : State) (pop : Bool),
    let x := double.unpack (s.topDouble 1).toNat
    let y := double.unpack (s.topDouble 0).toNat
    let p := single.unpack (s.top 1).toNat
    let q := single.unpack (s.top 0).toNat
    let order := fun a b : ℚ => if a < b then 0b01#2 else if a = b then 0b10#2 else 0b00#2
    let hi : Word :=
      if double.rat y ≠ 0 then s.top 1 ^^^ 0x80000000#32
      else if y.neg = false ∧ s.rounding = 3#2 then 0x80000000#32 else 0#32
    let one : Word :=
      if single.rat q ≠ 0 then s.top 0 ^^^ 0x80000000#32
      else if q.neg = false ∧ s.rounding = 3#2 then 0x80000000#32 else 0#32
    (s.hasStack 2 0 = true → double.usable y = true →
      CompletesAs .fneg s (((s.putTop 1 hi).putTop 0 (s.top 0)).setCC (order 0 (double.rat y))) ∧
      OnStack (.ftst pop) s 2 0 (if pop then 2 else 0)
        ((s.popped (if pop then 2 else 0)).setCC (order (double.rat y) 0))) ∧
    (s.hasStack 1 0 = true → single.usable q = true →
      CompletesAs .fngs s ((s.putTop 0 one).setCC (order 0 (single.rat q))) ∧
      OnStack (.ftss pop) s 1 0 (if pop then 1 else 0)
        ((s.popped (if pop then 1 else 0)).setCC (order (single.rat q) 0))) ∧
    (double.usable x = true → double.usable y = true →
      OnStack (.fcmp pop) s 4 0 (if pop then 4 else 2)
        ((s.popped (if pop then 4 else 2)).setCC (order (double.rat x) (double.rat y)))) ∧
    (single.usable p = true → single.usable q = true →
      OnStack (.fcps pop) s 2 0 (if pop then 2 else 1)
        ((s.popped (if pop then 2 else 1)).setCC (order (single.rat p) (single.rat q)))) ∧
    (s.hasStack 4 0 = true →
      (double.usable y = false → EndsInOperandTrap .fneg s s 0 (classBits (double.classify y)) ∧
        EndsInOperandTrap (.ftst pop) s s 0 (classBits (double.classify y))) ∧
      (single.usable q = false → EndsInOperandTrap .fngs s s 0 (classBits (single.classify q)) ∧
        EndsInOperandTrap (.ftss pop) s s 0 (classBits (single.classify q))) ∧
      (double.usable x = false ∨ double.usable y = false →
        EndsInOperandTrap (.fcmp pop) s s (classBits (double.classify x)) (classBits (double.classify y))) ∧
      (single.usable p = false ∨ single.usable q = false →
        EndsInOperandTrap (.fcps pop) s s (classBits (single.classify p)) (classBits (single.classify q))))

/-- R407 to R410: FLTS rounds an integer to a single, FLTD makes it a double exactly (0 gives +0: log entry 49), FIXS
and FIXD take the integer part of a number, or with bit 3 of its magnitude plus one half, and set O when it does not
fit, with T = 1 ending in the User Trap with parameter 1 (R320, R631). R411 to R413: CSDF
keeps the number, CDSF rounds it (a zero keeping its sign: log entry 47) or ends in the Operand Trap when it does not
fit, and SRM writes the rounding mode. -/
def Obligations.FloatConversions : Prop :=
  (∀ (s : State) (half : Bool),
    let a := s.top 0
    let d := single.deliverDyadic 0 s.rounding { mant := a.toInt, exp := 0 } false
    let q := single.unpack (s.top 0).toNat
    let y := double.unpack (s.topDouble 0).toNat
    let fix := fun x : ℚ => (if x < 0 then -1 else 1) * ⌊|x| + (if half then 1 / 2 else 0)⌋
    (s.hasStack 1 0 = true → d.trap = none ∧ CompletesAs .flts s ((s.putTop 0 (BitVec.ofNat 32 d.bits)).noteResult single d)) ∧
    (∀ r : DWord, double.rat (double.unpack r.toNat) = a.toInt → (a = 0#32 → r = 0#64) →
      OnStack .fltd s 1 1 0 (((s.putTop 0 (hiWord r)).pushed (loWord r)).setCC (ccWord a))) ∧
    (s.hasStack 1 0 = true →
      (single.usable q = true →
        OnStackSettingO (.fixs half) s 1 0 0
          (((s.putTop 0 (wordOf (fix (single.rat q)))).noteOverflow (inexactWord (fix (single.rat q)))).setCC
            (ccWord (wordOf (fix (single.rat q))))) (inexactWord (fix (single.rat q))) 0x01#32) ∧
      (single.usable q = false → EndsInOperandTrap (.fixs half) s s 0 (classBits (single.classify q)))) ∧
    (s.hasStack 2 0 = true →
      (double.usable y = true →
        OnStackSettingO (.fixd half) s 2 0 1
          ((((s.putTop 1 (wordOf (fix (double.rat y)))).popped 1).noteOverflow (inexactWord (fix (double.rat y)))).setCC
            (ccWord (wordOf (fix (double.rat y))))) (inexactWord (fix (double.rat y))) 0x01#32) ∧
      (double.usable y = false → EndsInOperandTrap (.fixd half) s s 0 (classBits (double.classify y))))) ∧
  (∀ (s : State) (m : BitVec 2),
    let q := single.unpack (s.top 0).toNat
    let y := double.unpack (s.topDouble 0).toNat
    let d := single.deliverDyadic 0 s.rounding (double.value y) y.neg
    (s.hasStack 1 1 = true →
      (single.usable q = true → ∀ r : DWord, double.usable (double.unpack r.toNat) = true →
        (double.unpack r.toNat).neg = q.neg → double.rat (double.unpack r.toNat) = single.rat q →
        CompletesAs .csdf s ((((s.pushed 0#32).putTop 1 (hiWord r)).putTop 0 (loWord r)).setCC
          (if single.rat q < 0 then 0b01#2 else if single.rat q = 0 then 0b10#2 else 0b00#2))) ∧
      (single.usable q = false → EndsInOperandTrap .csdf s (s.pushed 0#32) 0 (classBits (single.classify q)))) ∧
    (s.hasStack 2 0 = true →
      (double.usable y = true → d.trap = none →
        OnStack .cdsf s 2 0 1 (((s.putTop 1 (BitVec.ofNat 32 d.bits)).popped 1).noteResult single d)) ∧
      (double.usable y = true → d.trap ≠ none → EndsInOperandTrap .cdsf s s 0 0) ∧
      (double.usable y = false → EndsInOperandTrap .cdsf s s 0 (classBits (double.classify y)))) ∧
    CompletesAs (.srm false m) s (s.setRM m) ∧
    OnStack (.srm true m) s 1 0 1 ((s.popped 1).setRM (field (s.top 0) 30 2)))

/-- R420 to R422: DLAD and DLSB add and subtract eight decimal digits modulo 10^8 with carry and borrow as LADD and
LSUB; a digit above 9 is an IllegalDecimalNumber. -/
def Obligations.DecimalAddAndSubtract : Prop :=
  ∀ (s : State) (ext : Bool),
    let a := s.top 0
    let b := s.top 1
    let carry : Int := if ext && s.carry then 1 else 0
    let borrow : Int := if ext && !s.carry then 1 else 0
    let left := fun (v : Word) (c : Bool) =>
      let t := ((s.putTop 1 v).popped 1).setCarry c
      if v ≠ 0#32 then t.setCC 0b00#2 else if ext then t else t.setCC 0b10#2
    (∀ na nb nv : Nat, ∀ v : Word, Digits 8 a.toNat na → Digits 8 b.toNat nb → Digits 8 v.toNat nv →
      ((nv : Int) = (nb + na + carry) % 100000000 →
        OnStack (.dlad ext) s 2 0 1 (left v (decide ((100000000 : Int) ≤ nb + na + carry)))) ∧
      ((nv : Int) = (nb - na - borrow) % 100000000 →
        OnStack (.dlsb ext) s 2 0 1 (left v (decide ((0 : Int) ≤ nb - na - borrow))))) ∧
    (s.hasStack 2 0 = true → ∀ k < 8, 9 < a.toNat / 16 ^ k % 16 ∨ 9 < b.toNat / 16 ^ k % 16 →
      Raises (.dlad ext) s .illegalDecimal (some s.CIR) ∧ Raises (.dlsb ext) s .illegalDecimal (some s.CIR))

/-- R423 to R425: DTB, BTD and POT: the power pair for an exponent in range, by default two doubles nearest to powers of
ten whose quotient is the power, the double nearest to 17 digits by RM, the guess of the decimal exponent, and the 17
digits of a number between 1 and 10, or the corrected exponent. That DTB gives +0 for seventeen zero digits with sign
bit 1 is log entry 49. -/
def Obligations.DecimalConversions : Prop :=
  ∀ s : State,
    let w0 := s.top 2
    let w1 := s.top 1
    let w2 := s.top 0
    let digits := fun (u v w : Word) => (field u 16 16 ++ v ++ field w 0 20).toNat
    let pair := fun ab : DWord × DWord =>
      ((((s.putTop 0 (hiWord ab.1)).pushed (loWord ab.1)).pushed (hiWord ab.2)).pushed (loWord ab.2)).setCC 0b00#2
    let e : Int := (field (s.top 0) 0 10).toInt
    let y := double.unpack (s.topDouble 0).toNat
    let x := double.rat y
    let guess : Int := if s.topDouble 0 ∈ s.cfg.guessHigh then 1 else 0
    (s.cfg.powers = [] → ∀ n : Int, -308 ≤ n → n < 308 →
      let ab := Config.powerPair s.cfg n
      double.Rounds 0#2 ((10 : ℚ) ^ n.toNat) (double.unpack ab.1.toNat) ∧
        double.Rounds 0#2 ((10 : ℚ) ^ (- n).toNat) (double.unpack ab.2.toNat)) ∧
    (s.hasStack 1 3 = true →
      (if -308 < e ∧ e < 308 then CompletesAs (.dtb true) s (pair (Config.powerPair s.cfg (e - 16)))
        else Raises (.dtb true) s .exponentSize (some s.CIR)) ∧
      (if -308 < (s.top 0).toInt ∧ (s.top 0).toInt < 308 then
          CompletesAs .pot s (pair (Config.powerPair s.cfg (s.top 0).toInt))
        else Raises .pot s .exponentSize (some s.CIR))) ∧
    (∀ n : Nat, Digits 17 (digits w0 w1 w2) n →
      let i : Int := if bit w0 15 then - n else n
      let d := double.deliverDyadic 0 s.rounding { mant := i, exp := 0 } false
      let r : DWord := BitVec.ofNat 64 d.bits
      d.trap = none ∧ OnStack (.dtb false) s 3 0 1
        ((((s.popped 1).putTop 1 (hiWord r)).putTop 0 (loWord r)).noteResult double d)) ∧
    (s.hasStack 3 0 = true → (∃ k < 17, 9 < digits w0 w1 w2 / 16 ^ k % 16) →
      Raises (.dtb false) s .illegalDecimal (some s.CIR)) ∧
    (double.usable y = true → ∀ g : Int, (x = 0 → g = 0) → (x ≠ 0 → (10 : ℚ) ^ (g - guess) ≤ |x| ∧
        |x| < (10 : ℚ) ^ (g - guess + 1)) →
      OnStack (.btd true) s 2 0 1 (((s.putTop 1 (wordOf g)).popped 1).setCC (ccWord (wordOf g)))) ∧
    (double.usable y = false → s.hasStack 3 0 = true →
      EndsInOperandTrap (.btd true) s s 0 (classBits (double.classify y)) ∧
      EndsInOperandTrap (.btd false) s s 0 (classBits (double.classify y))) ∧
    (double.usable y = true → s.hasStack 3 0 = true →
      (x = 0 → CompletesAs (.btd false) s ((((s.putTop 2 0#32).putTop 1 0#32).putTop 0 0#32).setCC 0b10#2)) ∧
      (x ≠ 0 → |x| < 1 →
        OnStack (.btd false) s 3 0 2 (((s.popped 2).putTop 0 (w0 - 1#32)).setCC 0b01#2)) ∧
      (10 ≤ |x| → OnStack (.btd false) s 3 0 2 (((s.popped 2).putTop 0 (w0 + 1#32)).setCC 0b00#2)) ∧
      (1 ≤ |x| → |x| < 10 →
        if -512 < w0.toInt ∧ w0.toInt < 511 then
          ∀ u v w : Word, field u 0 10 = field w0 22 10 → field u 10 5 = 0#5 → bit u 15 = y.neg →
            Digits 17 (digits u v w) ⌊|x| * 10 ^ 16⌋.toNat → field w 20 12 = 0#12 →
            CompletesAs (.btd false) s ((((s.putTop 2 u).putTop 1 v).putTop 0 w).setCC 0b10#2)
        else Raises (.btd false) s .exponentSize (some s.CIR)))

/-! ## Program control -/

/-- R444 to R450, R459: the P-relative branches on CC, Carry and Overflow; the tested Carry or Overflow is cleared
whether or not the branch is taken; that BCY and BNC clear Carry, as R447 and R448 print and R35 denies, is log entry
46. R451 to R455: the branches that pop what they test, CRB, which needs room for its
pop on every path, with its Check Trap, and BIR with its Result Trap. -/
def Obligations.ConditionalBranches : Prop :=
  (∀ (s : State) (i sign : Bool) (f : BitVec 3) (o : BitVec 19) (h : BitVec 8) (n : BitVec 6),
    let chosen := if s.cc = 0b00#2 then bit f 0 else if s.cc = 0b10#2 then bit f 1 else bit f 2
    let short := signedDisp sign (2 * n.toNat)
    BranchesIf (.bcc i f sign o) s s chosen (signedDisp sign o.toNat) i ∧
    BranchesIf (.bccs i f sign h) s s chosen (signedDisp sign (2 * h.toNat)) i ∧
    BranchesIf (.bcy i sign n) s (s.setCarry false) s.carry short i ∧
    BranchesIf (.bnc i sign n) s (s.setCarry false) (!s.carry) short i ∧
    BranchesIf (.bov i sign n) s (s.setO false) s.overflow short i ∧
    BranchesIf (.bno i sign n) s (s.setO false) (!s.overflow) short i ∧
    BranchesIf (.bun i sign n) s s (s.cc == 0b11#2) short i) ∧
  (∀ (s : State) (i sign : Bool) (n : BitVec 6),
    let a := s.top 0
    let b := s.top 1
    let c := s.top 2
    let short := signedDisp sign (2 * n.toNat)
    let inside := decide (b.toInt ≤ c.toInt) && decide (c.toInt ≤ a.toInt)
    (s.hasStack 1 0 = true → s.canPop 1 = false →
      ∀ j ∈ [Instr.brz i sign n, .bre i sign n, .bro i sign n], Raises j s .stackUnderflow none) ∧
    (s.hasStack 1 0 = true → s.canPop 1 = true →
      BranchesIf (.brz i sign n) s (s.popped 1) (a == 0#32) short i ∧
      BranchesIf (.bre i sign n) s (s.popped 1) (!bit a 31) short i ∧
      BranchesIf (.bro i sign n) s (s.popped 1) (bit a 31) short i) ∧
    (s.hasStack 3 0 = true →
      if s.canPop 2 = false then Raises (.crb i sign n) s .stackUnderflow none
      else if inside = false ∧ n = 0#6 then EndsInTrap (.crb i sign n) s (s.setCC 0b10#2) .check (some s.CIR) none
      else if inside then CompletesAs (.crb i sign n) s ((s.popped 2).setCC 0b10#2)
      else BranchesIf (.crb i sign n) s ((s.popped 2).setCC 0b00#2) true short i) ∧
    (if s.inexact = false then CompletesAs (.bir i sign n) s s
      else if n = 0#6 then
        EndsInTrap (.bir i sign n) s (s.setInexact false) .floatResult (some s.cirHalf) none
      else BranchesIf (.bir i sign n) s (s.setInexact false) true short i))

/-- R441 to R443: BR goes to a P-relative address directly or through a self-relative pointer, or through the program
pointer at a data or stack address; BRSI through the pointer at S + X, with a pop. -/
def Obligations.UnconditionalBranches : Prop :=
  ∀ (s : State) (i x : Bool) (b : Base) (off : BitVec 19),
    let xx : Int := if x then s.X.toInt else 0
    let loc := s.baseAddr b off.toNat + xx
    let p := s.word (wordOf loc)
    let spot := (s.S.toNat : Int) + xx
    let q := s.word (wordOf spot)
    (baseIsCode b = true → i = false → JumpsAs (.br i x b off) s s (wordOf loc)) ∧
    (baseIsCode b = false → i = false → Raises (.br i x b off) s .branchViolation none) ∧
    (i = true → (loc < s.baseLow b ∨ s.baseHigh b < loc) → Raises (.br i x b off) s .boundsViolation none) ∧
    (i = true → s.baseLow b ≤ loc → loc ≤ s.baseHigh b → s.hasAddr loc = true →
      (baseIsCode b = true → JumpsAs (.br i x b off) s s (wordOf (loc + p.toInt))) ∧
      (baseIsCode b = false → TransfersThrough (.br i x b off) s p .branch id)) ∧
    ((spot < s.SB.toNat ∨ (s.S.toNat : Int) < spot) → Raises (.brsi x) s .boundsViolation none) ∧
    (s.SB.toNat ≤ spot → spot ≤ s.S.toNat → s.hasWord (wordOf spot) = true → (s.cfg.rev = .le33 → bit q 0 = false) →
      (s.canPop 1 = true → TransfersThrough (.brsi x) s q .branch (·.popped 1)) ∧
      (s.canPop 1 = false → UnderflowsAfterPlan (.brsi x) s q .branch))

/-- R131, R133: through a local program pointer a transfer stays in the segment and changes no register but P, whose
lowest bit is 0. R122, R133: a transfer through an external program pointer makes its tests in order, each failure
leaving the state as it was; else PB, PL and CSN become the segment's, M is kept or, for a call into a privileged
segment, set, and the segment's reference bit is set; between two segments its use count goes up and that of the one
left, if not segment 0, down. Until the change is made the target's entry is owned, and its first word reads -1. -/
def Obligations.TransfersThroughProgramPointers : Prop :=
  (∀ (s : State) (p : Word) (kind : TransferKind), bit p 0 = false →
    ∃ g, planTransfer p kind s = .ok (g, s) ∧ commitTransfer g s = .ok ((), s) ∧
      g.target = (s.PB + (p &&& 0x3FFFFFFF#32)) &&& 0xFFFFFFFE#32) ∧
  (∀ (s : State) (p : Word) (kind : TransferKind),
    let csn := field p 20 12
    let n4 : Word := (field p 1 19).setWidth 32
    let entry := s.cstOf csn
    let w0 := s.word entry
    let t := s.taken entry
    let loc := s.word (entry + 8#32)
    let pl := s.limitAt entry
    let len := t.word (wordOf pl)
    let q := t.word (wordOf (pl - n4.toNat))
    let old := s.csn
    let target := if n4 = 0#32 then loc else (loc + (q &&& 0x3FFFFFFF#32)) &&& 0xFFFFFFFE#32
    let moved := fun (u : State) (n : BitVec 12) =>
      { u.putWord entry (setBit (setField w0 1 12 (useCount w0 + n)) 29 true) with
        PB := loc, PL := wordOf pl,
        STATUS := setField (setBit s.STATUS 14 (s.privileged || (decide (kind = .call) && bit w0 30))) 20 12 csn }
    let fails := fun (tr : Trap) (param : Option Word) => planTransfer p kind s = .error (.trap tr param s)
    let gives := fun u : State => ∃ g, planTransfer p kind s = .ok (g, t) ∧ g.target = target ∧
      commitTransfer g t = .ok ((), u)
    s.mem.wf = true → bit p 0 = true → s.hasCst csn = true →
    if namesEntry csn = false then fails .externalProgramPointer none
    else if s.cstWithin csn = false then fails .cstViolation none
    else bit w0 0 = false →
      if bit w0 31 = true then fails .absentCodeSegment (some (csn.setWidth 32))
      else if kind = .branch ∧ bit w0 30 = true ∧ s.privileged = false then fails .privilegedMode (some 2#32)
      else loc.toNat < 2 ^ 29 → s.hasAddr pl = true →
        if (field len 13 19).toNat < n4.toNat then fails .sttViolation (some 1#32)
        else s.hasAddr (pl - n4.toNat) = true →
          if n4 ≠ 0#32 ∧ bit q 0 = true then fails .sttViolation (some 2#32)
          else if kind = .call ∧ bit q 1 = true ∧ s.privileged = false then fails .uncallableProcedure none
          else if old = csn then gives (moved t 0#12)
          else if old = 0#12 then
            if useCount w0 = 4095#12 then fails .systemError (some 1#32) else gives (moved t 1#12)
          else s.canLeave old csn = true →
            if useCount (s.word (s.cstOf old)) = 0#12 ∨ useCount w0 = 4095#12 then fails .systemError (some 1#32)
            else gives (moved (s.counted old (-1#12)) 1#12))

/-- R49, R460, R480 to R489, R584: NOP does nothing; the debug aids trap when their STATUS bit, the overall debug bit
(of FLAGS, by the kind of the code segment) or the word at SB+4 asks for it; SOLC first leaves its PB-relative address
at Q+4; CHEK traps outside its range. R466, R467: STOP saves S below SB and halts, or sleeps with the popped MASK and
interrupts enabled until an unmasked bit of MSG, bits 3 to 5 apart, is there, and then completes with MASK and STATUS
as they were; a halted CPU stays as it is; WAIT counts the top word down to 0, or to what is left at a poll that
suspends it (R626; log entry 8). That a sleeping CPU makes steps, before which the table entries it owns are given
back, and that P stays at the STOP of a halted CPU, is the model's choice (log entries 10 and 21). -/
def Obligations.NopCheckStopAndWait : Prop :=
  (∀ (s : State) (n : BitVec 8) (lo : BitVec 5) (hi : BitVec 19),
    let param := some (n.setWidth 32)
    let noted := s.putWord (s.Q + 4#32) (s.P - s.PB)
    let cleared := { s with STATUS := s.STATUS &&& 0x07FFFFFF#32 }
    let flag := fun (l : List Nat) => l.any fun k => bit s.FLAGS k
    let debug := match field s.csn 0 2 with
      | 0b00#2 => flag [1, 3, 5, 7] | 0b11#2 => flag [0, 2, 4, 6] | _ => flag [1, 3, 5, 6, 7]
    CompletesAs .nop s s ∧
    TrapsIf (.sol n) s s s.startLine .startOfLine param ∧
    TrapsIf (.sop n) s cleared debug .startOfProcedure param ∧
    TrapsIf .eop s s s.endProc .endOfProcedure none ∧
    TrapsIf (.sos n) s s s.startSub .startOfSubroutine param ∧
    TrapsIf .eos s s s.endSub .endOfSubroutine none ∧
    (s.Q = s.S → Raises (.solc n) s .boundsViolation none) ∧
    (s.Q ≠ s.S → s.hasWord (s.Q + 4#32) = true → s.hasWord (s.SB + 4#32) = true →
      TrapsIf (.solc n) s noted (noted.word (s.SB + 4#32) != 0#32) .startOfLineCheck param) ∧
    (s.hasStack 1 0 = true →
      TrapsIf (.chek lo hi) s s (decide ((s.top 0).toInt < lo.toNat) || decide ((hi.toNat : Int) < (s.top 0).toInt))
        .check (some s.CIR))) ∧
  (∀ (s : State) (b3 : Bool) (mask status : Word),
    let saved := if s.SB = 0#32 then s else s.putWord (s.SB - 4#32) (s.S - s.SB)
    let awake := s.MSG &&& ~~~ s.MASK &&& 0xE3FFFFFF#32 ≠ 0#32
    let asleep := { s with run := .sleeping mask status }
    let r := asleep.regained
    let lit := { s with debugPad5 := b3 }
    (s.SB ≠ 0#32 → s.hasWord (s.SB - 4#32) = true) →
    (s.privileged = true →
      exec (.stop false) s = .next { saved with run := .halted, prevDup := false } ∧
      (s.hasStack 1 0 = true → s.canPop 1 = true →
        exec (.stop true) s = .next { ((saved.popped 1).setI true) with
          MASK := saved.top 0, run := .sleeping s.MASK s.STATUS, prevDup := false })) ∧
    cpuStep { s with run := .halted } = .next { s with run := .halted } ∧
    (s.owned = [] → r = asleep) ∧
    (¬ awake → cpuStep asleep = .next r) ∧
    (awake →
      let t := { r with MASK := mask, STATUS := status, run := .running, P := s.P + 2#32, prevDup := false }
      t.quiet = true → cpuStep asleep = .next (t.setEM true)) ∧
    (s.hasStack 1 0 = true → s.poll = none → CompletesAs (.wait b3) s ((lit.putTop 0 0#32).setPending false)) ∧
    (s.hasStack 1 0 = true → ∀ q t u, s.poll = some q → 0 < q.iteration → q.iteration < (s.top 0).toNat →
      pollBefore q.iteration (lit.putTop 0 (s.top 0 - BitVec.ofNat 32 q.iteration)) = .ok (.interrupt, t) →
      suspend t = .ok ({ stay := true }, u) → exec (.wait b3) s = .next { u with prevDup := false }))

/-- R60, R470, R471: PCL and PCLS push a marker with the return address of the next instruction and transfer through the
pointer on top of the stack, which is popped, or in the STT. The pop is tested after the transfer's own tests (R133),
and its StackUnderflow finds the target's entry given back. -/
def Obligations.ProcedureCalls : Prop :=
  ∀ (s : State) (off : BitVec 19) (n : BitVec 8) (ra : Word),
    let sttAt := fun o : BitVec 19 => s.word (s.PL - o.setWidth 32)
    let claim := fun (i : Instr) (o : BitVec 19) (len : Word) =>
      let here := fun t : State => t.marked (s.P + len)
      (o ≠ 0#19 → s.hasWord s.PL = true →
        ((field (s.word s.PL) 13 19).toNat < o.toNat → Raises i s .sttViolation (some 1#32)) ∧
        (o.toNat ≤ (field (s.word s.PL) 13 19).toNat → s.hasWord (s.PL - o.setWidth 32) = true →
          s.hasStack 0 4 = true → TransfersThrough i s (sttAt o) .call here)) ∧
      (o = 0#19 → s.hasStack 1 0 = true → PassesTrapsOf i s (planTransfer (s.top 0) .call) ∧
        (s.canPop 1 = false → UnderflowsAfterPlan i s (s.top 0) .call)) ∧
      (o = 0#19 → s.hasStack 1 3 = true → s.canPop 1 = true →
        TransfersThrough i s (s.top 0) .call fun t => here (t.popped 1))
    (s.hasStack 0 4 = true → pushMarker ra s = .ok ((), s.marked ra)) ∧
    claim (.pcl off) off 4#32 ∧ claim (.pcls n) (n.setWidth 19 * 4) 2#32

/-- R472, R473: EXIT restores Q, STATUS and X from the marker, pops it and N more words and returns to its address, here
for a marker of the same segment; an unprivileged EXIT refuses a marker that would raise M, change I or set P; SXIT
pops N words under the return address. R472: an EXIT whose marker names another segment makes that segment's tests, a
failure leaving the state as it was, and enters it with the use counts moved and its reference bit set; segment 0,
which has no entry, is the whole address space and is closed to unprivileged code. EXIT's underflow test compares the
new S, an unbounded number, with the new Q as the 32-bit difference, which is log entry 36. -/
def Obligations.ProcedureAndSubroutineExits : Prop :=
  (∀ (s : State) (n : BitVec 8),
    let m := s.Q
    let dq := s.word m
    let nST := s.word (m - 4#32)
    let nRA := s.word (m - 8#32)
    let nX := s.word (m - 12#32)
    let newS : Int := (m.toNat : Int) - 16 - 4 * n.toNat
    let u := { s with Q := m - dq, STATUS := nST, X := nX, S := m - 16#32 - 4#32 * n.setWidth 32 }
    (s.hasWord m = true → s.hasWord (m - 4#32) = true → s.hasWord (m - 8#32) = true → s.hasWord (m - 12#32) = true →
      (s.privileged = false → bit nST 14 = true → Raises (.exit n) s .privilegedMode (some 2#32)) ∧
      (s.privileged = false → bit nST 14 = false → (bit nST 13 ≠ s.interruptEnable ∨ bit nST 9 = true) →
        Raises (.exit n) s .privilegedMode (some 3#32)) ∧
      ((s.privileged = true ∨ bit nST 14 = false ∧ bit nST 13 = s.interruptEnable ∧ bit nST 9 = false) →
        field nST 20 12 = s.csn →
        if newS < ((m - dq).toNat : Int) then Raises (.exit n) s .stackUnderflow none
        else JumpsAs (.exit n) s u (s.PB + nRA))) ∧
    (s.hasStack 1 0 = true →
      if s.canPop (1 + n.toNat) = false then Raises (.sxit n) s .stackUnderflow none
      else JumpsAs (.sxit n) s (s.popped (1 + n.toNat)) (s.PB + s.top 0))) ∧
  (∀ (s : State) (n : BitVec 8),
    let m := s.Q
    let dq := s.word m
    let nST := s.word (m - 4#32)
    let nRA := s.word (m - 8#32)
    let c := field nST 20 12
    let old := s.csn
    let entry := s.cstOf c
    let w0 := s.word entry
    let loc := s.word (entry + 8#32)
    let pl := s.limitAt entry
    let newS : Int := (m.toNat : Int) - 16 - 4 * n.toNat
    let here := fun u : State =>
      { u with Q := m - dq, STATUS := nST, X := s.word (m - 12#32), S := m - 16#32 - 4#32 * n.setWidth 32 }
    let goes := fun (u : State) (pb pl : Word) =>
      if newS < ((m - dq).toNat : Int) then Raises (.exit n) s .stackUnderflow none
      else JumpsAs (.exit n) s { here u with PB := pb, PL := pl } (pb + nRA)
    let entered := fun u : State => u.putWord entry (setBit (setField w0 1 12 (useCount w0 + 1#12)) 29 true)
    let full := Raises (.exit n) s .systemError (some 1#32)
    s.mem.wf = true → (∀ k < 4, s.hasWord (m - BitVec.ofNat 32 (4 * k)) = true) → c ≠ old →
    (s.privileged = true ∨ bit nST 14 = false ∧ bit nST 13 = s.interruptEnable ∧ bit nST 9 = false) →
    (c = 0#12 → s.privileged = false → Raises (.exit n) s .externalProgramPointer none) ∧
    (c = 0#12 → s.privileged = true → s.isCounted old = true →
      if useCount (s.word (s.cstOf old)) = 0#12 then full else goes (s.counted old (-1#12)) 0#32 0x1FFFFFFC#32) ∧
    (c ≠ 0#12 → s.hasCst c = true →
      if namesEntry c = false then Raises (.exit n) s .externalProgramPointer none
      else if s.cstWithin c = false then Raises (.exit n) s .cstViolation none
      else bit w0 0 = false →
        if bit w0 31 = true then Raises (.exit n) s .absentCodeSegment (some (c.setWidth 32))
        else loc.toNat < 2 ^ 29 → 0 ≤ pl → pl < 2 ^ 29 →
          if old = 0#12 then
            if useCount w0 = 4095#12 then full else goes (entered s) loc (wordOf pl)
          else s.canLeave old c = true →
            if useCount (s.word (s.cstOf old)) = 0#12 ∨ useCount w0 = 4095#12 then full
            else goes (entered (s.counted old (-1#12))) loc (wordOf pl)))

/-- R475 to R477: PSDB and PSEB count dispatches disabled in the word 16 below QI; DISP with the CPU on the ICS or the
count not 0 only records the request in bit 0 of the word at QI; the last PSEB with such a request restarts the
dispatcher, or with DISPFLAG = 0 executes DISP. Where DISP leaves a stack with S beyond SL, the stack overflow's frame
is made first, with MASK at Q+8, and the dispatcher starts on top of it (R621; how it does is log entry 33). R478,
R646: what the dispatcher's start and IXIT load: Q, SL and SB of the ICS from the CPU's block; DB and DL from a stack,
a global or an external pointer (DL = DB + 4096 for a stack pointer is log entry 31); the dispatcher's DB, DL,
segment, STATUS, X and address from the base frame at QI. A start over a stack overflow's frame keeps Q and leaves the
DISP flag 0 (log entry 33). R474: IXIT returns within the ICS through the marker at Q when the frame below is another
of the ICS, with MASK, DB, DL and the global pointer of that frame; or it returns to the process, or starts the
dispatcher. It looks at QI only when bit 0 of the word at Q is 1. R474: the return to a process takes its user CST,
its DST and the numbers of its global and stack segments from the TCB, DB and DL from the one, SB, SL, S and Q from
the header of the other, and goes on as EXIT 0; values that are not in order are an InconsistentRegisters trap with
CIR, which finds memory and the DISP flag as at the start of IXIT, although R474 prints the write of the user CST's
address before the test (log entry 37). -/
def Obligations.DispatcherAndInterruptExit : Prop :=
  (∀ s : State,
    let block := (field s.MASK 3 3).setWidth 32 * 16#32
    let qi := s.word (block + 8#32)
    let count := s.word (qi - 16#32)
    let t := s.putWord (qi - 16#32) (count - 1#32)
    let asked := bit (t.word qi) 0
    let record := fun u : State => (u.putWord qi (setBit (u.word qi) 0 true)).setCC 0b00#2
    let enters := fun (i : Instr) (u : State) =>
      let m := (u.setCC 0b10#2).marked (s.P + 2#32)
      let saved := m.putWord (s.SB - 4#32) (m.S - s.SB)
      ∀ d e v a, loadIcs saved = .ok ((), d) →
        (m.S.toNat ≤ s.SL.toNat → startDispatcher false d = .ok (e, v) → e = { jump := some a } → JumpsAs i s v a) ∧
        (s.SL.toNat < m.S.toNat → d.hasWord (d.Q + 8#32) = true → ∀ d',
          overflowFrame (d.putWord (d.Q + 8#32) d.MASK) = .ok ((), d') → startDispatcher true d' = .ok (e, v) →
          e = { jump := some a } → JumpsAs i s v a)
    s.privileged = true → s.hasWord (block + 8#32) = true → qi.toNat < 2 ^ 29 → s.hasWord (qi - 16#32) = true → s.hasWord qi = true →
    CompletesAs .psdb s (s.putWord (qi - 16#32) (count + 1#32)) ∧
    ((s.icsFlag = true ∨ count ≠ 0#32) → CompletesAs .disp s (record s)) ∧
    (count = 0#32 → Raises .pseb s .systemError (some 0#32)) ∧
    (count ≠ 0#32 → ¬(count = 1#32 ∧ asked = true) → CompletesAs .pseb s (t.setCC 0b01#2)) ∧
    (count = 1#32 → asked = true → s.dispFlag = true → ∀ e u a, startDispatcher false t = .ok (e, u) →
      e = { jump := some a } → JumpsAs .pseb s u a) ∧
    (s.mem.wf = true → wordAlign (block + 8#32) ≠ wordAlign (qi - 16#32) → count = 1#32 → asked = true →
      s.dispFlag = false →
      (s.icsFlag = true → CompletesAs .pseb s (record t)) ∧
      (s.icsFlag = false → s.hasStack 0 4 = true → s.hasWord (s.SB - 4#32) = true → enters .pseb t)) ∧
    (s.icsFlag = false → count = 0#32 → s.hasStack 0 4 = true → s.hasWord (s.SB - 4#32) = true → enters .disp s)) ∧
  (∀ (s : State) (dsp : Word) (nested : Bool),
    let block := (field s.MASK 3 3).setWidth 32 * 16#32
    let qi := s.word (block + 8#32)
    let sli := s.word (block + 12#32)
    let b := dsp &&& 0x3FFFFFFF#32
    let seg := field dsp 1 12
    let table := if bit dsp 1 then s.DST else 0o2200#32
    let entry := table + BitVec.ofNat 32 (16 * (field seg 1 11).toNat)
    let loc := s.word (entry + 8#32)
    let last : Int := (loc.toNat : Int) + (s.word (entry + 4#32)).toNat
    let t := { s.putWord qi 0#32 with Q := if nested then s.Q else qi }
    let g := t.word (qi + 4#32)
    (s.hasWord (block + 8#32) = true → s.hasWord (block + 12#32) = true → 259 ≤ qi.toNat → qi.toNat < 2 ^ 29 →
      sli.toNat < 2 ^ 29 → loadIcs s = .ok ((), { s with Q := qi, SL := sli, SB := qi - 259#32, icsFlag := true })) ∧
    (bit dsp 0 = true → field dsp 30 2 = 0#2 →
      (bit dsp 1 = true → b.toNat + 4096 < 2 ^ 29 → setDbDl dsp s = .ok ((), { s with DB := b, DL := b + 4096#32 })) ∧
      (bit dsp 1 = false → b.toNat < 2 ^ 29 → setDbDl dsp s = .ok ((), { s with DB := b, DL := 0x1FFFFFFF#32 }))) ∧
    (bit dsp 0 = false → field seg 1 11 ≠ 0#11 → s.hasWord table = true →
      16 * (field seg 1 11).toNat ≤ (s.word table).toNat → table.toNat + 16 * (field seg 1 11).toNat < 2 ^ 29 →
      (∀ k < 3, s.hasWord (entry + BitVec.ofNat 32 (4 * k)) = true) → bit (s.word entry) 31 = false →
      bit (s.word entry) 26 = false → last < 2 ^ 29 → field loc 30 2 = 0#2 → last % 4 = 3 →
      setDbDl dsp s = .ok ((), { s with DB := loc, DL := wordOf last })) ∧
    (s.hasWord (block + 8#32) = true → qi.toNat < 2 ^ 29 →
      (∀ a ∈ [qi, qi + 4#32, qi - 4#32, qi - 8#32, qi - 12#32, s.SB], s.hasWord a = true) → ∀ v c w w',
      setDbDl g t = .ok ((), v) →
      planSegment (field ((v.putWord s.SB g).word (qi - 4#32)) 20 12) false (v.putWord s.SB g) = .ok (c, w) →
      commitSegment c w = .ok ((), w') →
      startDispatcher nested s = .ok ({ jump := some (w'.PB + w'.word (qi - 8#32)) },
        { w' with dispFlag := !nested, STATUS := (v.putWord s.SB g).word (qi - 4#32), X := w'.word (qi - 12#32),
                  S := w'.Q + 12#32 }))) ∧
  (∀ (s : State) (e : End) (u : State) (a : Word),
    let mask := s.word (s.Q + 8#32)
    let block' := (field mask 3 3).setWidth 32 * 16#32
    let w := s.word s.Q
    let qi := s.word (block' + 8#32)
    let t := { s with MASK := mask }
    s.privileged = true → s.cfg.rev = .fixed → e = { jump := some a } →
    (s.dispFlag = true → returnToProcess { s with dispFlag := false } = .ok (e, u) → JumpsAs .ixit s u a) ∧
    (s.dispFlag = false → s.hasWord (s.Q + 8#32) = true → s.hasWord s.Q = true →
      (bit w 0 = true → s.hasWord (block' + 8#32) = true ∧ qi.toNat < 2 ^ 29 ∧ s.hasWord qi = true ∧
        s.hasWord (qi - 16#32) = true) →
      let dispatch := bit w 0 && bit (s.word qi) 0 && s.word (qi - 16#32) == 0#32
      (dispatch = true → startDispatcher false t = .ok (e, u) → JumpsAs .ixit s u a) ∧
      (dispatch = false → field w 1 31 = 0#31 → returnToProcess t = .ok (e, u) → JumpsAs .ixit s u a) ∧
      (dispatch = false → field w 1 31 ≠ 0#31 → ∀ v v', s.hasWord (s.Q + 4#32) = true → s.hasWord s.SB = true →
        let t' := { t with dispFlag := t.dispFlag || bit w 0 }.putWord s.Q (setBit w 0 false)
        let g := t'.word (s.Q + 4#32)
        setDbDl g t' = .ok ((), v) → v' = v.putWord s.SB g → exitCore 0 false v' = .ok (e, u) → JumpsAs .ixit s u a))) ∧
  (∀ s : State,
    let block := (field s.MASK 3 3).setWidth 32 * 16#32
    let tcb := s.word (block + 4#32)
    let dst := s.word (tcb + 4#32)
    let segs := s.word (tcb + 8#32)
    let table := fun m : BitVec 12 => if bit m 0 then dst else 0o2200#32
    let entry := fun m : BitVec 12 => table m + BitVec.ofNat 32 (16 * (field m 1 11).toNat)
    let usable := fun m : BitVec 12 => field m 1 11 ≠ 0#11 ∧ s.hasWord (table m) = true ∧
      16 * (field m 1 11).toNat ≤ (s.word (table m)).toNat ∧ (table m).toNat + 16 * (field m 1 11).toNat < 2 ^ 29 ∧
      (∀ k < 3, s.hasWord (entry m + BitVec.ofNat 32 (4 * k)) = true) ∧ bit (s.word (entry m)) 31 = false ∧
      bit (s.word (entry m)) 26 = false
    let global := field segs 20 12
    let stack := field segs 4 12
    let db := s.word (entry global + 8#32)
    let last : Int := (db.toNat : Int) + (s.word (entry global + 4#32)).toNat
    let base := s.word (entry stack + 8#32)
    let sb : Int := (base.toNat : Int) + (s.word base).toNat
    let sl := sb + (s.word (base + 4#32)).toNat
    let top := sb + (s.word (wordOf (sb - 4))).toNat
    let valid := sb % 4 = 0 ∧ top % 4 = 3 ∧ sl % 4 = 3 ∧ sb < top ∧ top ≤ sl
    (∀ a ∈ [block, block + 4#32, tcb, tcb + 4#32, tcb + 8#32, base, base + 4#32], s.hasWord a = true) →
    tcb.toNat < 2 ^ 29 → usable global → usable stack → last < 2 ^ 29 → sb < 2 ^ 29 → s.hasAddr (sb - 4) = true →
    (valid → sl < 2 ^ 29 → returnToProcess s = exitCore 0 false { s.putWord block (s.word tcb) with
      DST := dst, DB := db, DL := wordOf last, SB := wordOf sb, SL := wordOf sl, Q := wordOf top, S := wordOf top,
      icsFlag := false }) ∧
    (¬ valid → s.privileged = true → s.cfg.rev = .fixed → s.dispFlag = true →
      Raises .ixit s .inconsistentRegisters (some s.CIR)))

/-! ## Move, scan and string instructions -/

/-- R500, R501: MVB copies its bytes one after the other, up or down, counts them in X, takes them off the count, pops
SDEC words and reports the store; here for stack, global and program pointers. R500, R501, R626, R650: MVB from its
start, or from where an interruption left it, through pointers of any kind: both areas are evaluated, then the words
to pop are tested, then the bytes move; at the end the count, S, STATUS.P and the trace are as R500 says. That the
underflow test stands there is log entry 36, and that the bytes are counted and the trace pointer taken where the loop
begins or resumes, whatever is written at a poll, log entry 55. R500, R104, R131: the areas of a move. The area's pointer is evaluated
with X as its index, the source's by its type: a data segment pointer of any kind, or a local program pointer inside
the code segment. One byte of each loop: MVB, PMVA (R502, log entry 18), SCW and SCU (R503, R504), CMPB (R505), TRAN
(R506, log entry 28), FILB (R507). No byte is part of the parameters (U16, log entry 29). R500, R620, R626, R660: the loop of a
move or scan. Before each byte but the first the CPU may poll (when is log entry 8): the moves other agents make there
are made, a reset aborts the instruction, and an interrupt that I and MASK allow suspends it. R626, R630, R642: a
suspended instruction leaves STATUS.P = 1 and its own address to the message trap, or the interrupt, or both; where
all devices turn out to be serviced nothing is entered. -/
def Obligations.MoveBytesCopiesOneByteAtATime : Prop :=
  (∀ (s u : State) (d data : Bool) (sdec : BitVec 2),
    MoveResult s d (!data) sdec.toNat u → CompletesMoved (.mvb d data sdec) s u (s.top 1) false) ∧
  (∀ (s : State) (d data : Bool) (sdec : BitVec 2), MovesFrom (.mvb d data sdec) s s d data sdec.toNat false) ∧
  (∀ (s t u : State) (d data modmem : Bool) (x : Word) (l : Located) (e : Stop) (a b : Word) (room : Int) (fill : Byte)
    (go : Byte → Word → Bool),
    let p := s.top 2
    let indexed := fun i : Word => s.access (some i) false
    let code : Int := s.PB.toNat + (pointerOffset p).toNat + x.toInt
    let next := fun v : State => .ok (true, v.putX (if d then v.X - 1#32 else v.X + 1#32))
    let c := t.byte a.toNat
    let w := t.top 1
    let seen := t.putTop 1 (c.setWidth 32 <<< 24 ||| (c ^^^ field w 16 8).setWidth 32 <<< 16 ||| (w &&& 0xFFFF#32))
    let far : Int := p.toNat + s.X.toInt
    let near : Int := (s.top 1).toNat + s.X.toInt
    let reached := fun (base : Word) (n : Int) => base.toNat < 2 ^ 29 ∧ 0 ≤ n ∧ s.freeByte (wordOf n) = true ∧
      s.offStack (wordOf n) = true ∧ n < 2 ^ 29
    (s.hasStack 3 0 = true →
      (evalDsp p (indexed x) 0 s = .ok (l, t) → sourceAt true x s = .ok ((l.addr, l.room), t)) ∧
      (evalDsp p (indexed x) 0 s = .error e → sourceAt true x s = .error e) ∧
      (if bit p 0 = true then sourceAt false x s = .error (.trap .unexpectedPointerType none s)
        else if code < s.PB.toNat ∨ (s.PL.toNat : Int) + 3 < code then
          sourceAt false x s = .error (.trap .boundsViolation none s)
        else code < 2 ^ 29 → sourceAt false x s = .ok ((wordOf code, s.PL.toNat + 3 - code), s)) ∧
      (sourceAt data s.X s = .ok ((a, room), t) → srcAddr data s = .ok (a, t)) ∧
      (sourceAt data s.X s = .error e → srcAddr data s = .error e) ∧
      (evalDsp (s.top 1) (s.access (some s.X) modmem) 0 s = .ok (l, t) →
        targetAt modmem s = .ok ((s.top 1, l.addr), t) ∧ tgtAddr modmem s = .ok (l.addr, t)) ∧
      (evalDsp (s.top 1) (s.access (some s.X) modmem) 0 s = .error e →
        targetAt modmem s = .error e ∧ tgtAddr modmem s = .error e) ∧
      (reached p far → reached (s.top 1) near →
        moveAbsolute d s = next (s.putByte (wordOf near) (s.byte (wordOf far).toNat)))) ∧
    (srcAddr data s = .ok (a, t) → tgtAddr true t = .ok (b, u) → u.freeByte a = true → u.freeByte b = true →
      moveByte d data s = next (u.putByte b (u.byte a.toNat))) ∧
    (srcAddr data s = .ok (a, t) → t.freeByte a = true → t.hasStack 2 0 = true →
      scanByte d data go s = if go c w then next seen else .ok (false, seen)) ∧
    (srcAddr data s = .ok (a, t) → tgtAddr false t = .ok (b, u) → u.freeByte a = true → u.freeByte b = true →
      compareByte d data s = if u.byte a.toNat = u.byte b.toNat then next u
        else .ok (false, u.setCC (if (u.byte b.toNat).toNat < (u.byte a.toNat).toNat then 0b00#2 else 0b01#2))) ∧
    (tgtAddr true s = .ok (a, t) → t.freeByte a = true →
      (c.toNat ≤ room → t.freeByte (b + c.setWidth 32) = true →
        translateByte d (b, room) s = next (t.putByte a (t.byte (b + c.setWidth 32).toNat))) ∧
      (d = false → fillByte fill s = next (t.putByte a fill)))) ∧
  (∀ (s t u v : State) (body : M Bool) (n k : Nat) (b : Bool) (e : Stop) (q : Poll) (m : Move) (rest : List Move),
    let loop := iterate body (n + 1) k s
    let quiet := pollBefore k s = .ok (.quiet, t)
    let unmasked := t.MSG &&& ~~~ t.MASK
    let pending := t.interruptEnable = true ∧ unmasked &&& 0xE3FFFFFF#32 ≠ 0#32
    let left := s.setPending true
    let bits := s.MSG &&& ~~~ s.MASK &&& 0xE3FF0000#32
    let levels := s.MSG &&& ~~~ s.MASK &&& 0x0000FFFF#32
    let told := { left with MSG := s.MSG &&& ~~~ bits }
    let leaves := fun (z : State) => suspend s = .ok ({ stay := true }, z)
    let tests : M Unit := postEntryTests postEntryFuel false
    iterate body 0 k s = .ok (.counted, s) ∧
    (pollBefore k s = .ok (.interrupt, t) → loop = .ok (.suspended, t)) ∧
    (pollBefore k s = .ok (.reset, t) → loop = .ok (.aborted, t)) ∧
    (quiet → body t = .ok (true, u) → loop = iterate body n (k + 1) u) ∧
    (quiet → body t = .ok (false, u) → loop = .ok (.stopped, u)) ∧
    (quiet → body t = .error e → loop = .error e) ∧
    (s.poll = none ∨ k = 0 → pollBefore k s = .ok (.quiet, s)) ∧
    (s.poll = some q → q.iteration ≠ k → pollBefore k s = .ok (.quiet, s)) ∧
    (s.poll = some q → q.iteration = k → 0 < k → deliverAll q.moves { s with poll := none } = .ok (b, t) →
      pollBefore k s = .ok (if b = true then .reset else if pending then .interrupt else .quiet, t)) ∧
    deliverAll [] s = .ok (false, s) ∧
    (deliver m s = .ok ((), t) → deliverAll (m :: rest) s = if m = .reset then .ok (true, t) else deliverAll rest t) ∧
    (bits ≠ 0#32 → icsTrapEntry .message (some bits) s.P told = .ok ((), t) →
      (levels = 0#32 → tests t = .ok ((), u) → leaves u) ∧
      (levels ≠ 0#32 → interruptEntry t.P t = .ok (b, u) → tests u = .ok ((), v) → leaves v)) ∧
    (bits = 0#32 → levels ≠ 0#32 →
      (interruptEntry s.P left = .ok (true, t) → tests t = .ok ((), u) → leaves u) ∧
      (interruptEntry s.P left = .ok (false, t) → leaves t)))

/-- R502, R506, R507: PMVA moves between absolute addresses outside the active stack (U7, log entry 18), TRAN replaces
each byte by its entry in a table, FILB stores one byte throughout and evaluates nothing for a count that is not
positive. R502, R506, R507, R626: the loops of PMVA, TRAN and FILB, begun or resumed, over areas of any kind; FILB
evaluates its area only when bytes are left. That the words to pop are tested after the areas are evaluated, by PMVA
first, and before any byte is written is log entry 36; that PMVA looks at its addresses only where there is a byte to
move is log entry 52; that the bytes are counted once is log entry 55. -/
def Obligations.AbsoluteMoveTranslateAndFill : Prop :=
  (∀ (s : State) (d data : Bool) (sdec : BitVec 2),
    let n := (s.top 0).toInt.toNat
    let src := fun k : Nat => s.top 2 + wordOf (stepBy d k)
    let tgt := fun k : Nat => s.top 1 + wordOf (stepBy d k)
    let table := s.areaAt (!data) (s.top 2) false 0
    let out := s.areaByte false (s.top 1) d
    let up := s.areaByte false (s.top 1) false
    let translate : Nat → Memory := Nat.rec s.mem fun k m =>
      m.write (out k) (m.read (wordOf (table + (m.read (out k)).toNat)).toNat)
    let fill : Nat → Memory := Nat.rec s.mem fun k m => m.write (up k) (field (s.top 2) 24 8)
    s.fresh = true → s.canPop sdec.toNat = true →
    (s.privileged = true →
      (0 < n → (s.top 2).toNat < 2 ^ 29 ∧ (s.top 1).toNat < 2 ^ 29) →
      (∀ k < n, s.freeByte (src k) = true ∧ s.offStack (src k) = true ∧ s.freeByte (tgt k) = true ∧
        s.offStack (tgt k) = true) →
      CompletesAs (.pmva d sdec) s
        (({ s with mem := copied s.mem (fun k => (src k).toNat) (fun k => (tgt k).toNat) n }).moved d sdec.toNat n)) ∧
    (s.areaIn (!data) (s.top 2) false 256 → s.areaIn false (s.top 1) d n →
      CompletesMoved (.tran d data sdec) s (({ s with mem := translate n }).moved d sdec.toNat n) (s.top 1) false) ∧
    (0 < (s.top 0).toInt → s.areaIn false (s.top 1) false n →
      CompletesMoved (.filb sdec) s (({ s with mem := fill n }).moved false sdec.toNat n) (s.top 1) false) ∧
    ((s.top 0).toInt ≤ 0 →
      CompletesAs (.filb sdec) s (((s.putX 0#32).popped sdec.toNat).setPending false))) ∧
  (∀ (s : State) (d data : Bool) (sdec : BitVec 2),
    let n := sdec.toNat
    s.hasStack 3 0 = true →
    (s.privileged = true →
      LoopsFrom (.pmva d sdec) s s d n (pure ()) (fun _ => moveAbsolute d) fun _ _ u =>
        u.hasStack 1 0 = true → CompletesAs (.pmva d sdec) s (u.ended d n)) ∧
    LoopsFrom (.tran d data sdec) s s d n (do
        let table ← sourceAt data 0#32
        let target ← targetAt true
        pure (table, target.1)) (fun r => translateByte d r.1) (fun r _ u =>
      u.hasStack 1 0 = true → CompletesMoved (.tran d data sdec) s (u.ended d n) r.2 false) ∧
    (0 < (s.top 0).toInt → LoopsFrom (.filb sdec) s s false n (do
        let left ← remaining false
        if 0 < left then do
          let _ ← tgtAddr true) (fun _ => fillByte (field (s.top 2) 24 8)) fun _ _ u =>
      u.hasStack 1 0 = true → CompletesMoved (.filb sdec) s (u.ended false n) (s.top 1) false))

/-- R503 to R505: SCW goes on while the byte is the test byte, SCU until it is one of two, and both leave the last byte
read and its exclusive or with the third byte in the second word; CMPB stops at the first difference and sets CC by
it. R503 to R505, R626: the loops of SCW, SCU and CMPB, begun or resumed, over areas of any kind: a scan sets CC by
the last byte read, CMPB CCE when all pairs are equal. That the words to pop are tested after the areas are evaluated
and before the loop is log entry 36; that the bytes are counted once is log entry 55. -/
def Obligations.ScansAndComparesStopAtTheFirstByte : Prop :=
  (∀ (s : State) (d data : Bool) (sdec : BitVec 2) (j : Nat),
    let n := (s.top 0).toInt.toNat
    let w := s.top 1
    let src := fun k : Nat => s.byte (s.areaByte (!data) (s.top 2) d k)
    let tgt := fun k : Nat => s.byte (s.areaByte false (s.top 1) d k)
    let last := if j < n then j else n - 1
    let seen := if n = 0 then s else
      (s.putTop 1 ((src last).setWidth 32 <<< 24 ||| (src last ^^^ field w 16 8).setWidth 32 <<< 16 |||
        (w &&& 0xFFFF#32))).setCC (ccByte (src last))
    let stopsAt := fun go : Nat → Bool => j ≤ n ∧ (∀ k < j, go k = true) ∧ (j < n → go j = false)
    s.fresh = true → s.canPop sdec.toNat = true → s.mem.wf = true → s.areaIn (!data) (s.top 2) d n →
    (stopsAt (fun k => src k == field w 24 8) → CompletesAs (.scw d data sdec) s (seen.moved d sdec.toNat j)) ∧
    (stopsAt (fun k => src k != field w 24 8 && src k != field w 16 8) →
      CompletesAs (.scu d data sdec) s (seen.moved d sdec.toNat j)) ∧
    (s.areaIn false (s.top 1) d n → stopsAt (fun k => src k == tgt k) →
      CompletesAs (.cmpb d data sdec) s
        ((s.setCC (if j = n then 0b10#2 else if (tgt j).toNat < (src j).toNat then 0b00#2 else 0b01#2)).moved d
          sdec.toNat j))) ∧
  (∀ (s : State) (d data : Bool) (sdec : BitVec 2),
    let n := sdec.toNat
    let scan := fun (i : Instr) (go : Byte → Word → Bool) =>
      LoopsFrom i s s d n (srcAddr data) (fun _ => scanByte d data go) fun _ _ u => u.hasStack 2 0 = true →
        CompletesAs i s ((if 0 < (s.top 0).toInt then u.setCC (ccByte (field (u.top 1) 0 8)) else u).ended d n)
    s.hasStack 3 0 = true →
    scan (.scw d data sdec) (fun b w => b == field w 24 8) ∧
    scan (.scu d data sdec) (fun b w => b != field w 24 8 && b != field w 16 8) ∧
    LoopsFrom (.cmpb d data sdec) s s d n (do
        let _ ← srcAddr data
        tgtAddr false) (fun _ => compareByte d data) fun _ counted u =>
      u.hasStack 1 0 = true → CompletesAs (.cmpb d data sdec) s ((if counted then u.setCC 0b10#2 else u).ended d n))

/-- R510, R511: SVAL aligns the pointer of its descriptor in the stack, traps with the number of the first check that
fails, and else leaves the descriptor, its length replaced by the actual one when asked. Pointers of any kind are
evaluated, those of a data segment by EvalDSP, and a trap of the evaluation is taken with the pointer aligned; a
program pointer must be a local one into the code segment. -/
def Obligations.StringValidation : Prop :=
  (∀ (s : State) (negLen retLen data : Bool),
    let p := wordAlign (s.top 2)
    let t := s.putTop 2 p
    let a := s.areaAt (!data) p false 0
    let cur := (t.word (wordOf a)).toInt
    let o : StringOperand := { maxLen := (s.top 3).toInt, ptr := p, first := (s.top 1).toInt, len := (s.top 0).toInt,
                               adr := wordOf a, curLen := cur, narrow := false }
    let rest := cur - o.first + 1
    let actual := if o.len < 0 ∨ rest < o.len then rest else o.len
    s.hasStack 4 0 = true → field s.S 30 2 = 3#2 → s.areaIn (!data) p false 0 → s.hasWord (wordOf a) = true →
    match o.error negLen with
    | some e => exec (.sval negLen retLen data) s = conclude s (takeTrap .string (some (s.stringParam false e))) t
    | none => CompletesAs (.sval negLen retLen data) s (if retLen then t.putTop 0 (wordOf actual) else t)
  ) ∧
  (∀ (s u : State) (negLen retLen data : Bool) (l : Located) (tr : Trap) (q : Option Word),
    let p := wordAlign (s.top 2)
    let t := s.putTop 2 p
    let code : Int := s.PB.toNat + (pointerOffset p).toNat
    let i := Instr.sval negLen retLen data
    let ends := fun (v : State) (tr : Trap) (q : Option Word) => exec i s = conclude s (takeTrap tr q) v
    let found := fun (v : State) (adr : Word) =>
      let o : StringOperand := { maxLen := (s.top 3).toInt, ptr := p, first := (s.top 1).toInt, len := (s.top 0).toInt,
                                 adr := adr, curLen := (v.word adr).toInt, narrow := false }
      match o.error negLen with
      | some e => ends v .string (some (v.stringParam false e))
      | none => CompletesAs i s (if retLen then v.putTop 0 (wordOf o.bytes) else v)
    s.mem.wf = true → s.hasStack 4 0 = true → field s.S 30 2 = 3#2 →
    (data = true →
      (evalDsp p (t.access none false) 0 t = .error (.trap tr q u) → ends u tr q) ∧
      (evalDsp p (t.access none false) 0 t = .ok (l, u) → u.hasStack 1 0 = true → u.hasWord l.addr = true →
        found u l.addr)) ∧
    (data = false →
      if bit p 0 = true then ends t .unexpectedPointerType none
      else if code < s.PB.toNat ∨ (s.PL.toNat : Int) + 3 < code then ends t .boundsViolation none
      else s.hasAddr code = true → found t (wordOf code)))

/-- R512 to R514: SLD and SCON build a string temp on the stack and SAS writes the target's current length, each then
pushing the three words of a move and moving the bytes as MVB does; with nothing to fill, SAS pushes a free word as
the fill target (log entry 15). Before they write, they take the trap of an operand, of a pointer (String Trap 8), of
a target that is not a temp in this frame, or of a stack too small. R510 (i): begun with STATUS.P = 1, each is the MVB
it was suspended in, SAS in the direction that CC holds, where CC = 11 is forward (log entry 51). R510 (b) to (g), R513:
the operands of a string instruction.
The source's descriptor is the top four words, its pointer aligned in the stack before any check; the target's lies
below it, or 16 bytes below the source temp and then no lower than Q and no higher than S-28; its pointer is always a
data segment pointer. The current length is read at the pointer's address, and the first check that fails is a String
Trap with the operand's bit and the number of the check. R513: what SAS computes before it writes: the target's new
current length and the number of bytes moved; backward from the last byte when both operands are one string and the
target begins later; the pointers of the move and of the fill. Error 9 is a target that would grow beyond its maximum
length, error 8 a pointer whose leading bits change; the words to pop are tested last (log entry 36). The bytes of the
move are counted once, where it begins or resumes (log entry 55). -/
def Obligations.StringInstructionsEndInAMove : Prop :=
  (∀ (s t u : State) (negLen fill data tNegLen srcTemp : Bool) (o g : StringOperand) (p : AssignPlan),
    let pushMove := fun (v : State) (src tgt : Word) (len : Int) => ((v.pushed src).pushed tgt).pushed (wordOf len)
    let temp := fun (v : State) (adr : Word) (words len : Int) (ptr first : Word) =>
      (((((v.putWord adr (wordOf len)).putTop 4 (wordOf words)).putTop 3 (wordOf len)).putTop 2 ptr).putTop 1
        first).putTop 0 0xFFFFFFFF#32
    let room := fun (v : State) (a : Word) (k : Nat) => v.hasWord a = true ∧ v.hasStack 5 k = true
    let len := o.bytes
    let load := Instr.sld negLen data
    let assign := Instr.sas negLen fill data tNegLen srcTemp
    let join := Instr.scon negLen data tNegLen srcTemp
    let ends := fun (i : Instr) (tr : Trap) (q : Option Word) => exec i s = conclude s (takeTrap tr q) t
    let wrong := fun (i : Instr) (target : Bool) => ends i .string (some (t.stringParam target 8))
    let moves := fun (i : Instr) (w : State) (d always : Bool) => MovesFrom i s w d data 3 always ∧
      (MoveResult w d (!data) 3 u → CompletesMoved i s u (w.top 1) always)
    (s.pending = true →
      exec load s = exec (.mvb false data 3#2) s ∧ exec join s = exec (.mvb false data 3#2) s ∧
      exec assign s = exec (.mvb (s.cc == 0b01#2) data 3#2) s) ∧
    (s.pending = false →
      (∀ tr q, sourceOperand data negLen s = .error (.trap tr q t) → ends load tr q ∧ ends join tr q) ∧
      (sourceOperand data negLen s = .ok (o, t) → ¬ o.fits (o.first + 3) → wrong load false) ∧
      (sourceOperand data negLen s = .ok (o, t) → o.fits (o.first + 3) →
        let adr := s.S - 15#32
        let newS : Int := adr.toNat + 4 * ((len + 3) / 4 + 1) + 19
        let v := { t with S := wordOf newS }
        let w := pushMove (temp v adr ((len + 3) / 4 + 1) len (0xC0000000#32 ||| (adr - s.SB)) 1#32)
          (o.ptr + wordOf (o.first + 3)) (0xC0000000#32 ||| (adr + 4#32 - s.SB)) len
        (s.SL.toNat < newS → ends load .stackOverflow none) ∧
        (newS ≤ s.SL.toNat → room v adr 3 → moves load w false false)) ∧
      (planAssign negLen fill data tNegLen srcTemp s = .ok (p, t) →
        let v := (t.setCC (if p.backward then 0b01#2 else 0b00#2)).popped (if srcTemp then 4 else 8)
        let drawn := { v with freeCtr := v.freeCtr + (if p.fill.isSome then 0 else 1) }
        let v' := if fill then
            ((drawn.pushed 32#32).pushed (p.fill.getD (Config.freeWord t.freeCtr))).pushed (wordOf p.fillLen) else v
        let w := pushMove (v'.putWord p.target (wordOf p.curLen)) p.src p.tgt p.moveLen
        room v p.target 6 → moves assign w p.backward (decide (s.cfg.rev = .fixed) || !p.sourceEmpty)) ∧
      (∀ t' tr q, sourceOperand data negLen s = .ok (o, t') →
        targetOperand o srcTemp tNegLen t' = .error (.trap tr q t) → ends join tr q) ∧
      (∀ t', sourceOperand data negLen s = .ok (o, t') → targetOperand o srcTemp tNegLen t' = .ok (g, t) →
        let cur := if 0 ≤ g.len then min g.curLen (g.first + g.len - 1) else g.curLen
        let words := (cur + len + 3) / 4 + 1
        let newS : Int := g.adr.toNat + 4 * words + 19
        let keep := decide (newS < s.S.toNat)
        let v := if keep then t else { t with S := wordOf newS }
        let w := pushMove (temp v g.adr (if keep then ((s.S.toNat : Int) - g.adr.toNat - 19) / 4 else words) (cur + len)
          g.ptr (wordOf g.first)) (o.ptr + wordOf (o.first + 3)) (g.ptr + wordOf (cur + 4)) len
        (g.adr.toNat < s.Q.toNat ∨ s.S.toNat < g.adr.toNat + 16 → ends join .boundsViolation none) ∧
        (s.Q.toNat ≤ g.adr.toNat → g.adr.toNat + 16 ≤ s.S.toNat →
          (¬ o.fits (o.first + 3) → wrong join false) ∧
          (o.fits (o.first + 3) → ¬ g.fits (cur + 4) → wrong join true) ∧
          (o.fits (o.first + 3) → g.fits (cur + 4) →
            (keep = false → s.SL.toNat < newS → ends join .stackOverflow none) ∧
            (keep = true ∨ newS ≤ s.SL.toNat → room v g.adr 3 → moves join w false false)))))) ∧
  (∀ (s t : State) (negLen data srcTemp : Bool) (l : Located) (e : Stop) (o : StringOperand),
    let p := wordAlign (s.top 2)
    let a := s.putTop 2 p
    let code : Int := s.PB.toNat + (pointerOffset p).toNat
    let spot : Int := if srcTemp then (o.adr.toNat : Int) - 16 else (s.S.toNat : Int) - 28
    let word := fun k : Nat => s.word (wordOf spot + BitVec.ofNat 32 (4 * k))
    let q := wordAlign (word 1)
    let operand := fun (u : State) (max ptr first len adr : Word) (narrow : Bool) =>
      { maxLen := max.toInt, ptr := ptr, first := first.toInt, len := len.toInt, adr := adr,
        curLen := (u.word adr).toInt, narrow := narrow : StringOperand }
    let valid := fun (m : M StringOperand) (v u : State) (o : StringOperand) (negOk target : Bool) =>
      match o.error negOk with
      | none => m v = .ok (o, u)
      | some n => m v = .error (.trap .string (some (u.stringParam target n)) u)
    let source := sourceOperand data negLen
    let external := fun l : Located => !bit l.ptr 0 && !l.paged
    s.mem.wf = true →
    (s.hasStack 4 0 = true → field s.S 30 2 = 3#2 →
      (data = true → evalDsp p (a.access none false) 0 a = .error e → source s = .error e) ∧
      (data = true → evalDsp p (a.access none false) 0 a = .ok (l, t) → t.hasWord l.addr = true →
        valid source s t (operand t (s.top 3) p (s.top 1) (s.top 0) l.addr (external l)) negLen false) ∧
      (data = false → if bit p 0 = true then source s = .error (.trap .unexpectedPointerType none a)
        else if code < s.PB.toNat ∨ (s.PL.toNat : Int) + 3 < code then source s = .error (.trap .boundsViolation none a)
        else s.hasAddr code = true →
          valid source s a (operand a (s.top 3) p (s.top 1) (s.top 0) (wordOf code) false) negLen false)) ∧
    (srcTemp = true → (spot < s.Q.toNat ∨ (s.S.toNat : Int) - 28 < spot) →
      targetOperand o srcTemp negLen s = .error (.trap .boundsViolation none s)) ∧
    ((srcTemp = true → (s.Q.toNat : Int) ≤ spot ∧ spot ≤ (s.S.toNat : Int) - 28) →
      (∀ k < 4, s.hasWord (wordOf spot + BitVec.ofNat 32 (4 * k)) = true) →
      (evalDsp q (s.access none true) 0 s = .error e → targetOperand o srcTemp negLen s = .error e) ∧
      (evalDsp q (s.access none true) 0 s = .ok (l, t) → t.hasWord l.addr = true →
        valid (targetOperand o srcTemp negLen) s t (operand t (word 0) q (word 2) (word 3) l.addr (external l)) negLen
          true))) ∧
  (∀ (s t t' u : State) (negLen fill data tNegLen srcTemp : Bool) (o g : StringOperand) (e : Stop),
    let plan := planAssign negLen fill data tNegLen srcTemp s
    let grown := g.first + o.bytes - 1
    let current := if g.len < 0 then grown else max g.curLen (g.first + g.len - 1)
    let count := if g.len < 0 then o.bytes else min o.bytes g.len
    let back := decide (g.adr = o.adr) && decide (o.first < g.first)
    let skip := if back then count + 2 else 3
    let fills := fill && decide (count < g.len)
    let wrong := fun (target : Bool) (n : Nat) => plan = .error (.trap .string (some (t.stringParam target n)) t)
    (sourceOperand data negLen s = .error e → plan = .error e) ∧
    (sourceOperand data negLen s = .ok (o, t') → targetOperand o srcTemp tNegLen t' = .error e → plan = .error e) ∧
    (sourceOperand data negLen s = .ok (o, t') → targetOperand o srcTemp tNegLen t' = .ok (g, t) →
      (g.len < 0 ∧ g.maxLen < grown → wrong true 9) ∧
      (¬ (g.len < 0 ∧ g.maxLen < grown) →
        (¬ o.fits (o.first + skip) → wrong false 8) ∧
        (o.fits (o.first + skip) →
          (¬ g.fits (g.first + skip) → wrong true 8) ∧
          (g.fits (g.first + skip) →
            (fills = true → ¬ g.fits (g.first + count + 3) → wrong true 8) ∧
            ((fills = true → g.fits (g.first + count + 3)) →
              if t.canPop (if srcTemp then 4 else 8) = false then plan = .error (.trap .stackUnderflow none t)
              else plan = .ok ({
                backward := back, src := o.ptr + wordOf (o.first + skip), tgt := g.ptr + wordOf (g.first + skip),
                moveLen := count, curLen := current,
                fill := if fills then some (g.ptr + wordOf (g.first + count + 3)) else none,
                fillLen := if fills then g.len - count else 0, target := g.adr,
                sourceEmpty := decide (o.curLen = 0) }, t)))))) ∧
    (s.pending = false → ∀ tr q, plan = .error (.trap tr q u) →
      exec (.sas negLen fill data tNegLen srcTemp) s = conclude s (takeTrap tr q) u))

/-! ## Registers, I/O and special instructions -/

/-- R283, R531 to R533: PSHR and PMPB push the registers selected, from the right-most select bit on; INT writes I; SMPB
pops the channel number, the MSG bits to clear and the new MASK, of which the channel number is kept. R284: SETR pops
FLAGS, BRKPT, DST, STATUS, Q and reads S, as selected, Q and S relative to SB; an unprivileged SETR may name neither
BRKPT, DST nor S and keeps the protected bits; SB < Q < S < SL must hold for a new Q or S, which are else put back
before the InconsistentRegisters trap with the parameter CIR (R600). -/
def Obligations.RegisterPushesAndSetRegisters : Prop :=
  (∀ (s : State) (block : Bool) (sel : BitVec 6) (m : BitVec 3),
    let all := [s.P, s.PB, s.PL, s.DB, s.DL, s.SB, s.SL]
    let first := s.cfg.pshrBlockFirst
    let S' := if block && first then s.S + 28#32 else s.S
    let pick := fun (c : Bool) (v : Word) => if c then [v] else []
    let chosen := pick (bit sel 5) (S' - s.SB) ++ pick (bit sel 4) (s.Q - s.SB) ++ pick (bit sel 3) s.STATUS ++
      pick (bit sel 2) s.DST ++ pick (bit sel 1) s.BRKPT ++ pick (bit sel 0) (s.FLAGS.setWidth 32)
    let whole := if block then all else []
    let channel : Word := (field s.MASK 3 3).setWidth 32
    let n0 := (bit m 0).toNat
    let n1 := n0 + (bit m 1).toNat
    let n2 := n1 + (bit m 2).toNat
    let newChannel := if bit m 0 then field (s.top 0) 29 3 else field s.MASK 3 3
    OnStack (.pshr block sel) s 0 13 0 ((if first then whole ++ chosen else chosen ++ whole).foldl State.pushed s) ∧
    OnStack (.pmpb m) s 0 3 0
      ((pick (bit m 2) s.MASK ++ pick (bit m 1) s.MSG ++ pick (bit m 0) channel).foldl State.pushed s) ∧
    (s.privileged = true → CompletesAs (.int true) s (s.setI true) ∧ CompletesAs (.int false) s (s.setI false)) ∧
    (s.privileged = true → (bit m 0 = true → field (s.top 0) 29 3 ≠ 0#3) →
      s.hasStack 3 0 = true → if s.canPop n2 = false then Raises (.smpb m) s .stackUnderflow none
      else CompletesAs (.smpb m) s { s.popped n2 with
        MASK := setField (if bit m 2 then s.top n1 else s.MASK) 3 3 newChannel,
        MSG := if bit m 1 then s.MSG &&& ~~~ s.top n0 else s.MSG })) ∧
  (∀ (s : State) (sel : BitVec 6),
    let k := fun j : Nat => (List.range j).countP fun m => bit sel m
    let v := fun j : Nat => s.top (k j)
    let mask : Word := if s.privileged then 0xFFBFE000#32 else 0xFFB8C000#32
    let flags := field (v 0) 24 8
    let u := { s with
      FLAGS := if bit sel 0 then (if s.privileged then flags else (s.FLAGS &&& 0x55#8) ||| (flags &&& 0xAA#8)) else s.FLAGS,
      BRKPT := if bit sel 1 then v 1 else s.BRKPT,
      DST := if bit sel 2 then v 2 else s.DST,
      STATUS := if bit sel 3 then (v 3 &&& mask) ||| (s.STATUS &&& ~~~ mask) else s.STATUS }
    let q := if bit sel 4 then v 4 + s.SB else s.Q
    let top := if bit sel 5 then v 5 + s.SB else s.S - BitVec.ofNat 32 (4 * k 5)
    let orderly := decide (s.SB.toNat < q.toNat) && decide (q.toNat < top.toNat) && decide (top.toNat < s.SL.toNat)
    (s.privileged = false → (bit sel 1 || bit sel 2 || bit sel 5) = true → Raises (.setr sel) s .privilegedMode (some 1#32)) ∧
    (s.privileged = true ∨ (bit sel 1 || bit sel 2 || bit sel 5) = false → s.hasStack 6 0 = true →
      if s.canPop (k 5) = false then Raises (.setr sel) s .stackUnderflow none
      else if bit sel 4 = false ∧ bit sel 5 = false ∨ orderly = true then
        CompletesAs (.setr sel) s { u with Q := q, S := top }
      else exec (.setr sel) s = conclude s (takeTrap .inconsistentRegisters (some s.CIR)) u))

/-- R285: XGDS makes the unpaged data segment named by the top word the global one: its tests in order, a failure
leaving the state as it was; else DB and DL, the new use count up, the task's word, the old segment's number in the
pointer, and the old use count down. Until the first count is written the new entry is owned, and its first word reads
-1. That a paged entry is refused before the other tests is log entry 45. -/
def Obligations.ExchangeGlobalDataSegment : Prop :=
  ∀ s : State,
    let p := s.top 0
    let n := field p 1 12
    let table := fun m : BitVec 12 => if bit m 0 then s.DST else 0o2200#32
    let index := fun m : BitVec 12 => 16 * (field m 1 11).toNat
    let entry := fun m : BitVec 12 => table m + BitVec.ofNat 32 (index m)
    let e0 := s.word (entry n)
    let q := s.taken (entry n)
    let own := (field s.MASK 3 3).setWidth 32 * 16#32 + 4#32
    let task := q.word own + 8#32
    let segs := q.word task
    let old := field segs 20 12
    let same := wordAlign (entry old) = wordAlign (entry n)
    let o0 := q.word (entry old)
    let loc := q.word (entry n + 8#32)
    let last := loc.toNat + (q.word (entry n + 4#32)).toNat
    let t := ((s.putWord (entry n) (setField e0 1 12 (useCount e0 + 1#12))).putWord task (setField segs 20 12 n)).putTop 0
      (setField p 1 12 old)
    let c := t.word (entry old)
    let fails := fun (tr : Trap) (param : Option Word) => Raises .xgds s tr param
    s.mem.wf = true → s.hasStack 1 0 = true → s.hasWord (table n) = true →
    if field n 1 11 = 0#11 then fails .edsPointerViolation none
    else if (s.word (table n)).toNat < index n then fails .dstViolation none
    else (table n).toNat + index n < 2 ^ 29 → (∀ k < 3, s.hasWord (entry n + BitVec.ofNat 32 (4 * k)) = true) →
      bit e0 0 = false →
      if bit e0 26 = true then exec .xgds s = .refused .pagedGlobalSegment
      else if bit e0 27 = false then fails .dataSegmentWrite none
      else if bit e0 30 = true ∧ s.privileged = false then fails .privilegedModeData none
      else if bit e0 31 = true then fails .absentDataSegment (some (n.setWidth 32))
      else if useCount e0 = 4095#12 then fails .systemError (some 1#32)
      else s.hasWord own = true → (q.word own).toNat + 8 < 2 ^ 29 → s.hasWord task = true →
        s.hasWord (table old) = true →
        if field old 1 11 = 0#11 then fails .edsPointerViolation none
        else if (q.word (table old)).toNat < index old then fails .dstViolation none
        else (table old).toNat + index old < 2 ^ 29 → s.hasWord (entry old) = true → (¬ same → bit o0 0 = false) →
          if ¬ same ∧ useCount o0 = 0#12 then fails .systemError (some 1#32)
          else last < 2 ^ 29 → bit c 0 = false →
            CompletesAs .xgds s { t.putWord (entry old) (setField c 1 12 (useCount c - 1#12)) with
              DB := loc, DL := BitVec.ofNat 32 last }

/-- R530 to R536, R540, R545, R577 to R583: the I/O and channel instructions send one request each, pop their parameters
and deliver the answer; errors end IOW, IOR, IOC and SMSG in SystemError and go to MSG and CC in RFC and WTC. Requests
carry the address mode (R724), that of IOR the mode before it (log entry 32). The answer where the environment has
none ready is log entry 9, and the data word of RFC after an error, a free value, is log entry 14: both are the
model's choices; so is that an IOR which traps after its request stays in primary mode (log entry 53). The words to pop
are tested before a request is sent. R578: a CPU that waits in WTC goes on waiting while MSG bit 12 is 0; when it is 1,
the bit is cleared, CC becomes CCE, two words are popped and the instruction completes. That a waiting CPU makes steps,
before which the table entries it owns are given back, is the model's choice (log entries 10 and 21). -/
def Obligations.ChannelAndMessageInstructions : Prop :=
  (∀ (s : State) (n : BitVec 8) (b3 : Bool),
    let a := s.top 0
    let b := s.top 1
    let r := s.reply
    let device := fun w : Word => (field w 26 3, field w 29 3, field w 22 4)
    let iow := MpbRequest.write (device b).1 (device b).2.1 (device b).2.2 n a s.secondary
    let ior := MpbRequest.read (device a).1 (device a).2.1 (device a).2.2 n s.X s.secondary
    let ioc := MpbRequest.control (device a).1 (device a).2.1 (device a).2.2 n s.secondary
    let smsg := MpbRequest.message (field a 3 29) b3 s.secondary
    let rfc := MpbRequest.channelRead (field a 3 29) b3
    let wtc := MpbRequest.channelWrite (field b 3 29) a b3
    let primary := { s with secondary := false }
    let cc := if r.addrErr && r.dataErr then 0b01#2 else if r.addrErr || r.dataErr then 0b00#2 else 0b10#2
    let got := (s.asked rfc).noted r
    let sent := (s.asked wtc).noted r
    s.privileged = true →
    (s.mpbReady = false → ∀ i ∈ [Instr.iow n, .ior n, .ioc n, .rfc b3, .wtc b3, .smsg b3],
      Raises i s .systemError (some 2#32)) ∧
    (s.mpbReady = true → s.hasStack 2 0 = true →
      (s.canPop 2 = false → ∀ i ∈ [Instr.iow n, .wtc b3], Raises i s .stackUnderflow none) ∧
      (s.canPop 1 = false → ∀ i ∈ [Instr.ior n, .ioc n, .smsg b3], Raises i s .stackUnderflow none)) ∧
    (s.mpbReady = true → s.hasStack 1 1 = true →
      (r.addrErr = false → r.dataErr = false → CompletesAs (.rfc b3) s ((got.pushed r.data).setCC 0b10#2)) ∧
      (r.addrErr = true ∨ r.dataErr = true → CompletesAs (.rfc b3) s
        (({ got with freeCtr := got.freeCtr + 1 }.pushed (Config.freeWord got.freeCtr)).setCC cc))) ∧
    (s.mpbReady = true → s.hasStack 1 0 = true → s.canPop 1 = true →
      (field a 0 22 = 0#22 → SendsAs (.ioc n) s s ioc ((s.asked ioc).popped 1)) ∧
      (field a 0 22 = 0#22 → r.timeout = false →
        SendsAs (.ior n) s primary ior ((primary.asked ior).putTop 0 r.data)) ∧
      (field a 0 22 = 0#22 → r.timeout = true → exec (.ior n) s =
        conclude s (takeTrap .systemError (some 3#32)) ((primary.asked ior).setPending false)) ∧
      SendsAs (.smsg b3) s s smsg ((s.asked smsg).popped 1)) ∧
    (s.mpbReady = true → s.hasStack 2 0 = true → s.canPop 2 = true →
      (field b 0 22 = 0#22 → SendsAs (.iow n) s s iow ((s.asked iow).popped 2)) ∧
      (bit b 0 = false ∨ r.addrErr = true ∨ r.dataErr = true → CompletesAs (.wtc b3) s ((sent.setCC cc).popped 2)) ∧
      (bit b 0 = true → r.addrErr = false → r.dataErr = false → bit s.MSG 12 = true → s.run = .running →
        CompletesAs (.wtc b3) s (({ sent with MSG := s.MSG &&& 0xFFF7FFFF#32 }.setCC 0b10#2).popped 2)) ∧
      (bit b 0 = true → r.addrErr = false → r.dataErr = false → bit s.MSG 12 = false →
        exec (.wtc b3) s = .next { sent with run := .channelWait, prevDup := false })) ∧
    (s.hasStack 0 2 = true → bit s.MSG 6 = false → CompletesAs .rsc s ((s.pushed s.SAR).pushed s.SDR)) ∧
    CompletesAs (.alm b3) s { s with lockout := b3 }) ∧
  (∀ s : State,
    let waiting := { s with run := .channelWait }
    let r := waiting.regained
    let u := ({ r with MSG := s.MSG &&& 0xFFF7FFFF#32, run := .running }.setCC 0b10#2).popped 2
    let t := { u with P := s.P + 2#32, prevDup := false }
    (s.owned = [] → r = waiting) ∧
    (bit s.MSG 12 = false → cpuStep waiting = .next r) ∧
    (bit s.MSG 12 = true → t.quiet = true → cpuStep waiting = .next (t.setEM true)))

/-- R550: LLSH follows the forward links while the selected relation holds, at most X of them, through words outside the
active stack (R57, U7; the range is log entry 18), at addresses of 29 bits (R81; log entry 44); R557: RCS pushes the
two parts of a control store word. R551, R552: LINS links a new element before the one named, or makes it the whole
ring; LDEL unlinks one, and says whether it was the only one; every word they touch lies outside the active stack
(R57, U7; the range is log entry 18), at an unbounded sum of a link and the offset that has 29 bits, as the link has
(R81; log entry 44). -/
def Obligations.LinkedListAndControlStore : Prop :=
  (∀ (s t : State) (f : BitVec 3) (cc : BitVec 2) (n : Nat) (test off : Int),
    let a := s.top 0
    let spot : Int := a.toNat + off
    let key := (s.word (wordOf spot)).toInt
    let holds := (decide (test < key) && bit f 0) || (decide (key = test) && bit f 1) || (decide (key < test) && bit f 2)
    let d := Config.controlWord s.cfg (s.X.setWidth 14)
    (s.privileged = true → s.hasStack 3 0 = true →
      walkList f (s.top 1).toInt (s.top 2).toInt s.X.toInt.toNat s = .ok (cc, t) → CompletesAs (.llsh f) s (t.setCC cc)) ∧
    walkList f test off 0 s = .ok (0b01#2, s) ∧
    (s.hasStack 1 0 = true → a = 0#32 → walkList f test off (n + 1) s = .ok (0b00#2, s)) ∧
    (s.hasStack 1 0 = true → a ≠ 0#32 → a.toNat < 2 ^ 29 → s.offStack (wordOf spot) = true → s.hasAddr spot = true →
      (holds = false → walkList f test off (n + 1) s = .ok (0b10#2, s)) ∧
      (holds = true → s.offStack a = true → s.hasWord a = true →
        walkList f test off (n + 1) s = walkList f test off n ((s.putTop 0 (s.word a)).putX (s.X - 1#32)))) ∧
    OnStack .rcs s 0 2 0 ((s.pushed ((field d 0 6).setWidth 32 <<< 26)).pushed (field d 6 32))) ∧
  (∀ s : State,
    let e := s.top 0
    let n := s.top 1
    let off := s.top 2
    let ok := fun a : Word => s.offStack a = true ∧ s.hasWord a = true
    let near := fun (a : Word) (o : Int) => a.toNat < 2 ^ 29 ∧ 0 ≤ a.toNat + o ∧ a.toNat + o < 2 ^ 29 ∧ ok (a + wordOf o)
    let t1 := s.putWord n e
    let back := t1.word (e + off)
    let t2 := t1.putWord (e + off) (n + off)
    let t3 := if back = 0#32 then t2 else t2.putWord (back - off) n
    let del := s.top 1
    let fwd := s.word e
    let bkw := s.word (e + del)
    let v1 := if bkw = 0#32 then s else s.putWord (bkw - del) fwd
    let v2 := if fwd = 0#32 then v1 else v1.putWord (fwd + del) bkw
    s.privileged = true → s.hasStack 3 0 = true →
    (n = 0#32 → CompletesAs .lins s s) ∧
    (n ≠ 0#32 → e = 0#32 → ok n → near n off.toInt →
      CompletesAs .lins s (((s.putTop 0 n).putWord n n).putWord (n + off) (n + off))) ∧
    (n ≠ 0#32 → e ≠ 0#32 → ok n → near e off.toInt → near n off.toInt → (back ≠ 0#32 → near back (- off.toInt)) →
      CompletesAs .lins s (t3.putWord (n + off) back)) ∧
    (e = 0#32 → CompletesAs .ldel s (s.setCC 0b10#2)) ∧
    (e ≠ 0#32 → ok e → near e del.toInt → (bkw ≠ 0#32 → near bkw (- del.toInt)) → (fwd ≠ 0#32 → near fwd del.toInt) →
      CompletesAs .ldel s (v2.setCC (if fwd = e then 0b10#2 else 0b00#2))))

/-- R560 to R563: CPAA gives the absolute address (what `evalPopped` finds is EffectiveAddresses), CPEP the external pointer to a stack, global or indexed external
location, CPTR adds the top word to a pointer, VPTR sets CC by whether a pointer may be used: for an external one CCG
when its evaluation succeeds, CCE when the segment or the page is absent, CCL for another trap, while an absent page
table is a real trap; the pops are tested last, and a trap leaves the R and D bits already set (R603, log entry 37).
That CPEP does not test the use count of the entry whose LOCATION it reads is log entry 58.
R590, R591: MUC moves the use count of the entry a pointer leads to up or down, within 0 and 4095, and then pops; GTSP
loads a task's DST and pushes its two segment pointers and the channel number. -/
def Obligations.PointerConversionAndUseCounts : Prop :=
  (∀ (s t : State) (b3 : Bool) (l : Located) (tr : Trap) (parameter : Option Word),
    let p := s.top 0
    let xx : Word := if b3 then s.X else 0#32
    let own := (field s.MASK 3 3).setWidth 32 * 16#32 + 4#32
    let tcb := s.word own
    let segs := s.word (tcb + 8#32)
    let off := pointerOffset p + xx
    let stack := field segs 4 12
    let table := if bit stack 0 then s.DST else 0o2200#32
    let index := 16 * (field stack 1 11).toNat
    let entry := table + BitVec.ofNat 32 index
    let far := off + (s.SB - s.word (entry + 8#32))
    let external := fun (seg : BitVec 12) (o : Word) =>
      if o.toNat < 2 ^ 19 then CompletesAs (.cpep b3) s (s.putTop 0 (seg.setWidth 32 <<< 19 ||| o))
      else Raises (.cpep b3) s .pointerConversion none
    let late := fun (i : Instr) (tr : Trap) => exec i s = conclude s (takeTrap tr none) (s.unwound t)
    let fromBelow := s.top 1
    let sum := pointerOffset fromBelow + p
    let mode := s.top 1
    let limit : Word := if bit p 1 then s.top 2 else s.DL - s.DB
    let reach : Int := (pointerOffset p).toNat + (if b3 then s.X.toInt else 0)
    let probe : AccessKind := { index := if b3 then some s.X else none, modmem := bit mode 30, unpriv := !bit mode 31, probe := true }
    (s.privileged = true → s.hasStack 1 0 = true → PassesTrapsOf (.cpaa b3) s (evalPopped p b3 false 0 1) ∧
      (evalPopped p b3 false 0 1 s = .ok (l, t) → t.hasStack 1 0 = true →
        CompletesAs (.cpaa b3) s (t.putTop 0 l.addr))) ∧
    (s.icsFlag = false → s.hasStack 1 0 = true →
      (bit p 0 = false → b3 = false → CompletesAs (.cpep b3) s s) ∧
      (bit p 0 = false → b3 = true → PassesTrapsOf (.cpep b3) s (evalDsp p (s.access (some s.X) false) 0) ∧
        (evalDsp p (s.access (some s.X) false) 0 s = .ok (l, t) → t.hasStack 1 0 = true →
          if l.offset < 2 ^ 19 then CompletesAs (.cpep b3) s (t.putTop 0 l.ptr) else late (.cpep b3) .pointerConversion)) ∧
      (bit p 0 = true → s.hasWord own = true → tcb.toNat + 8 < 2 ^ 29 → s.hasWord (tcb + 8#32) = true →
        (bit p 1 = false → external (field segs 20 12) off) ∧
        (bit p 1 = true → s.mem.wf = true → table.toNat + index < 2 ^ 29 → s.hasWord entry = true →
          s.hasWord (entry + 8#32) = true → bit (s.word entry) 0 = false → external stack far))) ∧
    (s.hasStack 2 0 = true → (b3 = false ∨ bit fromBelow 0 = true) →
      if 2 ^ 30 ≤ sum.toNat then Raises (.cptr b3) s .pointerConversion none
      else if s.canPop 1 = false then Raises (.cptr b3) s .stackUnderflow none
      else CompletesAs (.cptr b3) s
        (((s.putX p).putTop 1 ((fromBelow &&& 0xC0000000#32) ||| sum)).popped 1)) ∧
    (s.hasStack 2 0 = true → b3 = true → bit fromBelow 0 = false →
      PassesTrapsOf (.cptr b3) s (evalDsp fromBelow (s.access (some p) false) 0) ∧
      (evalDsp fromBelow (s.access (some p) false) 0 s = .ok (l, t) → t.hasStack 2 0 = true →
        if 2 ^ 19 ≤ l.offset then late (.cptr b3) .pointerConversion
        else if s.canPop 1 = false then late (.cptr b3) .stackUnderflow
        else CompletesAs (.cptr b3) s (((t.putX p).putTop 1 l.ptr).popped 1))) ∧
    (bit mode 31 = true → s.privileged = false → OnStack (.vptr b3) s 3 0 1 ((s.popped 1).setCC 0b01#2)) ∧
    (bit mode 31 = false ∨ s.privileged = true →
      (bit p 0 = true → OnStack (.vptr b3) s 3 0 1 ((s.popped 1).setCC
        (if 0 ≤ reach ∧ reach ≤ limit.toNat then 0b00#2 else 0b01#2))) ∧
      (evalEds p probe s = .ok (l, t) → externalCC p probe s = .ok (0b00#2, t)) ∧
      (evalEds p probe s = .error (.trap tr parameter t) → externalCC p probe s =
        if tr = .absentPageTable then .error (.trap .absentPageTable parameter t)
        else .ok (if tr = .absentDataSegment ∨ tr = .absentPage then 0b10#2 else 0b01#2, t)) ∧
      (bit p 0 = false → s.hasStack 3 0 = true → PassesTrapsOf (.vptr b3) s (externalCC p probe) ∧
        ∀ cc, externalCC p probe s = .ok (cc, t) →
          if s.canPop 1 = false then late (.vptr b3) .stackUnderflow
          else CompletesAs (.vptr b3) s ((t.popped 1).setCC cc)))) ∧
  (∀ (s t : State) (b3 : Bool) (l : Located),
    let p := s.top 0
    let probe : AccessKind := { index := none, modmem := false, unpriv := false, probe := true }
    let w := t.word l.entry
    let c := useCount w
    let late := fun (tr : Trap) (param : Option Word) => exec (.muc b3) s = conclude s (takeTrap tr param) (s.unwound t)
    let block := (field s.MASK 3 3).setWidth 32 * 16#32
    let g := s.putWord (block + 4#32) p
    let segs := g.word (p + 8#32)
    let pointer := fun seg : BitVec 12 => (seg.setWidth 32 : Word) <<< 19
    let v := ((g.putTop 0 (pointer (field segs 4 12))).pushed (pointer (field segs 20 12))).pushed
      ((field s.MASK 3 3).setWidth 32)
    s.privileged = true → s.hasStack 1 2 = true →
    (bit p 0 = false → evalEds p probe s = .ok (l, t) → t.mem.wf = true → t.hasWord l.entry = true → bit w 0 = false →
      if c = (if b3 then 4095#12 else 0#12) then late .systemError (some 1#32)
      else if s.canPop 1 = false then late .stackUnderflow none
      else CompletesAs (.muc b3) s
        (((t.putWord l.entry (setField w 1 12 (if b3 then c + 1 else c - 1))).popped 1).setCC 0b00#2)) ∧
    (bit p 0 = false → ∀ tr q, evalEds p probe s = .error (.trap tr q t) →
      if s.canPop 1 = false then t.S = s.S → t.Q = s.Q → late .stackUnderflow none
      else t.S = s.S → t.Q = s.Q → CompletesAs (.muc b3) s ((t.popped 1).setCC
        (if tr = .absentDataSegment ∨ tr = .absentPage ∨ tr = .absentPageTable then 0b10#2 else 0b01#2))) ∧
    (p.toNat + 8 < 2 ^ 29 → s.hasWord (block + 4#32) = true → s.hasWord (p + 8#32) = true → s.hasWord (p + 4#32) = true →
      CompletesAs .gtsp s { v with DST := v.word (p + 4#32) }))

/-- R575, R576: LIA and LIAS push the pointer to a variable of the procedure `level` static links out: each link is the
word 16 bytes below the frame address it names. A trap of the walk is the instruction's; it, and one at the end, finds
the memory the walk leaves, R bits already set staying set (R603, log entry 37). R575: one level of the walk of LIA. The
link is the word 16 bytes below the frame address that the pointer names, inside the bounds of its stack segment; a
pointer to the global segment is an UnexpectedPointerType. An external pointer leads into another stack segment, which
must be unpaged, with that segment's SB and S as its bounds; that the entry read for its P bit is given back before the
evaluation takes it again is log entry 57, and that its use count is not tested then is log entry 58. -/
def Obligations.IntermediateAddresses : Prop :=
  (∀ (s t : State) (level : BitVec 4) (lev : BitVec 2) (sign : Bool) (off : BitVec 19) (o : BitVec 6) (w r : LinkWalk),
    let start : LinkWalk := { sb := s.SB.toNat, upper := s.Q.toNat, ptr := 0xC0000000#32 ||| (s.Q - s.SB), foreign := none }
    let stackPointer := fun (p : Word) (d : Int) =>
      (0xC0000000#32 ||| (wordOf ((pointerOffset p).toNat + d) &&& 0x3FFFFFFF#32) : Word)
    let link : Int := w.sb + (pointerOffset w.ptr).toNat - 16
    let externalAt := fun (i : Instr) (seg : BitVec 12) (d : Int) =>
      if 0 ≤ d ∧ d < 2 ^ 19 then CompletesAs i s (t.pushed (seg.setWidth 32 <<< 19 ||| wordOf d))
      else exec i s = conclude s (takeTrap .pointerConversion none) (s.unwound t)
    let claim := fun (i : Instr) (d : Int) =>
      (bit r.ptr 0 = true → r.foreign = none → CompletesAs i s (t.pushed (stackPointer r.ptr d))) ∧
      (bit r.ptr 0 = false → externalAt i (field r.ptr 1 12) ((field r.ptr 13 19).toNat + d)) ∧
      (∀ f, bit r.ptr 0 = true → r.foreign = some f →
        externalAt i f.1 ((pointerOffset r.ptr).toNat + d + f.2.toNat))
    PassesTrapsOf (.lia level sign off) s (followLinks level.toNat start) ∧
    PassesTrapsOf (.lias lev o) s (followLinks lev.toNat start) ∧
    followLinks 0 start s = .ok (start, s) ∧
    (bit w.ptr 0 = true → bit w.ptr 1 = true → w.sb ≤ link → link ≤ w.upper → s.hasAddr link = true →
      followLink w s = .ok ({ w with ptr := s.word (wordOf link), upper := link }, s)) ∧
    (t.hasStack 0 1 = true →
      (followLinks level.toNat start s = .ok (r, t) → claim (.lia level sign off) (signedDisp sign off.toNat)) ∧
      (followLinks lev.toNat start s = .ok (r, t) → claim (.lias lev o) o.toNat))) ∧
  (∀ (s t : State) (n : Nat) (w r : LinkWalk) (l : Located) (e : Stop),
    let near : Int := w.sb + (pointerOffset w.ptr).toNat - 16
    let seg := field w.ptr 1 12
    let table := if bit seg 0 then s.DST else 0o2200#32
    let index := 16 * (field seg 1 11).toNat
    let entry := table + BitVec.ofNat 32 index
    let named := 0 < index ∧ index ≤ (s.word table).toNat
    let readable := table.toNat + index < 2 ^ 29 ∧
      (∀ k < 4, s.hasWord (entry + BitVec.ofNat 32 (4 * k)) = true) ∧ bit (s.word entry) 0 = false
    let paged := bit (s.word entry) 26 = true
    let kind := s.access none false
    let loc := t.word (l.entry + 8#32)
    let rel := t.word loc
    let sb : Int := loc.toNat + rel.toNat
    let top : Int := sb + (t.word (wordOf (sb - 4))).toNat
    let far : Int := (l.addr.toNat : Int) - 16
    let fails := fun (tr : Trap) (u : State) => followLink w s = .error (.trap tr none u)
    (followLink w s = .error e → followLinks (n + 1) w s = .error e) ∧
    (followLink w s = .ok (r, t) → followLinks (n + 1) w s = followLinks n r t) ∧
    (bit w.ptr 0 = true → bit w.ptr 1 = false → fails .unexpectedPointerType s) ∧
    (bit w.ptr 0 = true → bit w.ptr 1 = true →
      if near < w.sb ∨ w.upper < near then fails .boundsViolation s
      else s.hasAddr near = true →
        followLink w s = .ok ({ w with ptr := s.word (wordOf near), upper := near }, s)) ∧
    (s.mem.wf = true → bit w.ptr 0 = false → s.hasWord table = true → (named → readable) →
      if named ∧ paged then fails .unexpectedEdsType s
      else (evalDsp w.ptr kind 0 s = .error e → followLink w s = .error e) ∧
        (evalDsp w.ptr kind 0 s = .ok (l, t) → t.hasWord (l.entry + 8#32) = true → t.hasWord loc = true →
          t.hasAddr (sb - 4) = true →
          if far < sb ∨ top < far then fails .boundsViolation t
          else t.hasAddr far = true → followLink w s = .ok ({
            sb := sb, upper := far, ptr := t.word (wordOf far), foreign := some (field l.ptr 1 12, rel) }, t))))

/-- R587, R588: TRY pushes a pseudo marker linked through SB+8 or takes the latest away; ESCP stores the escape code at
SB+12, unlinks the latest pseudo marker and exits through it. A marker that does not lie in the frame is a
BoundsViolation, the marker's address being the sum modulo 2^32 (log entry 54); a trap of the exit finds memory as at
the start (log entry 37). -/
def Obligations.TryAndEscape : Prop :=
  ∀ s : State,
    let top := s.S + 12#32
    let link := s.word (s.SB + 8#32)
    let m := s.SB + link
    let marked := ((((s.putWord s.S link).putWord (top - 8#32) (s.top 0)).putWord (top - 4#32) s.STATUS).putWord top
      (top - s.Q)).putWord (s.SB + 8#32) (top - s.SB)
    let removed := { s.putWord (s.SB + 8#32) (s.word (m - 12#32)) with S := m - 16#32 }
    let raised := (s.putWord (s.SB + 12#32) (s.top 0)).putWord (s.SB + 16#32) 0xFFFFFFFF#32
    let passed := s.putWord (s.SB + 16#32) 0xFFFFFFFF#32
    let out := fun t : State => { t.putWord (s.SB + 8#32) (t.word (m - 12#32)) with Q := m }
    let exits := fun (i : Instr) (t : State) => ∀ e u a, exitCore 0 (!s.privileged) (out t) = .ok (e, u) →
      e = { jump := some a } → JumpsAs i s u a
    let fails := fun (i : Instr) (t : State) => ∀ tr q u, exitCore 0 (!s.privileged) (out t) = .error (.trap tr q u) →
      exec i s = conclude s (takeTrap tr q) { s with MSG := u.MSG, freeCtr := u.freeCtr }
    let supported := s.cfg.rev = .le33 → s.prevDup = true
    s.hasStack 1 3 = true → s.hasWord (s.SB + 8#32) = true → s.hasWord (s.SB + 12#32) = true →
    s.hasWord (s.SB + 16#32) = true →
    CompletesAs (.tryMark true) s { marked with S := top } ∧
    (if s.Q.toNat + 16 ≤ m.toNat ∧ m.toNat ≤ s.S.toNat then
      s.hasWord (m - 12#32) = true → CompletesAs (.tryMark false) s (removed.putWord (s.SB + 16#32) 0#32)
    else Raises (.tryMark false) s .boundsViolation none) ∧
    (supported → s.canPop 1 = false → Raises (.escp false) s .stackUnderflow none) ∧
    (supported → s.canPop 1 = true → (m.toNat < s.SB.toNat + 48 ∨ (s.S - 4#32).toNat < m.toNat) →
      Raises (.escp false) s .boundsViolation none) ∧
    (s.hasWord (m - 12#32) = true → supported → s.canPop 1 = true →
      s.SB.toNat + 48 ≤ m.toNat → m.toNat ≤ (s.S - 4#32).toNat → exits (.escp false) raised ∧ fails (.escp false) raised) ∧
    (s.word (s.SB + 16#32) = 0#32 → CompletesAs (.escp true) s s) ∧
    (s.word (s.SB + 16#32) ≠ 0#32 → (m.toNat < s.SB.toNat + 48 ∨ s.S.toNat < m.toNat) →
      Raises (.escp true) s .boundsViolation none) ∧
    (s.word (s.SB + 16#32) ≠ 0#32 → s.hasWord (m - 12#32) = true → s.SB.toNat + 48 ≤ m.toNat → m.toNat ≤ s.S.toNat →
      exits (.escp true) passed ∧ fails (.escp true) passed)

/-! ## Addresses -/

/-- R100, R101, R103, R107, R110, R632: the address a base, an offset, X and a pointer give, inside the bounds of its
segment, by unbounded sums of at most 29 bits, and the data segment pointer to it that a trace reports: a stack or a
global pointer with the offset of the address, or the external pointer used, indexed: its offset changes, the entire
pointer where it leads into a page (R102, R113); that an offset beyond 19 bits keeps the low ones is log entry 27.
Outside the bounds it is a BoundsViolation; a doubleword's second word is tested after the whole evaluation (log entry
19). R104, R105, R110, R203, R232, R236, R560: an operand's pointer, evaluated after n words are popped: a stack pointer
gives SB + offset + index, from SB to S - 4n, a global one DB + offset + index, from DB to DL whatever is popped, and
nothing changes; outside these bounds it is a BoundsViolation. An external pointer is evaluated as R111 to R113 say. The
second word lies inside the same bounds, or else, after the evaluation of an external pointer, it is an
EDSBoundsViolation. -/
def Obligations.EffectiveAddresses : Prop :=
  (∀ (s t : State) (b : Base) (off : Nat) (x modmem : Bool) (l : Located) (e : Stop),
    let xx : Int := if x then s.X.toInt else 0
    let loc : Int := match b with
      | .pPlus => s.P.toNat + off | .pMinus => s.P.toNat - off
      | .dbPlus => s.DB.toNat + off | .dlMinus => s.DL.toNat - off
      | .qPlus => s.Q.toNat + off | .qMinus => s.Q.toNat - off
      | .sbPlus => s.SB.toNat + off | .sMinus => s.S.toNat - off
    let inside := fun a : Int => match b with
      | .pPlus | .pMinus => (s.PB.toNat : Int) ≤ a ∧ a ≤ s.PL.toNat + 3
      | .dbPlus | .dlMinus => (s.DB.toNat : Int) ≤ a ∧ a ≤ s.DL.toNat
      | _ => (s.SB.toNat : Int) ≤ a ∧ a ≤ s.S.toNat
    let tagged := fun (tag : Word) (base : Word) (a : Int) => tag ||| (wordOf (a - base.toNat) &&& 0x3FFFFFFF#32)
    let pointerTo := fun a : Int => match b with
      | .dbPlus | .dlMinus => tagged 0x80000000#32 s.DB a
      | _ => tagged 0xC0000000#32 s.SB a
    let finds := fun (m : M Effective) (a : Int) (ok : Prop) (q : Word) =>
      (ok → a < 2 ^ 29 → ∃ v, m s = .ok ({ addr := wordOf a, pointer := v }, s) ∧ (baseIsCode b = false → v = q)) ∧
        (¬ ok → m s = .error (.trap .boundsViolation none s))
    let p := s.word (wordOf loc)
    let base := if bit p 1 then s.SB else s.DB
    let last := if bit p 1 then s.S else s.DL
    let target : Int := base.toNat + (p &&& 0x3FFFFFFF#32).toNat + xx
    let second := fun a : Int => a - a % 4 + 4
    let pointed := evalEds p (s.access (if x then some s.X else none) modmem)
    let q := p + (if x then s.X else 0#32)
    let used := if l.paged then q else (p &&& 0xFFF80000#32) ||| (q &&& 0x7FFFF#32)
    finds (effective b off false x modmem 0) (loc + xx) (inside (loc + xx)) (pointerTo (loc + xx)) ∧
    finds (effective b off false x modmem 4) (loc + xx) (inside (loc + xx) ∧ inside (second (loc + xx)))
      (pointerTo (loc + xx)) ∧
    (¬ inside loc → effective b off true x modmem 0 s = .error (.trap .boundsViolation none s)) ∧
    (inside loc → s.hasAddr loc = true →
      (baseIsCode b = true →
        finds (effective b off true x modmem 0) (loc + p.toInt + xx) (inside (loc + p.toInt + xx)) 0#32) ∧
      (baseIsCode b = false → bit p 0 = true →
        let within := (base.toNat : Int) ≤ target ∧ target ≤ last.toNat
        finds (effective b off true x modmem 0) target within (tagged (p &&& 0xC0000000#32) base target) ∧
        finds (effective b off true x modmem 4) target (within ∧ second target ≤ last.toNat)
          (tagged (p &&& 0xC0000000#32) base target)) ∧
      (baseIsCode b = false → bit p 0 = false →
        (pointed s = .error e → effective b off true x modmem 0 s = .error e ∧
          effective b off true x modmem 4 s = .error e) ∧
        (pointed s = .ok (l, t) → effective b off true x modmem 0 s = .ok ({ addr := l.addr, pointer := used }, t) ∧
          effective b off true x modmem 4 s = if 4 ≤ l.room + l.addr.toNat % 4 then
            .ok ({ addr := l.addr, pointer := used }, t) else .error (.trap .edsBoundsViolation none t))))) ∧
  (∀ (s t : State) (p : Word) (k : AccessKind) (x modmem : Bool) (n : Nat) (l : Located) (e : Stop),
    let base := if bit p 1 then s.SB else s.DB
    let last : Nat → Int := fun lower => if bit p 1 then s.S.toNat - lower else s.DL.toNat
    let target : Int → Int := fun xx => base.toNat + (p &&& 0x3FFFFFFF#32).toNat + xx
    let second := fun a : Int => a - a % 4 + 4
    let finds := fun (m : M Located) (lower : Nat) (a : Int) (ok : Prop) =>
      (ok → a < 2 ^ 29 → ∃ v, m s = .ok (v, s) ∧ v.addr = wordOf a ∧ v.room = last lower - a) ∧
        (¬ ok → m s = .error (.trap .boundsViolation none s))
    let within := fun (lower : Nat) (a : Int) => (base.toNat : Int) ≤ a ∧ a ≤ last lower
    let a := target (if x then s.X.toInt else 0)
    let pointed := evalEds p (s.access (if x then some s.X else none) modmem)
    (bit p 0 = true →
      (let c := target (k.index.elim 0 BitVec.toInt)
       finds (evalDsp p k n) n c (within n c)) ∧
      finds (evalPopped p x modmem 0 n) (4 * n) a (within (4 * n) a) ∧
      finds (evalPopped p x modmem 4 n) (4 * n) a (within (4 * n) a ∧ second a ≤ last (4 * n))) ∧
    (bit p 0 = false → evalDsp p k n s = evalEds p k s ∧
      (pointed s = .error e → evalPopped p x modmem 0 n s = .error e ∧ evalPopped p x modmem 4 n s = .error e) ∧
      (pointed s = .ok (l, t) → evalPopped p x modmem 0 n s = .ok (l, t) ∧
        evalPopped p x modmem 4 n s =
          if 4 ≤ l.room + l.addr.toNat % 4 then .ok (l, t) else .error (.trap .edsBoundsViolation none t))))

/-- R111, R136 to R139: a pointer into an unpaged data segment gives LOCATION + OFFSET, sets R and, for a modifying
access, D in the segment's entry, or traps on the first test that fails, memory being as it was; that the use count is
tested last is log entry 40. R111, R112, R140: the walk over a chain. An entry ends it when it is paged, or when the
offset lies in its segment; else it is given back, and the walk goes on: to the segment LINK names, the offset lower
by the length, when C is 0, or, C being 1, to the segment as many numbers on as whole lengths lie in the offset, no
further than LINK (log entry 41); a negative offset, or no further segment, is an EDSBoundsViolation. The segment it
ends in is tested and accessed as if named; a paged one reached through a link is an UnexpectedEDSType (that the use
count is tested last is log entry 40). That an entry passed through is given back first, as it was, is log entry 57;
that its use count is not tested is log entry 58. -/
def Obligations.UnpagedSegmentEvaluation : Prop :=
  (∀ (s : State) (p : Word) (x : Option Word) (modmem unpriv : Bool),
    let seg := field p 1 12
    let base := if bit p 1 then s.DST else 0o2200#32
    let n := (field seg 1 11).toNat
    let entry := base + BitVec.ofNat 32 (16 * n)
    let w0 := s.word entry
    let lenM1 := s.word (entry + 4#32)
    let loc := s.word (entry + 8#32)
    let off : Int := (field p 13 19).toNat + (match x with | none => 0 | some v => v.toInt)
    let m := evalEds p { index := x, modmem := modmem, unpriv := unpriv, probe := false }
    let fails := fun (t : Trap) (param : Option Word) => m s = .error (.trap t param s)
    s.mem.wf = true → bit p 0 = false → s.hasWord base = true → base.toNat + 16 * n < 2 ^ 29 →
    (∀ k < 4, s.hasWord (entry + BitVec.ofNat 32 (4 * k)) = true) → bit w0 0 = false → bit w0 26 = false →
    if n = 0 then fails .edsPointerViolation none
    else if (s.word base).toNat < 16 * n then fails .dstViolation none
    else if off < 0 then fails .edsBoundsViolation none
    else if off ≤ lenM1.toNat then
      if modmem = true ∧ bit w0 27 = false then fails .dataSegmentWrite none
      else if unpriv = true ∧ bit w0 30 = true then fails .privilegedModeData none
      else if bit w0 31 = true then fails .absentDataSegment (some (seg.setWidth 32))
      else if useCount w0 = 4095#12 then fails .systemError (some 1#32)
      else (loc.toNat : Int) + off < 2 ^ 29 →
        ∃ l, m s = .ok (l, s.putWord entry (w0 ||| 4#32 ||| (if modmem then 8#32 else 0#32))) ∧
          l.addr = wordOf (loc.toNat + off) ∧ l.offset = off ∧ l.room = lenM1.toNat - off ∧
          l.ptr = setField p 13 19 (BitVec.ofInt 19 off) ∧ l.entry = entry ∧ l.paged = false
    else (bit (s.word (entry + 12#32)) 0 = false → field (s.word (entry + 12#32)) 1 12 = 0#12 →
      fails .edsBoundsViolation none)) ∧
  (∀ (s : State) (p : Word) (x : Option Word) (modmem unpriv : Bool) (n : Nat) (o : Int) (linked : Bool) (c : ChainEnd),
    let kind : AccessKind := { index := x, modmem := modmem, unpriv := unpriv, probe := false }
    let seg := field p 1 12
    let base := if bit p 1 then s.DST else 0o2200#32
    let index := 16 * (field seg 1 11).toNat
    let entry := base + BitVec.ofNat 32 index
    let w0 := s.word entry
    let lenM1 := s.word (entry + 4#32)
    let link := s.word (entry + 12#32)
    let len : Int := lenM1.toNat + 1
    let further : Int := seg.toNat + o / len
    let walk := walkChain (n + 1) p o linked s
    let read : DstWords := {
      addr := entry, w0 := w0, lenM1 := lenM1, loc := s.word (entry + 8#32), link := link }
    let ends := walk = .ok ({ entry := read, ptr := p, offset := o, linked := linked }, s.taken entry)
    let stops := walk = .error (.trap .edsBoundsViolation none s)
    let off : Int := (field p 13 19).toNat + (match x with | none => 0 | some v => v.toInt)
    let fails := fun (t : Trap) (param : Option Word) => evalEds p kind s = .error (.trap t param s)
    let last := c.entry
    let target : Int := last.loc.toNat + c.offset
    s.mem.wf = true →
    (base.toNat + index < 2 ^ 29 → (∀ k < 4, s.hasWord (entry + BitVec.ofNat 32 (4 * k)) = true) → bit w0 0 = false →
      if bit w0 26 = true then ends
      else if o < 0 then stops
      else if o ≤ lenM1.toNat then ends
      else if bit link 0 = false then
        if field link 1 12 = 0#12 then stops
        else walk = walkChain n (setField p 1 12 (field link 1 12)) (o - len) true s
      else if ((field link 1 12).toNat : Int) < further then stops
      else walk = walkChain n (setField p 1 12 (BitVec.ofInt 12 further)) (o % len) true s) ∧
    (s.hasWord base = true → 0 < index → index ≤ (s.word base).toNat → last.w0 = s.word last.addr →
      s.hasWord last.addr = true → walkChain (off.toNat + 1) p off false s = .ok (c, s.taken last.addr) →
      if bit last.w0 26 = true then c.linked = true → fails .unexpectedEdsType none
      else if modmem = true ∧ bit last.w0 27 = false then fails .dataSegmentWrite none
      else if unpriv = true ∧ bit last.w0 30 = true then fails .privilegedModeData none
      else if bit last.w0 31 = true then fails .absentDataSegment (some ((field c.ptr 1 12).setWidth 32))
      else if useCount last.w0 = 4095#12 then fails .systemError (some 1#32)
      else target < 2 ^ 29 →
        evalEds p kind s = .ok ({
          addr := wordOf target, ptr := setField c.ptr 13 19 (BitVec.ofInt 19 c.offset), offset := c.offset,
          room := last.lenM1.toNat - c.offset, entry := last.addr, paged := false },
          s.putWord last.addr (last.w0 ||| 4#32 ||| (if modmem then 8#32 else 0#32)))))

/-- R113, R136, R138: a pointer into a paged data segment goes through the page table entry of its page: the address is
the page frame with the offset in the page, R is set in the segment's entry, R and for a modifying access D in the
page's; the use counts of both are tested, each last (log entry 40). An index that changes one of the thirteen most
significant bits leads into another segment, which must lie in the same half of the table and be paged, and of
whose entry the first three words are read; that the entry of the segment left is given back first is log entry 57, and
that its use count is not tested is log entry 58.
Until the page's entry is taken the segment's is owned, and its first word reads -1. -/
def Obligations.PagedSegmentEvaluation : Prop :=
  ∀ (s : State) (p : Word) (x : Option Word) (modmem unpriv : Bool),
    let base := if bit p 1 then s.DST else 0o2200#32
    let index := fun a : Word => 16 * (field a 2 11).toNat
    let entryOf := fun a : Word => base + BitVec.ofNat 32 (index a)
    let readable := fun (a : Word) (words : Nat) => base.toNat + index a < 2 ^ 29 ∧
      (∀ k < words, s.hasWord (entryOf a + BitVec.ofNat 32 (4 * k)) = true) ∧ bit (s.word (entryOf a)) 0 = false
    let q := p + x.getD 0#32
    let leaves := field q 0 13 ≠ field p 0 13
    let entry := entryOf q
    let w0 := s.word entry
    let size := (field w0 22 4).toNat
    let inside := (field q 13 19).toNat
    let page := inside / 2 ^ size
    let off := inside % 2 ^ size
    let marked := s.putWord entry (w0 ||| 4#32)
    let pte := s.word (entry + 8#32) + BitVec.ofNat 32 (8 * page)
    let e0 := (s.taken entry).word pte
    let frame := marked.word (pte + 4#32)
    let m := evalEds p { index := x, modmem := modmem, unpriv := unpriv, probe := false }
    let fails := fun (t : Trap) (param : Option Word) (u : State) => m s = .error (.trap t param u)
    s.mem.wf = true → bit p 0 = false → s.hasWord base = true → 0 < index p → index p ≤ (s.word base).toNat →
    readable p 4 → bit (s.word (entryOf p)) 26 = true →
    if leaves ∧ field q 0 2 ≠ field p 0 2 then fails .edsBoundsViolation none s
    else if leaves ∧ index q = 0 then fails .edsPointerViolation none s
    else if leaves ∧ (s.word base).toNat < index q then fails .dstViolation none s
    else readable q 3 →
      if bit w0 26 = false then fails .unexpectedEdsType none s
      else if bit w0 31 = true then fails .absentPageTable (some q) s
      else if useCount w0 = 4095#12 then fails .systemError (some 1#32) s
      else 2 ≤ size →
        if (s.word (entry + 4#32)).toNat < 8 * page + 4 then fails .pageTableViolation none marked
        else (s.word (entry + 8#32)).toNat + 8 * page < 2 ^ 29 → s.hasWord pte = true → s.hasWord (pte + 4#32) = true →
          bit e0 0 = false →
          if modmem = true ∧ bit e0 27 = false then fails .dataSegmentWrite none marked
          else if unpriv = true ∧ bit e0 30 = true then fails .privilegedModeData none marked
          else if bit e0 31 = true then fails .absentPage (some q) marked
          else if useCount e0 = 4095#12 then fails .systemError (some 1#32) marked
          else (frame ||| BitVec.ofNat 32 off).toNat < 2 ^ 29 →
            m s = .ok ({
              addr := frame ||| BitVec.ofNat 32 off, ptr := q, offset := off, room := 2 ^ size - 1 - off, entry := pte, paged := true },
              marked.putWord pte (e0 ||| 4#32 ||| (if modmem then 8#32 else 0#32)))

/-- R111, R113, R140: evaluating a pointer changes nothing but the first word of the segment's entry and of the entry it
reaches, where all addresses hold memory; a probe, and a pointer to the stack or the global segment, change nothing. -/
def Obligations.PointerEvaluationFrame : Prop :=
  ∀ (s t : State) (p : Word) (k : AccessKind) (lower : Nat) (l : Located),
    s.cfg.holes = [] → s.mem.wf = true → evalDsp p k lower s = .ok (l, t) →
    t = { s with mem := t.mem } ∧ t.mem.wf = true ∧
    ((bit p 0 = true ∨ k.probe = true) → t = s) ∧
    ∀ n : Nat, (n < (wordAlign l.entry).toNat ∨ (wordAlign l.entry).toNat + 4 ≤ n) →
      (n < (wordAlign (s.dstEntry (field l.ptr 1 12))).toNat ∨
        (wordAlign (s.dstEntry (field l.ptr 1 12))).toNat + 4 ≤ n) → t.byte n = s.byte n

/-- R80, R82, R230 to R237: a store changes the bytes it names and no other byte, which then read as what was stored;
and ST, STB and STH do so at the address of EA. -/
def Obligations.StoresChangeOnlyTheirBytes : Prop :=
  ∀ (s t t' : State) (a v : Word) (h : Half) (c : Byte) (e : Effective) (i x : Bool) (b : Base) (off : BitVec 19),
    s.mem.wf = true →
    (s.hasWord a = true → SameBytesOutside s (s.putWord a v) (wordAlign a).toNat 4 ∧ (s.putWord a v).word a = v ∧
      (s.putWord a v).mem.wf = true) ∧
    (s.hasHalf a = true → SameBytesOutside s (s.putHalf a h) (halfAlign a).toNat 2 ∧
      (s.putHalf a h).mem.half (halfAlign a).toNat = h ∧ (s.putHalf a h).mem.wf = true) ∧
    (s.hasByte a = true → SameBytesOutside s (s.putByte a c) a.toNat 1 ∧ (s.putByte a c).byte a.toNat = c ∧
      (s.putByte a c).mem.wf = true) ∧
    (baseIsCode b = false → effective b off.toNat i x true 0 s = .ok (e, t) → t.mem.wf = true → t.tv = false →
      t.hasStack 1 1 = true → t.canPop 1 = true →
      let quietAfter := fun (u : State) (j : Instr) => (u.advanced j).quiet = true
      (t.hasWord e.addr = true → quietAfter ((t.putWord e.addr (t.top 0)).popped 1) (.st i x b off) →
        exec (.st i x b off) s = .next t' → SameBytesOutside t t' (wordAlign e.addr).toNat 4) ∧
      (t.hasHalf e.addr = true → quietAfter ((t.putHalf e.addr ((t.top 0).setWidth 16)).popped 1) (.sth i x b off) →
        exec (.sth i x b off) s = .next t' → SameBytesOutside t t' (halfAlign e.addr).toNat 2) ∧
      (t.hasByte e.addr = true → quietAfter ((t.putByte e.addr ((t.top 0).setWidth 8)).popped 1) (.stb i x b off) →
        exec (.stb i x b off) s = .next t' → SameBytesOutside t t' e.addr.toNat 1))

/-- R60, R601, R602, R610, R632, R634: a trap pushes a marker with the return address and STATUS, in which the traps of
note 4 have cleared P and the machine instruction trap EM, leaves its parameter at Q+12 and the count of a trace at
Q+8, clears STATUS but for M and CSN, and goes through the STT of segment 1; a segment other than 1 is left with its
use count down, no lower than 0, and the count of segment 1 goes up, no higher than 4095. R603, R621, R635, R652: a
note-2 trap enters from the instruction's own address, the parameter of an absent code segment, page, data segment or
page table negated on the ICS, and a stack overflow enters on the ICS with STATUS.P cleared; then the tests after an
entry are made, and where none of them is true the entry is the next state. R602: the entry of segment 1 takes PB and
PL from its entry, leaves STATUS with M and CSN alone, M being kept or given by the entry, and moves the use counts,
no lower than 0 and no higher than 4095, but from segment 1 itself only reads the entry; R601 step 7: the handler's
address is the local pointer of the trap's number in the STT. -/
def Obligations.TrapEntrySavesTheContext : Prop :=
  (∀ (s : State) (t : Trap) (param count : Option Word) (ra : Word),
    let clears := t ∈ [.machineInstruction, .edsBoundsViolation, .absentCodeSegment, .absentPage, .absentDataSegment,
      .absentPageTable]
    let kept := if clears then s.setPending false else s
    let m := (if t = .machineInstruction then kept.setEM false else kept).marked ra
    let e1 := m.word 0#32 + 16#32
    let old := m.cstOf s.csn
    let o0 := m.word old
    let m1 := m.putWord old (if useCount o0 = 0#12 then o0 else setField o0 1 12 (useCount o0 - 1))
    let countUp := fun w : Word => (if useCount w = 4095#12 then w else setField w 1 12 (useCount w + 1)) ||| 4#32
    let counted := fun u : State => u.putWord e1 (countUp (u.word e1))
    let enters := fun v : State =>
      let loc := v.word (e1 + 8#32)
      let pl : Int := (loc.toNat : Int) + (v.word (e1 + 4#32)).toNat - 3
      let mode := s.privileged || bit (v.word e1) 30
      let noted := match count with
        | some c => v.putWord (v.Q + 8#32) c
        | none => v
      let w := noted.putWord (v.Q + 12#32) (param.getD (0x80000001#32 ||| BitVec.ofNat 32 (t.number * 16384)))
      let slot := wordOf pl - BitVec.ofNat 32 (4 * t.number)
      let stt := w.word slot
      let target := (loc + (stt &&& 0x3FFFFFFF#32)) &&& 0xFFFFFFFE#32
      loc.toNat < 2 ^ 29 → 0 ≤ pl → pl < 2 ^ 29 → v.hasWord (v.Q + 12#32) = true → v.hasWord slot = true →
      (count.isSome = true → v.hasWord (v.Q + 8#32) = true) → bit stt 0 = false → w.alignmentBug target = false →
      (trapEntry t param ra count : M Unit) s = .ok ((), { w with
        P := target, PB := loc, PL := wordOf pl, S := v.Q + 12#32, STATUS := if mode then 0x00020001#32 else 1#32 })
    s.mem.wf = true → s.hasStack 0 4 = true → s.hasWord 0#32 = true →
    (m.word 0#32).toNat + 16 < 2 ^ 29 → (∀ a ∈ [e1, e1 + 4#32, e1 + 8#32], m.hasWord a = true) →
    (s.csn = 1#12 → enters m) ∧
    (s.csn = 0#12 → bit (m.word e1) 0 = false → enters (counted m)) ∧
    (s.csn ≠ 0#12 → s.csn ≠ 1#12 → m.hasCst s.csn = true → bit o0 0 = false → bit (m1.word e1) 0 = false →
      enters (counted m1))) ∧
  (∀ (s s0 v : State) (t : Trap) (param : Option Word),
    let u := { s with prevDup := false }
    let negated := t ∈ [.absentCodeSegment, .absentPage, .absentDataSegment, .absentPageTable] ∧ s.icsFlag = true
    let stored := if negated then param.map (- ·) else param
    let calm := v.S.toNat ≤ v.SL.toNat ∧ v.PB.toNat ≤ v.P.toNat ∧ v.P.toNat ≤ v.PL.toNat
    (t ≠ .stackOverflow →
      takeTrap t param s = (do
        trapEntry t stored s.P
        postEntryTests postEntryFuel false) u ∧
      ((trapEntry t stored s.P : M Unit) u = .ok ((), v) → calm → conclude s0 (takeTrap t param) s = .next v)) ∧
    takeTrap .stackOverflow param s = (do
      icsTrapEntry .stackOverflow param s.P
      postEntryTests postEntryFuel false) (u.setPending false) ∧
    (icsTrapEntry .stackOverflow param s.P (u.setPending false) = .ok ((), v) → calm →
      conclude s0 (takeTrap .stackOverflow param) s = .next v)) ∧
  (∀ (s : State) (t : Trap),
    let e1 := s.word 0#32 + 16#32
    let old := s.cstOf s.csn
    let o0 := s.word old
    let s1 := s.putWord old (if useCount o0 = 0#12 then o0 else setField o0 1 12 (useCount o0 - 1))
    let countUp := fun w : Word => (if useCount w = 4095#12 then w else setField w 1 12 (useCount w + 1)) ||| 4#32
    let counted := fun u : State => u.putWord e1 (countUp (u.word e1))
    let enters := fun v : State =>
      let loc := v.word (e1 + 8#32)
      let pl : Int := (loc.toNat : Int) + (v.word (e1 + 4#32)).toNat - 3
      loc.toNat < 2 ^ 29 → 0 ≤ pl → pl < 2 ^ 29 →
      enterSegment1 s = .ok ((), { v with
        PB := loc, PL := wordOf pl,
        STATUS := if s.privileged || bit (v.word e1) 30 then 0x00020001#32 else 1#32 })
    let slot := s.PL - BitVec.ofNat 32 (4 * t.number)
    let target := (s.PB + (s.word slot &&& 0x3FFFFFFF#32)) &&& 0xFFFFFFFE#32
    (s.mem.wf = true → (s.word 0#32).toNat + 16 < 2 ^ 29 →
      (∀ a ∈ [0#32, e1, e1 + 4#32, e1 + 8#32], s.hasWord a = true) →
      (s.csn = 1#12 → enters s) ∧
      (s.csn = 0#12 → bit (s.word e1) 0 = false → enters (counted s)) ∧
      (s.csn ≠ 0#12 → s.csn ≠ 1#12 → s.hasCst s.csn = true → bit o0 0 = false → bit (s1.word e1) 0 = false →
        enters (counted s1))) ∧
    (s.hasWord slot = true → bit (s.word slot) 0 = false → s.alignmentBug target = false →
      enterHandler t s = .ok ((), { s with P := target })))

/-- R601, R472: the handler of a trap that executes EXIT 0 with its marker intact resumes the trapped program at the
return address with its S, Q, X and STATUS (P or EM cleared where the trap clears them), EM then set: a program in
segment 1, in segment 0, or in another segment whose entry gives its PB and PL back. The use count of segment 1 goes
down then and that of the segment returned to up, its reference bit set. Where segment 1's entry does not make the
handler privileged, the EXIT of user mode resumes a program with I = 0 and P = 0, and segment 0 is closed to it. -/
def Obligations.ExitFromATrapResumesTheProgram : Prop :=
  ∀ (s u : State) (t : Trap) (param count : Option Word) (ra : Word),
    let low := if t.clearsPending then s.setPending false else s
    let kept := if t = .machineInstruction then low.setEM false else low
    let c := s.csn
    let entry := u.cstOf c
    let w0 := u.word entry
    let one := useCount (u.word (u.cstOf 1#12))
    let left := u.counted 1#12 (-1#12)
    let here := fun v : State => { v with Q := s.Q, S := s.S, X := s.X, STATUS := kept.STATUS }
    let home := fun v : State => JumpsAs (.exit 0) u { here v with PB := s.PB, PL := s.PL } ra
    s.mem.wf = true → s.Q.toNat ≤ s.S.toNat → s.hasStack 0 7 = true →
    (trapEntry t param ra count : M Unit) s = .ok ((), u) →
    (u.privileged = true ∨ s.interruptEnable = false ∧ kept.pending = false) →
    (c = 1#12 → u.PB = s.PB → JumpsAs (.exit 0) u (here u) ra) ∧
    (u.holdsMarkerOf kept ra = true → c = 0#12 → u.privileged = true → s.PB = 0#32 → s.PL = 0x1FFFFFFC#32 →
      u.isCounted 1#12 = true → one ≠ 0#12 → home left) ∧
    (u.holdsMarkerOf kept ra = true → c ≠ 0#12 → c ≠ 1#12 → u.hasCst c = true → namesEntry c = true →
      u.cstWithin c = true → bit w0 0 = false → bit w0 31 = false → u.word (entry + 8#32) = s.PB →
      u.limitAt entry = s.PL.toNat → s.PB.toNat < 2 ^ 29 → s.PL.toNat < 2 ^ 29 → u.canLeave 1#12 c = true →
      one ≠ 0#12 → useCount w0 ≠ 4095#12 →
      home (left.putWord entry (setBit (setField w0 1 12 (useCount w0 + 1#12)) 29 true)))

/-- R620, R630, R631, R635, R636, D44: the conditions after an instruction, tested in this order: its own note-1 trap,
the Variable Trace, the User Trap for an overflow with T = 1 (O cleared; its parameter is a free value where no
arithmetic of this instruction set O, log entry 13), a message bit enabled by I and MASK (taken
on the ICS and cleared) and an enabled I/O level are all entered, each on top of the one before; where none of them is
true, the first of P outside PB..PL, S beyond SL, P = BRKPT and the Machine Instruction Trap is; else EM is set. An
I/O level whose devices are all serviced makes no entry. P = PL + 2 counts as outside, by the formula of R636 and
against its sentence about the right half of the word at PL: the model's choice (log entry 42). -/
def Obligations.EndOfInstructionConditions : Prop :=
  ∀ (s t : State) (b : Base) (off : BitVec 19) (e : Effective) (lo : BitVec 5) (hi : BitVec 19),
    let n := s.advanced .nop
    let ra := s.P + 2#32
    let tests : M Unit := postEntryTests postEntryFuel false
    let sum : Int := (s.top 1).toInt + (s.top 0).toInt
    let u := ((s.putTop 1 (wordOf sum)).popped 1).setCC (ccWord (wordOf sum))
    let bits := s.MSG &&& ~~~ s.MASK &&& 0xE3FF0000#32
    let calm := (s.overflow && s.trapEnable) = false
    (s.hasStack 2 0 = true → s.canPop 1 = true → overflows32 sum = true → s.trapEnable = true →
      s.interruptEnable = false →
      exec (.add false) s = conclude s (do
        trapEntry .user (some 1#32) ra
        tests) ((u.setO false).advanced (.add false))) ∧
    (baseIsCode b = false → effective b off.toNat false false true 0 s = .ok (e, s) → s.hasWord e.addr = true →
      s.word e.addr = 0x7FFFFFFF#32 → s.tv = true → s.trapEnable = true → s.interruptEnable = false →
      exec (.incm false false b off) s = conclude s (do
        trapEntry .variableTrace (some e.pointer) (s.P + 4#32) (some 4#32)
        let v ← get
        trapEntry .user (some 1#32) v.P
        tests)
        ((((s.putWord e.addr 0x80000000#32).setCC (ccWord 0x80000000#32)).setO false).advanced (.incm false false b off))) ∧
    (s.overflow = true → s.trapEnable = true → s.interruptPending = false →
      exec .nop s = conclude s (do
        trapEntry .user (some (Config.freeWord s.freeCtr)) ra
        tests) { n.setO false with freeCtr := s.freeCtr + 1 }) ∧
    (calm → s.interruptEnable = true → bits ≠ 0#32 → s.levelBits = 0#32 →
      exec .nop s = conclude s (do
        icsTrapEntry .message (some bits) ra
        tests) { n with MSG := s.MSG &&& ~~~ bits }) ∧
    (calm → s.interruptEnable = true → bits ≠ 0#32 → s.levelBits ≠ 0#32 →
      exec .nop s = conclude s (do
        icsTrapEntry .message (some bits) ra
        let v ← get
        let _ ← interruptEntry v.P
        tests) { n with MSG := s.MSG &&& ~~~ bits }) ∧
    (calm → s.interruptEnable = true → bits ≠ 0#32 → s.levelBits = 0#32 → s.hasStack 1 0 = true →
      ((s.top 0).toInt < lo.toNat ∨ (hi.toNat : Int) < (s.top 0).toInt) →
      exec (.chek lo hi) s = conclude s (do
        trapEntry .check (some s.CIR) (s.P + 4#32)
        let v ← get
        messageTrap v.P
        tests) (s.advanced (.chek lo hi))) ∧
    (calm → s.interruptEnable = true → bits = 0#32 → s.levelBits ≠ 0#32 →
      (interruptEntry ra n = .ok (true, t) → exec .nop s = conclude s tests t) ∧
      (interruptEntry ra n = .ok (false, t) → t.outOfSequence = false → t.stackOverflowed = false → t.P ≠ t.BRKPT →
        (t.machineTrap && t.machineTrapEnable) = false → exec .nop s = .next (t.setEM true))) ∧
    (calm → s.interruptPending = false → n.outOfSequence = true →
      exec .nop s = conclude s (do
        trapEntry .sequencing none ra
        postEntryTests postEntryFuel true) n) ∧
    (calm → s.interruptPending = false → n.outOfSequence = false → n.stackOverflowed = true →
      exec .nop s = conclude s (do
        icsTrapEntry .stackOverflow none ra
        tests) n) ∧
    (calm → s.interruptPending = false → n.outOfSequence = false → n.stackOverflowed = false → ra = s.BRKPT →
      exec .nop s = conclude s (do
        trapEntry .breakpoint none ra
        tests) n) ∧
    (calm → s.interruptPending = false → n.outOfSequence = false → n.stackOverflowed = false → ra ≠ s.BRKPT →
      (s.machineTrap && s.machineTrapEnable) = true →
      exec .nop s = conclude s (do
        trapEntry .machineInstruction (some s.CIR) ra
        tests) n)

/-- R621, R641, R642, R646, R647: the switch from a process to the ICS saves S below SB, takes Q, SL and SB from the
CPU's block and keeps MASK at Q+8, and with S beyond SL first builds the stack overflow's frame, nested under what
follows; a switch on the ICS builds a frame with the global pointer and MASK, and closes a dispatcher's. The level
served is the highest pending one; its list being empty only clears its bit. R635, R647: a trap on the ICS raises SL
by 256 bytes when it is a stack overflow there, to an address of 29 bits (R81; log entry 44), switches to the ICS,
leaves its parameter at Q+12 and enters its handler in segment 1. R621: after an entry S beyond SL is such a stack
overflow, and else P outside PB..PL a sequencing trap, each followed by the same tests; that P = PL + 2 is outside,
against the sentence of R636 about the right half of the word at PL, is the model's choice (log entry 42); a
sequencing handler that is itself out of bounds stops the machine (R604). R642, R643: an interrupt entry takes the
first device off its level's list, the level's MSG bit going with the last one, switches to the ICS, masks the level
and all of lower priority, leaves the device number at Q+12, loads the device's data segment and enters its code in
privileged mode: through an external pointer, or in segment 0. -/
def Obligations.SwitchToTheInterruptStack : Prop :=
  (∀ (s : State) (ra : Word) (l : Nat),
    let m := s.marked ra
    let saved := m.putWord (s.SB - 4#32) (m.S - s.SB)
    let block := (field s.MASK 3 3).setWidth 32 * 16#32
    let qi := saved.word (block + 8#32)
    let sli := saved.word (block + 12#32)
    let ready := { saved.putWord (qi + 8#32) s.MASK with Q := qi, SL := sli, SB := qi - 259#32, icsFlag := true }
    let framed := { ready.putWord (qi + 12#32) 0x80050001#32 with S := qi + 12#32 }
    let kept := if s.dispFlag then { m.putWord m.Q (setBit (m.word m.Q) 0 true) with dispFlag := false } else m
    let order := if s.cfg.level0Highest then List.range 16 else (List.range 16).reverse
    (s.icsFlag = false → s.hasStack 0 4 = true → s.hasWord (s.SB - 4#32) = true → s.hasWord (block + 8#32) = true →
      s.hasWord (block + 12#32) = true → s.hasWord (qi + 8#32) = true → 259 ≤ qi.toNat → qi.toNat < 2 ^ 29 →
      sli.toNat < 2 ^ 29 →
      (m.S.toNat ≤ s.SL.toNat → switchToIcs ra s = .ok ((), ready)) ∧
      (s.SL.toNat < m.S.toNat → s.hasWord (qi + 12#32) = true → ∀ u v w, enterSegment1 framed = .ok ((), u) →
        enterHandler .stackOverflow u = .ok ((), v) → switchToIcs v.P { v with icsFlag := true } = .ok ((), w) →
        switchToIcs ra s = .ok ((), w))) ∧
    (s.icsFlag = true → s.hasStack 0 6 = true → s.hasWord s.SB = true →
      switchToIcs ra s = .ok ((), (kept.putWord (m.Q + 4#32) (kept.word s.SB)).putWord (m.Q + 8#32) s.MASK)) ∧
    (s.pendingLevel = some l →
      l < 16 ∧ bit s.MSG (16 + l) = true ∧ bit s.MASK (16 + l) = false ∧
        ∀ j < 16, bit s.MSG (16 + j) = true → bit s.MASK (16 + j) = false → order.idxOf l ≤ order.idxOf j) ∧
    (s.pendingLevel = some l → s.hasWord (BitVec.ofNat 32 (1024 + 8 * l)) = true →
      s.word (BitVec.ofNat 32 (1024 + 8 * l)) = 0#32 →
      interruptEntry ra s = .ok (false, { s with MSG := setBit s.MSG (16 + l) false }))) ∧
  (∀ (s u v w : State) (t : Trap) (param : Option Word) (ra : Word) (n : Nat) (in55 : Bool),
    let grown := if t = .stackOverflow ∧ s.icsFlag = true then { s with SL := s.SL + 256#32 } else s
    let parameter := param.getD (0x80000001#32 ||| BitVec.ofNat 32 (t.number * 16384))
    let framed := { s.putWord (s.Q + 12#32) 0x80050001#32 with S := s.Q + 12#32 }
    let beyond := s.SL.toNat < s.S.toNat
    let outside := s.P.toNat < s.PB.toNat ∨ s.PL.toNat < s.P.toNat
    ((t = .stackOverflow → s.icsFlag = true → s.SL.toNat + 256 < 2 ^ 29) → switchToIcs ra grown = .ok ((), v) →
      v.hasWord (v.Q + 12#32) = true → enterSegment1 { v.putWord (v.Q + 12#32) parameter with S := v.Q + 12#32 } = .ok ((), u) →
      enterHandler t u = .ok ((), w) → icsTrapEntry t param ra s = .ok ((), w)) ∧
    (s.hasWord (s.Q + 12#32) = true → enterSegment1 framed = .ok ((), u) → enterHandler .stackOverflow u = .ok ((), v) →
      v.icsFlag = true → switchToIcs v.P v = .ok ((), w) → overflowFrame s = .ok ((), w)) ∧
    (¬ beyond → ¬ outside → postEntryTests n in55 s = .ok ((), s)) ∧
    (beyond → icsTrapEntry .stackOverflow none s.P s = .ok ((), v) →
      postEntryTests (n + 1) in55 s = postEntryTests n false v) ∧
    (¬ beyond → outside → postEntryTests n true s = .error (.stuck .sequencingLoop) ∧
      ((trapEntry .sequencing none s.P : M Unit) s = .ok ((), v) →
        postEntryTests (n + 1) false s = postEntryTests n true v))) ∧
  (∀ (s v v2 v5 v6 : State) (ra : Word) (l : Nat) (f : TransferPlan) (g : SegmentChange),
    let order := if s.cfg.level0Highest then List.range 16 else (List.range 16).reverse
    let tail := BitVec.ofNat 32 (1024 + 8 * l)
    let head := BitVec.ofNat 32 (1028 + 8 * l)
    let dev := s.word head
    let link := s.mem.half (halfAlign dev).toNat
    let cut := (s.putWord head (link.setWidth 32)).putHalf dev 0#16
    let u := if link = 0#16 then { cut.putWord tail 0#32 with MSG := setBit s.MSG (16 + l) false } else cut
    let lower := lowerLevels s.cfg.level0Highest l
    let v1 := { v.putWord (v.Q + 12#32) dev with MASK := v.MASK ||| lower, S := v.Q + 12#32 }
    let data := v1.word (dev + 4#32)
    let v3 := v2.putWord v2.SB data
    let code := v3.word (dev + 8#32)
    let v4 := { v3 with STATUS := setField 0x00020000#32 20 12 v3.csn }
    let target := halfAlign (pointerOffset code)
    (l < 16 → ∀ j < 32, bit lower j = (decide (16 ≤ j) && decide (order.idxOf l ≤ order.idxOf (j - 16)))) ∧
    (s.pendingLevel = some l → s.hasWord tail = true → s.hasWord head = true → s.hasHalf dev = true →
      s.word tail ≠ 0#32 → switchToIcs ra u = .ok ((), v) → v.hasWord (v.Q + 12#32) = true →
      v.hasWord (dev + 4#32) = true → setDbDl data v1 = .ok ((), v2) → v2.hasWord v2.SB = true →
      v2.hasWord (dev + 8#32) = true →
      (bit code 0 = true → planTransfer code .call v4 = .ok (f, v5) → commitTransfer f v5 = .ok ((), v6) →
        v6.alignmentBug (halfAlign f.target) = false →
        interruptEntry ra s = .ok (true, { v6 with P := halfAlign f.target })) ∧
      (bit code 0 = false → v4.csn = 0#12 → v4.alignmentBug target = false →
        interruptEntry ra s = .ok (true, { v4 with PB := 0#32, PL := 0x1FFFFFFC#32, P := target })) ∧
      (bit code 0 = false → v4.csn ≠ 0#12 → planSegment 0#12 false v4 = .ok (g, v5) → commitSegment g v5 = .ok ((), v6) →
        v6.alignmentBug target = false →
        interruptEntry ra s = .ok (true, { v6 with STATUS := setField v6.STATUS 20 12 0#12, P := target }))))

/-- R660: the hardware reset saves the context of a stack that is in use, switches to the ICS and enters the reset
handler of segment 1 in privileged mode with the address lockout enabled, no use count changed; on the old chips in
secondary address mode. What an instruction under way has written stays. R545, R640: the moves of the other agents. A
bit of MSG is set only where agents set bits on their own; a slave write leaves address and data in SAR and SDR with
MSG bit 6; a device that is on no list links its entry at the tail of its level's list and sets the level's bit; a
byte is written outside the dedicated locations; a reset is R660's. A step makes the next scheduled move, or schedules
a poll. That a move comes between two instructions or at a poll is the model's choice (log entries 7 and 8). -/
def Obligations.HardwareResetEntersTheHandler : Prop :=
  (∀ s : State,
    let m := s.marked s.P
    let v := if s.SB = 0#32 then s else m.putWord (m.SB - 4#32) (m.S - m.SB)
    let block := (field s.MASK 3 3).setWidth 32 * 16#32
    let qi := v.word (block + 8#32)
    let w := (v.putWord (qi + 8#32) s.MASK).putWord (qi + 12#32) 0x80020001#32
    let entry := w.word 0#32 + 16#32
    let loc := w.word (entry + 8#32)
    let pl : Int := (loc.toNat : Int) + (w.word (entry + 4#32)).toNat - 3
    let slot := wordOf pl - 32#32
    let target := (loc + (w.word slot &&& 0x3FFFFFFF#32)) &&& 0xFFFFFFFE#32
    (s.SB = 0#32 ∨ s.hasStack 0 4 = true ∧ s.hasWord (s.SB - 4#32) = true) →
    259 ≤ qi.toNat → qi.toNat < 2 ^ 29 → (v.word (block + 12#32)).toNat < 2 ^ 29 → (w.word 0#32).toNat + 16 < 2 ^ 29 →
    loc.toNat < 2 ^ 29 → 0 ≤ pl → pl < 2 ^ 29 →
    (∀ a ∈ [block + 8#32, block + 12#32, qi + 8#32, qi + 12#32, 0#32, entry + 4#32, entry + 8#32, slot],
      s.hasWord a = true) →
    w.alignmentBug target = false →
    hardwareReset s = .ok ((), { w with
      P := target, PB := loc, PL := wordOf pl, Q := qi, S := qi + 12#32, SL := v.word (block + 12#32), SB := qi - 259#32,
      STATUS := 0x00020001#32, icsFlag := true, dispFlag := false, secondary := s.cfg.rev != .fixed, lockout := true,
      run := .running, prevDup := false, owned := [] })) ∧
  (∀ (s t : State) (bits addr data : Word) (v : Byte) (level : BitVec 4) (channel : Fin 7)
    (periph : BitVec 3) (m : Move) (rest : List EnvAction) (k : Nat) (moves : List Move),
    let dev := BitVec.ofNat 32 (128 * (channel.val + 1) + 16 * periph.toNat)
    let tail := BitVec.ofNat 32 (1024 + 8 * level.toNat)
    let head := BitVec.ofNat 32 (1028 + 8 * level.toNat)
    let last := s.word tail
    let link := s.mem.half dev.toNat
    let listed := link ≠ 0#16 ∨ ∃ l < 16, s.word (BitVec.ofNat 32 (1024 + 8 * l)) = dev
    let linked := fun u : State => { u.putWord tail dev with MSG := setBit s.MSG (16 + level.toNat) true }
    let request := deliver (.interrupt level channel periph) s
    let next := { s with inputs := rest }
    deliver (.setMsg bits) s = .ok ((), { s with MSG := s.MSG ||| (bits &&& 0xE1CF0000#32) }) ∧
    deliver (.slaveWrite addr data) s = .ok ((), { s with SAR := addr, SDR := data, MSG := s.MSG ||| 0x02000000#32 }) ∧
    (listed → request = .ok ((), s)) ∧
    (¬ listed → s.hasWord tail = true → s.hasWord head = true → last = 0#32 →
      request = .ok ((), linked (s.putWord head dev))) ∧
    (¬ listed → s.hasWord tail = true → last ≠ 0#32 → s.hasHalf last = true →
      request = .ok ((), linked (s.putHalf last (dev.setWidth 16)))) ∧
    (16 ≤ addr.toNat → addr.toNat < 0o2200 → deliver (.writeByte addr v) s = .ok ((), s)) ∧
    (addr.toNat < 16 ∨ 0o2200 ≤ addr.toNat → s.hasByte addr = true →
      deliver (.writeByte addr v) s = .ok ((), s.putByte addr v)) ∧
    deliver .reset s = hardwareReset s ∧
    (s.inputs = .pass :: rest → step s = cpuStep next) ∧
    (s.inputs = .move m :: rest → deliver m next = .ok ((), t) → step s = .next t) ∧
    (s.inputs = .pollInside k moves :: rest → step s = .next { next with poll := some { iteration := k, moves := moves } }))

/-! ## The whole machine -/

/-- R160 to R178: the words of some instructions of every format, written out from the encoding tables, decode to
them. -/
def Obligations.SampleWordsDecode : Prop :=
  ∀ c ∈ [(0x4504#32, Instr.lds false false .qMinus 4), (0xCE03#32, .bccs false 7 false 3),
      (0xE8100008#32, .ld false false .dbPlus 8), (0xF9280008#32, .bcc false 2 true 8),
      (0xF8A00004#32, .br true false .qPlus 4), (0x0EC3#32, .crb false false 3), (0x3202#32, .pcls 2),
      (0x3F0F#32, .andi 0x0F), (0x0020#32, .del), (0x0045#32, .lsi false), (0x1045#32, .lsi true),
      (0x107F#32, .stop true), (0x0000#32, .nop), (0x0037#32, .and)],
    decodeCir c.1 = .instr c.2

/-- R160 to R178: every well-formed instruction is what its encoding decodes to, and a word of CIR that decodes to an
instruction is that instruction's encoding. R167, R168: a word of CIR begins with OP1 = 7, or it has a 16-bit
instruction right justified, with 0 in the left halfword; every encoding has this form, and so has every word that a
fetch loads into CIR. -/
def Obligations.DecodeAndEncodeAgree : Prop :=
  let held := fun w : Word => field w 0 3 = 7#3 ∨ field w 0 16 = 0#16
  (∀ i : Instr, WellFormed i = true → decodeCir (encode i) = .instr i) ∧
    (∀ (w : Word) (i : Instr), held w → decodeCir w = .instr i → encode i = w) ∧
    (∀ i : Instr, held (encode i)) ∧
    (∀ (s t : State) (w : Word), fetch s = .ok (w, t) → held w ∧ t.CIR = w)

/-- R168: where the halfword or word at P decodes to an instruction, a step of the running CPU is that instruction on
the state with CIR loaded; R177: an unassigned opcode ends in the Unimplemented trap with CIR as its parameter. A CPU
that waits for a table semaphore (R124) starts from the state with its own entries given back; one that does not wait,
from s. That a wait ends the step and the next one starts the instruction again is the model's choice (log entry 10).
-/
def Obligations.StepRunsTheDecodedInstruction : Prop :=
  ∀ (s : State) (i : Instr),
    let r := s.regained
    let w := r.word r.P
    let h := if bit r.P 30 then field w 16 16 else field w 0 16
    let long := field h 0 3 == 7#3
    let cir : Word := if long then w else h.setWidth 32
    let t := { r with CIR := cir }
    let n := { t with P := r.P + (if long then 4#32 else 2#32), prevDup := false }
    (s.owned = [] → r = s) ∧
    (s.inputs = [] → s.run = .running → r.hasWord r.P = true → (long = true → bit r.P 30 = false) →
      (decodeCir cir = .instr i → step s = exec i t) ∧
      (decodeCir cir = .unimplemented → s.cfg.rev ≠ .le33 → (t.overflow && t.trapEnable) = false →
        t.interruptPending = false →
        step s = conclude t (do
          trapEntry .unimplemented (some cir) n.P
          postEntryTests postEntryFuel false) n))

/-- R671: in user mode every privileged instruction raises PrivilegedModeViolation(1) before anything else. -/
def Obligations.PrivilegedInstructionsTrapInUserMode : Prop :=
  ∀ (s : State) (b d : Bool) (n : BitVec 8) (m : BitVec 3) (f : BitVec 3) (k : BitVec 2),
    s.privileged = false →
    ∀ i ∈ [Instr.plda b, .plba b, .plha b, .psla b, .psta b, .psba b, .psha b, .adds n, .pmva d k, .stop b, .disp, .psdb,
        .pseb, .ixit, .int b, .smpb m, .iow n, .ior n, .ioc n, .llsh f, .lins, .ldel, .cpaa b, .rfc b, .wtc b, .rsc,
        .smsg b, .alm b, .muc b, .gtsp],
      Raises i s .privilegedMode (some 1#32)

/-- R21, R40, R81: what every step keeps: memory in its canonical form inside the address space, an even P, and MSG
bits 3 to 5 zero; and no step changes a parameter of R6. -/
def Obligations.EveryStepKeepsTheInvariant : Prop :=
  ∀ s t : State, step s = .next t → s.mem.wf = true → bit s.P 31 = false → field s.MSG 3 3 = 0#3 →
    t.mem.wf = true ∧ bit t.P 31 = false ∧ field t.MSG 3 3 = 0#3 ∧ t.cfg = s.cfg

/-- R70: the state after reset has that invariant, and the STATUS, flags and modes that R70 gives; S is at Q + 12 and SB
at Q - 259; the word at Q + 8 is the saved MASK and the word at Q + 12 the external program pointer 0x80020001. -/
def Obligations.ResetState : Prop :=
  let s := State.reset
  s.mem.wf = true ∧ bit s.P 31 = false ∧ field s.MSG 3 3 = 0#3 ∧
    s.STATUS = 0x00020001#32 ∧ s.privileged = true ∧ s.csn = 1#12 ∧ s.S = s.Q + 12#32 ∧ s.SB = s.Q - 259#32 ∧
    s.icsFlag = true ∧ s.dispFlag = false ∧ s.lockout = true ∧ s.secondary = false ∧ s.run = .running ∧ s.owned = [] ∧
    s.word (s.Q + 8#32) = s.MASK ∧ s.word (s.Q + 12#32) = 0x80020001#32

/-- R40, R45 to R54: which instructions change which special register, where no other agent acts at a poll inside the
instruction (R626; that no agent moves inside another instruction is log entry 8; another agent's move may set SAR and
SDR, and a reset changes most of them): no instruction writes SAR, SDR, CIR or the inputs; BRKPT and FLAGS change in
SETR alone, the lockout in ALM, debug pad 5 in WAIT, secondary mode in IOR, DST in SETR, GTSP and IXIT, the run state
in STOP and WTC. MASK changes in SMPB, STOP and IXIT, where no I/O level is pending and unmasked. MSG changes in SMPB,
in the MPB instructions and after IXIT has restored MASK, where no bit of it is pending and unmasked and MEM_MAP has no
hole (an access to one sets bits 1 and 2, R84). IXIT alone clears the ICS flag, which any instruction may set that ends
in an interrupt or in a trap that runs on the ICS; DISP, PSEB and IXIT alone set the DISP flag, which such an entry
clears (R50, R51). -/
def Obligations.SpecialRegistersChangeOnlyWhereNamed : Prop :=
  ∀ (i : Instr) (s t : State), s.poll = none → exec i s = .next t →
    t.SAR = s.SAR ∧ t.SDR = s.SDR ∧ t.inputs = s.inputs ∧ t.CIR = s.CIR ∧
    ((∀ sel, i ≠ .setr sel) → t.BRKPT = s.BRKPT ∧ t.FLAGS = s.FLAGS) ∧
    ((∀ b, i ≠ .alm b) → t.lockout = s.lockout) ∧
    ((∀ b, i ≠ .wait b) → t.debugPad5 = s.debugPad5) ∧
    ((∀ n, i ≠ .ior n) → t.secondary = s.secondary) ∧
    ((∀ sel, i ≠ .setr sel) → i ≠ .gtsp → i ≠ .ixit → t.DST = s.DST) ∧
    ((∀ b, i ≠ .stop b) → (∀ b, i ≠ .wtc b) → t.run = s.run) ∧
    (s.levelBits = 0#32 → (∀ m, i ≠ .smpb m) → (∀ b, i ≠ .stop b) → i ≠ .ixit → t.MASK = s.MASK) ∧
    (s.messageBits = 0#32 → s.levelBits = 0#32 → s.cfg.holes = [] → (∀ m, i ≠ .smpb m) → i ≠ .ixit →
      (∀ n, i ≠ .iow n ∧ i ≠ .ior n ∧ i ≠ .ioc n) → (∀ b, i ≠ .rfc b ∧ i ≠ .wtc b ∧ i ≠ .smsg b) → t.MSG = s.MSG) ∧
    (s.icsFlag = true → i ≠ .ixit → t.icsFlag = true) ∧
    (s.dispFlag = false → i ≠ .disp → i ≠ .pseb → i ≠ .ixit → t.dispFlag = false)

/-- R670, R671: no instruction in user mode, whatever traps or interrupts it meets, changes BRKPT, DST, SAR, SDR, the
system bits of FLAGS, the lockout, the address mode or the run state, or sends anything on the MPB, where no other
agent acts at a poll inside it (log entry 8). -/
def Obligations.UserModeKeepsThePrivilegedRegisters : Prop :=
  ∀ (i : Instr) (s t : State), s.privileged = false → s.poll = none → exec i s = .next t →
    t.BRKPT = s.BRKPT ∧ t.DST = s.DST ∧ t.SAR = s.SAR ∧ t.SDR = s.SDR ∧ t.FLAGS &&& 0x55#8 = s.FLAGS &&& 0x55#8 ∧
      t.lockout = s.lockout ∧ t.secondary = s.secondary ∧ t.run = s.run ∧ t.sent = s.sent
end

