-- ==== Sys2Proof/Laws/Fields.lean ====
section
/-! SUPPORT. Bit fields: what a field of a changed word reads as (spec/00_scope.md rule R7), and each STATUS field after
each STATUS update (spec/10_state.md rules R30 to R39). -/

namespace Sys2Proof.Machine

theorem bit_eq_getElem {w : Nat} (v : BitVec w) (n : Nat) : bit v n = v.getLsbD (w - n - 1) := rfl

/-- A bit of a word in which the field (n:m) was replaced. -/
theorem bit_setField {w : Nat} (v : BitVec w) (n m k : Nat) (e : BitVec m) (h : n + m ≤ w) (hk : k < w) :
    bit (setField v n m e) k = if n ≤ k ∧ k < n + m then bit e (k - n) else bit v k := by
  unfold bit setField fieldMask
  simp only [BitVec.getLsbD_or, BitVec.getLsbD_and, BitVec.getLsbD_not, BitVec.getLsbD_shiftLeft,
    BitVec.getLsbD_setWidth, BitVec.getLsbD_allOnes]
  by_cases h1 : n ≤ k ∧ k < n + m
  · have a1 : ¬ (w - k - 1 < w - n - m) := by omega
    have a2 : w - k - 1 - (w - n - m) < m := by omega
    have a3 : w - k - 1 - (w - n - m) = m - (k - n) - 1 := by omega
    have a4 : w - k - 1 < w := by omega
    have a5 : m - (k - n) - 1 < w := by omega
    have a6 : m - (k - n) - 1 < m := by omega
    simp [h1, a1, a3, a4, a5, a6]
  · simp only [h1, if_false]
    have a4 : w - k - 1 < w := by omega
    by_cases h2 : k < n
    · have : m ≤ w - k - 1 - (w - n - m) := by omega
      have b : ¬ (w - k - 1 - (w - n - m) < m) := by omega
      simp [a4, b, BitVec.getLsbD_of_ge e _ this]
    · have b : w - k - 1 < w - n - m := by omega
      simp [a4, b]

@[simp] theorem bit_ofBool (b : Bool) : bit (BitVec.ofBool b) 0 = b := by
  cases b <;> rfl

/-- The field that was replaced. -/
@[simp] theorem field_setField {w : Nat} (v : BitVec w) (n m : Nat) (e : BitVec m) (h : n + m ≤ w := by decide) :
    field (setField v n m e) n m = e := by
  apply BitVec.eq_of_getLsbD_eq
  intro i hi
  have key := bit_setField v n m (n + (m - 1 - i)) e h (by omega)
  simp only [bit] at key
  rw [if_pos (by omega)] at key
  have e1 : w - (n + (m - 1 - i)) - 1 = w - n - m + i := by omega
  have e2 : m - (n + (m - 1 - i) - n) - 1 = i := by omega
  rw [e1, e2] at key
  simp [field, hi, key]

/-- A field apart from the one that was replaced. -/
theorem field_setField_apart {w : Nat} (v : BitVec w) (n m n' m' : Nat) (e : BitVec m) (h : n + m ≤ w)
    (h' : n' + m' ≤ w) (d : n' + m' ≤ n ∨ n + m ≤ n') : field (setField v n m e) n' m' = field v n' m' := by
  apply BitVec.eq_of_getLsbD_eq
  intro i hi
  have key := bit_setField v n m (n' + (m' - 1 - i)) e h (by omega)
  simp only [bit] at key
  rw [if_neg (by omega)] at key
  have e1 : w - (n' + (m' - 1 - i)) - 1 = w - n' - m' + i := by omega
  rw [e1] at key
  simp [field, hi, key]

/-- A bit that was set, of a 32-bit word. -/
@[simp] theorem bit_setBit_same (v : Word) (n : Nat) (b : Bool) (h : n < 32 := by decide) : bit (setBit v n b) n = b := by
  rw [setBit, bit_setField v n 1 n _ (by omega) (by omega)]
  simp

/-- Another bit of a 32-bit word. -/
theorem bit_setBit_other (v : Word) (n k : Nat) (b : Bool) (hn : n < 32) (hk : k < 32) (d : k ≠ n) :
    bit (setBit v n b) k = bit v k := by
  rw [setBit, bit_setField v n 1 k _ (by omega) hk, if_neg (by omega)]

@[simp] theorem State.tv_setCC (s : State) (c : BitVec 2) : (s.setCC c).tv = s.tv := by
  simp [State.tv, State.setCC, bit_setField]
@[simp] theorem State.startLine_setCC (s : State) (c : BitVec 2) : (s.setCC c).startLine = s.startLine := by
  simp [State.startLine, State.setCC, bit_setField]
@[simp] theorem State.endProc_setCC (s : State) (c : BitVec 2) : (s.setCC c).endProc = s.endProc := by
  simp [State.endProc, State.setCC, bit_setField]
@[simp] theorem State.startSub_setCC (s : State) (c : BitVec 2) : (s.setCC c).startSub = s.startSub := by
  simp [State.startSub, State.setCC, bit_setField]
@[simp] theorem State.endSub_setCC (s : State) (c : BitVec 2) : (s.setCC c).endSub = s.endSub := by
  simp [State.endSub, State.setCC, bit_setField]
@[simp] theorem State.inexact_setCC (s : State) (c : BitVec 2) : (s.setCC c).inexact = s.inexact := by
  simp [State.inexact, State.setCC, bit_setField]
@[simp] theorem State.carry_setCC (s : State) (c : BitVec 2) : (s.setCC c).carry = s.carry := by
  simp [State.carry, State.setCC, bit_setField]
@[simp] theorem State.overflow_setCC (s : State) (c : BitVec 2) : (s.setCC c).overflow = s.overflow := by
  simp [State.overflow, State.setCC, bit_setField]
@[simp] theorem State.trapEnable_setCC (s : State) (c : BitVec 2) : (s.setCC c).trapEnable = s.trapEnable := by
  cases h : s.cfg.tBit <;> simp [State.trapEnable, State.setCC, bit_setField, SpareBit.pos, h]
@[simp] theorem State.pending_setCC (s : State) (c : BitVec 2) : (s.setCC c).pending = s.pending := by
  simp [State.pending, State.setCC, bit_setField]
@[simp] theorem State.rounding_setCC (s : State) (c : BitVec 2) : (s.setCC c).rounding = s.rounding := by
  simp [State.rounding, State.setCC, field_setField_apart]
@[simp] theorem State.interruptEnable_setCC (s : State) (c : BitVec 2) : (s.setCC c).interruptEnable = s.interruptEnable := by
  simp [State.interruptEnable, State.setCC, bit_setField]
@[simp] theorem State.privileged_setCC (s : State) (c : BitVec 2) : (s.setCC c).privileged = s.privileged := by
  simp [State.privileged, State.setCC, bit_setField]
@[simp] theorem State.cc_setCC (s : State) (c : BitVec 2) : (s.setCC c).cc = c := by
  simp [State.cc, State.setCC]
@[simp] theorem State.machineTrap_setCC (s : State) (c : BitVec 2) : (s.setCC c).machineTrap = s.machineTrap := by
  cases h : s.cfg.miBit <;> simp [State.machineTrap, State.setCC, bit_setField, SpareBit.pos, h]
@[simp] theorem State.machineTrapEnable_setCC (s : State) (c : BitVec 2) : (s.setCC c).machineTrapEnable = s.machineTrapEnable := by
  simp [State.machineTrapEnable, State.setCC, bit_setField]
@[simp] theorem State.csn_setCC (s : State) (c : BitVec 2) : (s.setCC c).csn = s.csn := by
  simp [State.csn, State.setCC, field_setField_apart]

@[simp] theorem State.tv_setCarry (s : State) (b : Bool) : (s.setCarry b).tv = s.tv := by
  simp [State.tv, State.setCarry, setBit, bit_setField]
@[simp] theorem State.startLine_setCarry (s : State) (b : Bool) : (s.setCarry b).startLine = s.startLine := by
  simp [State.startLine, State.setCarry, setBit, bit_setField]
@[simp] theorem State.endProc_setCarry (s : State) (b : Bool) : (s.setCarry b).endProc = s.endProc := by
  simp [State.endProc, State.setCarry, setBit, bit_setField]
@[simp] theorem State.startSub_setCarry (s : State) (b : Bool) : (s.setCarry b).startSub = s.startSub := by
  simp [State.startSub, State.setCarry, setBit, bit_setField]
@[simp] theorem State.endSub_setCarry (s : State) (b : Bool) : (s.setCarry b).endSub = s.endSub := by
  simp [State.endSub, State.setCarry, setBit, bit_setField]
@[simp] theorem State.inexact_setCarry (s : State) (b : Bool) : (s.setCarry b).inexact = s.inexact := by
  simp [State.inexact, State.setCarry, setBit, bit_setField]
@[simp] theorem State.carry_setCarry (s : State) (b : Bool) : (s.setCarry b).carry = b := by
  simp [State.carry, State.setCarry]
@[simp] theorem State.overflow_setCarry (s : State) (b : Bool) : (s.setCarry b).overflow = s.overflow := by
  simp [State.overflow, State.setCarry, setBit, bit_setField]
@[simp] theorem State.trapEnable_setCarry (s : State) (b : Bool) : (s.setCarry b).trapEnable = s.trapEnable := by
  cases h : s.cfg.tBit <;> simp [State.trapEnable, State.setCarry, setBit, bit_setField, SpareBit.pos, h]
@[simp] theorem State.pending_setCarry (s : State) (b : Bool) : (s.setCarry b).pending = s.pending := by
  simp [State.pending, State.setCarry, setBit, bit_setField]
@[simp] theorem State.rounding_setCarry (s : State) (b : Bool) : (s.setCarry b).rounding = s.rounding := by
  simp [State.rounding, State.setCarry, setBit, field_setField_apart]
@[simp] theorem State.interruptEnable_setCarry (s : State) (b : Bool) : (s.setCarry b).interruptEnable = s.interruptEnable := by
  simp [State.interruptEnable, State.setCarry, setBit, bit_setField]
@[simp] theorem State.privileged_setCarry (s : State) (b : Bool) : (s.setCarry b).privileged = s.privileged := by
  simp [State.privileged, State.setCarry, setBit, bit_setField]
@[simp] theorem State.cc_setCarry (s : State) (b : Bool) : (s.setCarry b).cc = s.cc := by
  simp [State.cc, State.setCarry, setBit, field_setField_apart]
@[simp] theorem State.machineTrap_setCarry (s : State) (b : Bool) : (s.setCarry b).machineTrap = s.machineTrap := by
  cases h : s.cfg.miBit <;> simp [State.machineTrap, State.setCarry, setBit, bit_setField, SpareBit.pos, h]
@[simp] theorem State.machineTrapEnable_setCarry (s : State) (b : Bool) : (s.setCarry b).machineTrapEnable = s.machineTrapEnable := by
  simp [State.machineTrapEnable, State.setCarry, setBit, bit_setField]
@[simp] theorem State.csn_setCarry (s : State) (b : Bool) : (s.setCarry b).csn = s.csn := by
  simp [State.csn, State.setCarry, setBit, field_setField_apart]

@[simp] theorem State.tv_setO (s : State) (b : Bool) : (s.setO b).tv = s.tv := by
  simp [State.tv, State.setO, setBit, bit_setField]
@[simp] theorem State.startLine_setO (s : State) (b : Bool) : (s.setO b).startLine = s.startLine := by
  simp [State.startLine, State.setO, setBit, bit_setField]
@[simp] theorem State.endProc_setO (s : State) (b : Bool) : (s.setO b).endProc = s.endProc := by
  simp [State.endProc, State.setO, setBit, bit_setField]
@[simp] theorem State.startSub_setO (s : State) (b : Bool) : (s.setO b).startSub = s.startSub := by
  simp [State.startSub, State.setO, setBit, bit_setField]
@[simp] theorem State.endSub_setO (s : State) (b : Bool) : (s.setO b).endSub = s.endSub := by
  simp [State.endSub, State.setO, setBit, bit_setField]
@[simp] theorem State.inexact_setO (s : State) (b : Bool) : (s.setO b).inexact = s.inexact := by
  simp [State.inexact, State.setO, setBit, bit_setField]
@[simp] theorem State.carry_setO (s : State) (b : Bool) : (s.setO b).carry = s.carry := by
  simp [State.carry, State.setO, setBit, bit_setField]
@[simp] theorem State.overflow_setO (s : State) (b : Bool) : (s.setO b).overflow = b := by
  simp [State.overflow, State.setO]
@[simp] theorem State.trapEnable_setO (s : State) (b : Bool) : (s.setO b).trapEnable = s.trapEnable := by
  cases h : s.cfg.tBit <;> simp [State.trapEnable, State.setO, setBit, bit_setField, SpareBit.pos, h]
@[simp] theorem State.pending_setO (s : State) (b : Bool) : (s.setO b).pending = s.pending := by
  simp [State.pending, State.setO, setBit, bit_setField]
@[simp] theorem State.rounding_setO (s : State) (b : Bool) : (s.setO b).rounding = s.rounding := by
  simp [State.rounding, State.setO, setBit, field_setField_apart]
@[simp] theorem State.interruptEnable_setO (s : State) (b : Bool) : (s.setO b).interruptEnable = s.interruptEnable := by
  simp [State.interruptEnable, State.setO, setBit, bit_setField]
@[simp] theorem State.privileged_setO (s : State) (b : Bool) : (s.setO b).privileged = s.privileged := by
  simp [State.privileged, State.setO, setBit, bit_setField]
@[simp] theorem State.cc_setO (s : State) (b : Bool) : (s.setO b).cc = s.cc := by
  simp [State.cc, State.setO, setBit, field_setField_apart]
@[simp] theorem State.machineTrap_setO (s : State) (b : Bool) : (s.setO b).machineTrap = s.machineTrap := by
  cases h : s.cfg.miBit <;> simp [State.machineTrap, State.setO, setBit, bit_setField, SpareBit.pos, h]
@[simp] theorem State.machineTrapEnable_setO (s : State) (b : Bool) : (s.setO b).machineTrapEnable = s.machineTrapEnable := by
  simp [State.machineTrapEnable, State.setO, setBit, bit_setField]
@[simp] theorem State.csn_setO (s : State) (b : Bool) : (s.setO b).csn = s.csn := by
  simp [State.csn, State.setO, setBit, field_setField_apart]

@[simp] theorem State.tv_setInexact (s : State) (b : Bool) : (s.setInexact b).tv = s.tv := by
  simp [State.tv, State.setInexact, setBit, bit_setField]
@[simp] theorem State.startLine_setInexact (s : State) (b : Bool) : (s.setInexact b).startLine = s.startLine := by
  simp [State.startLine, State.setInexact, setBit, bit_setField]
@[simp] theorem State.endProc_setInexact (s : State) (b : Bool) : (s.setInexact b).endProc = s.endProc := by
  simp [State.endProc, State.setInexact, setBit, bit_setField]
@[simp] theorem State.startSub_setInexact (s : State) (b : Bool) : (s.setInexact b).startSub = s.startSub := by
  simp [State.startSub, State.setInexact, setBit, bit_setField]
@[simp] theorem State.endSub_setInexact (s : State) (b : Bool) : (s.setInexact b).endSub = s.endSub := by
  simp [State.endSub, State.setInexact, setBit, bit_setField]
@[simp] theorem State.inexact_setInexact (s : State) (b : Bool) : (s.setInexact b).inexact = b := by
  simp [State.inexact, State.setInexact]
@[simp] theorem State.carry_setInexact (s : State) (b : Bool) : (s.setInexact b).carry = s.carry := by
  simp [State.carry, State.setInexact, setBit, bit_setField]
@[simp] theorem State.overflow_setInexact (s : State) (b : Bool) : (s.setInexact b).overflow = s.overflow := by
  simp [State.overflow, State.setInexact, setBit, bit_setField]
@[simp] theorem State.trapEnable_setInexact (s : State) (b : Bool) : (s.setInexact b).trapEnable = s.trapEnable := by
  cases h : s.cfg.tBit <;> simp [State.trapEnable, State.setInexact, setBit, bit_setField, SpareBit.pos, h]
@[simp] theorem State.pending_setInexact (s : State) (b : Bool) : (s.setInexact b).pending = s.pending := by
  simp [State.pending, State.setInexact, setBit, bit_setField]
@[simp] theorem State.rounding_setInexact (s : State) (b : Bool) : (s.setInexact b).rounding = s.rounding := by
  simp [State.rounding, State.setInexact, setBit, field_setField_apart]
@[simp] theorem State.interruptEnable_setInexact (s : State) (b : Bool) : (s.setInexact b).interruptEnable = s.interruptEnable := by
  simp [State.interruptEnable, State.setInexact, setBit, bit_setField]
@[simp] theorem State.privileged_setInexact (s : State) (b : Bool) : (s.setInexact b).privileged = s.privileged := by
  simp [State.privileged, State.setInexact, setBit, bit_setField]
@[simp] theorem State.cc_setInexact (s : State) (b : Bool) : (s.setInexact b).cc = s.cc := by
  simp [State.cc, State.setInexact, setBit, field_setField_apart]
@[simp] theorem State.machineTrap_setInexact (s : State) (b : Bool) : (s.setInexact b).machineTrap = s.machineTrap := by
  cases h : s.cfg.miBit <;> simp [State.machineTrap, State.setInexact, setBit, bit_setField, SpareBit.pos, h]
@[simp] theorem State.machineTrapEnable_setInexact (s : State) (b : Bool) : (s.setInexact b).machineTrapEnable = s.machineTrapEnable := by
  simp [State.machineTrapEnable, State.setInexact, setBit, bit_setField]
@[simp] theorem State.csn_setInexact (s : State) (b : Bool) : (s.setInexact b).csn = s.csn := by
  simp [State.csn, State.setInexact, setBit, field_setField_apart]

@[simp] theorem State.tv_setPending (s : State) (b : Bool) : (s.setPending b).tv = s.tv := by
  simp [State.tv, State.setPending, setBit, bit_setField]
@[simp] theorem State.startLine_setPending (s : State) (b : Bool) : (s.setPending b).startLine = s.startLine := by
  simp [State.startLine, State.setPending, setBit, bit_setField]
@[simp] theorem State.endProc_setPending (s : State) (b : Bool) : (s.setPending b).endProc = s.endProc := by
  simp [State.endProc, State.setPending, setBit, bit_setField]
@[simp] theorem State.startSub_setPending (s : State) (b : Bool) : (s.setPending b).startSub = s.startSub := by
  simp [State.startSub, State.setPending, setBit, bit_setField]
@[simp] theorem State.endSub_setPending (s : State) (b : Bool) : (s.setPending b).endSub = s.endSub := by
  simp [State.endSub, State.setPending, setBit, bit_setField]
@[simp] theorem State.inexact_setPending (s : State) (b : Bool) : (s.setPending b).inexact = s.inexact := by
  simp [State.inexact, State.setPending, setBit, bit_setField]
@[simp] theorem State.carry_setPending (s : State) (b : Bool) : (s.setPending b).carry = s.carry := by
  simp [State.carry, State.setPending, setBit, bit_setField]
@[simp] theorem State.overflow_setPending (s : State) (b : Bool) : (s.setPending b).overflow = s.overflow := by
  simp [State.overflow, State.setPending, setBit, bit_setField]
@[simp] theorem State.trapEnable_setPending (s : State) (b : Bool) : (s.setPending b).trapEnable = s.trapEnable := by
  cases h : s.cfg.tBit <;> simp [State.trapEnable, State.setPending, setBit, bit_setField, SpareBit.pos, h]
@[simp] theorem State.pending_setPending (s : State) (b : Bool) : (s.setPending b).pending = b := by
  simp [State.pending, State.setPending]
@[simp] theorem State.rounding_setPending (s : State) (b : Bool) : (s.setPending b).rounding = s.rounding := by
  simp [State.rounding, State.setPending, setBit, field_setField_apart]
@[simp] theorem State.interruptEnable_setPending (s : State) (b : Bool) : (s.setPending b).interruptEnable = s.interruptEnable := by
  simp [State.interruptEnable, State.setPending, setBit, bit_setField]
@[simp] theorem State.privileged_setPending (s : State) (b : Bool) : (s.setPending b).privileged = s.privileged := by
  simp [State.privileged, State.setPending, setBit, bit_setField]
@[simp] theorem State.cc_setPending (s : State) (b : Bool) : (s.setPending b).cc = s.cc := by
  simp [State.cc, State.setPending, setBit, field_setField_apart]
@[simp] theorem State.machineTrap_setPending (s : State) (b : Bool) : (s.setPending b).machineTrap = s.machineTrap := by
  cases h : s.cfg.miBit <;> simp [State.machineTrap, State.setPending, setBit, bit_setField, SpareBit.pos, h]
@[simp] theorem State.machineTrapEnable_setPending (s : State) (b : Bool) : (s.setPending b).machineTrapEnable = s.machineTrapEnable := by
  simp [State.machineTrapEnable, State.setPending, setBit, bit_setField]
@[simp] theorem State.csn_setPending (s : State) (b : Bool) : (s.setPending b).csn = s.csn := by
  simp [State.csn, State.setPending, setBit, field_setField_apart]

@[simp] theorem State.tv_setEM (s : State) (b : Bool) : (s.setEM b).tv = s.tv := by
  simp [State.tv, State.setEM, setBit, bit_setField]
@[simp] theorem State.startLine_setEM (s : State) (b : Bool) : (s.setEM b).startLine = s.startLine := by
  simp [State.startLine, State.setEM, setBit, bit_setField]
@[simp] theorem State.endProc_setEM (s : State) (b : Bool) : (s.setEM b).endProc = s.endProc := by
  simp [State.endProc, State.setEM, setBit, bit_setField]
@[simp] theorem State.startSub_setEM (s : State) (b : Bool) : (s.setEM b).startSub = s.startSub := by
  simp [State.startSub, State.setEM, setBit, bit_setField]
@[simp] theorem State.endSub_setEM (s : State) (b : Bool) : (s.setEM b).endSub = s.endSub := by
  simp [State.endSub, State.setEM, setBit, bit_setField]
@[simp] theorem State.inexact_setEM (s : State) (b : Bool) : (s.setEM b).inexact = s.inexact := by
  simp [State.inexact, State.setEM, setBit, bit_setField]
@[simp] theorem State.carry_setEM (s : State) (b : Bool) : (s.setEM b).carry = s.carry := by
  simp [State.carry, State.setEM, setBit, bit_setField]
@[simp] theorem State.overflow_setEM (s : State) (b : Bool) : (s.setEM b).overflow = s.overflow := by
  simp [State.overflow, State.setEM, setBit, bit_setField]
@[simp] theorem State.trapEnable_setEM (s : State) (b : Bool) : (s.setEM b).trapEnable = s.trapEnable := by
  cases h : s.cfg.tBit <;> simp [State.trapEnable, State.setEM, setBit, bit_setField, SpareBit.pos, h]
@[simp] theorem State.pending_setEM (s : State) (b : Bool) : (s.setEM b).pending = s.pending := by
  simp [State.pending, State.setEM, setBit, bit_setField]
@[simp] theorem State.rounding_setEM (s : State) (b : Bool) : (s.setEM b).rounding = s.rounding := by
  simp [State.rounding, State.setEM, setBit, field_setField_apart]
@[simp] theorem State.interruptEnable_setEM (s : State) (b : Bool) : (s.setEM b).interruptEnable = s.interruptEnable := by
  simp [State.interruptEnable, State.setEM, setBit, bit_setField]
@[simp] theorem State.privileged_setEM (s : State) (b : Bool) : (s.setEM b).privileged = s.privileged := by
  simp [State.privileged, State.setEM, setBit, bit_setField]
@[simp] theorem State.cc_setEM (s : State) (b : Bool) : (s.setEM b).cc = s.cc := by
  simp [State.cc, State.setEM, setBit, field_setField_apart]
@[simp] theorem State.machineTrap_setEM (s : State) (b : Bool) : (s.setEM b).machineTrap = s.machineTrap := by
  cases h : s.cfg.miBit <;> simp [State.machineTrap, State.setEM, setBit, bit_setField, SpareBit.pos, h]
@[simp] theorem State.machineTrapEnable_setEM (s : State) (b : Bool) : (s.setEM b).machineTrapEnable = b := by
  simp [State.machineTrapEnable, State.setEM]
@[simp] theorem State.csn_setEM (s : State) (b : Bool) : (s.setEM b).csn = s.csn := by
  simp [State.csn, State.setEM, setBit, field_setField_apart]

@[simp] theorem State.tv_setI (s : State) (b : Bool) : (s.setI b).tv = s.tv := by
  simp [State.tv, State.setI, setBit, bit_setField]
@[simp] theorem State.startLine_setI (s : State) (b : Bool) : (s.setI b).startLine = s.startLine := by
  simp [State.startLine, State.setI, setBit, bit_setField]
@[simp] theorem State.endProc_setI (s : State) (b : Bool) : (s.setI b).endProc = s.endProc := by
  simp [State.endProc, State.setI, setBit, bit_setField]
@[simp] theorem State.startSub_setI (s : State) (b : Bool) : (s.setI b).startSub = s.startSub := by
  simp [State.startSub, State.setI, setBit, bit_setField]
@[simp] theorem State.endSub_setI (s : State) (b : Bool) : (s.setI b).endSub = s.endSub := by
  simp [State.endSub, State.setI, setBit, bit_setField]
@[simp] theorem State.inexact_setI (s : State) (b : Bool) : (s.setI b).inexact = s.inexact := by
  simp [State.inexact, State.setI, setBit, bit_setField]
@[simp] theorem State.carry_setI (s : State) (b : Bool) : (s.setI b).carry = s.carry := by
  simp [State.carry, State.setI, setBit, bit_setField]
@[simp] theorem State.overflow_setI (s : State) (b : Bool) : (s.setI b).overflow = s.overflow := by
  simp [State.overflow, State.setI, setBit, bit_setField]
@[simp] theorem State.trapEnable_setI (s : State) (b : Bool) : (s.setI b).trapEnable = s.trapEnable := by
  cases h : s.cfg.tBit <;> simp [State.trapEnable, State.setI, setBit, bit_setField, SpareBit.pos, h]
@[simp] theorem State.pending_setI (s : State) (b : Bool) : (s.setI b).pending = s.pending := by
  simp [State.pending, State.setI, setBit, bit_setField]
@[simp] theorem State.rounding_setI (s : State) (b : Bool) : (s.setI b).rounding = s.rounding := by
  simp [State.rounding, State.setI, setBit, field_setField_apart]
@[simp] theorem State.interruptEnable_setI (s : State) (b : Bool) : (s.setI b).interruptEnable = b := by
  simp [State.interruptEnable, State.setI]
@[simp] theorem State.privileged_setI (s : State) (b : Bool) : (s.setI b).privileged = s.privileged := by
  simp [State.privileged, State.setI, setBit, bit_setField]
@[simp] theorem State.cc_setI (s : State) (b : Bool) : (s.setI b).cc = s.cc := by
  simp [State.cc, State.setI, setBit, field_setField_apart]
@[simp] theorem State.machineTrap_setI (s : State) (b : Bool) : (s.setI b).machineTrap = s.machineTrap := by
  cases h : s.cfg.miBit <;> simp [State.machineTrap, State.setI, setBit, bit_setField, SpareBit.pos, h]
@[simp] theorem State.machineTrapEnable_setI (s : State) (b : Bool) : (s.setI b).machineTrapEnable = s.machineTrapEnable := by
  simp [State.machineTrapEnable, State.setI, setBit, bit_setField]
@[simp] theorem State.csn_setI (s : State) (b : Bool) : (s.setI b).csn = s.csn := by
  simp [State.csn, State.setI, setBit, field_setField_apart]

@[simp] theorem State.tv_setRM (s : State) (c : BitVec 2) : (s.setRM c).tv = s.tv := by
  simp [State.tv, State.setRM, bit_setField]
@[simp] theorem State.startLine_setRM (s : State) (c : BitVec 2) : (s.setRM c).startLine = s.startLine := by
  simp [State.startLine, State.setRM, bit_setField]
@[simp] theorem State.endProc_setRM (s : State) (c : BitVec 2) : (s.setRM c).endProc = s.endProc := by
  simp [State.endProc, State.setRM, bit_setField]
@[simp] theorem State.startSub_setRM (s : State) (c : BitVec 2) : (s.setRM c).startSub = s.startSub := by
  simp [State.startSub, State.setRM, bit_setField]
@[simp] theorem State.endSub_setRM (s : State) (c : BitVec 2) : (s.setRM c).endSub = s.endSub := by
  simp [State.endSub, State.setRM, bit_setField]
@[simp] theorem State.inexact_setRM (s : State) (c : BitVec 2) : (s.setRM c).inexact = s.inexact := by
  simp [State.inexact, State.setRM, bit_setField]
@[simp] theorem State.carry_setRM (s : State) (c : BitVec 2) : (s.setRM c).carry = s.carry := by
  simp [State.carry, State.setRM, bit_setField]
@[simp] theorem State.overflow_setRM (s : State) (c : BitVec 2) : (s.setRM c).overflow = s.overflow := by
  simp [State.overflow, State.setRM, bit_setField]
@[simp] theorem State.trapEnable_setRM (s : State) (c : BitVec 2) : (s.setRM c).trapEnable = s.trapEnable := by
  cases h : s.cfg.tBit <;> simp [State.trapEnable, State.setRM, bit_setField, SpareBit.pos, h]
@[simp] theorem State.pending_setRM (s : State) (c : BitVec 2) : (s.setRM c).pending = s.pending := by
  simp [State.pending, State.setRM, bit_setField]
@[simp] theorem State.rounding_setRM (s : State) (c : BitVec 2) : (s.setRM c).rounding = c := by
  simp [State.rounding, State.setRM]
@[simp] theorem State.interruptEnable_setRM (s : State) (c : BitVec 2) : (s.setRM c).interruptEnable = s.interruptEnable := by
  simp [State.interruptEnable, State.setRM, bit_setField]
@[simp] theorem State.privileged_setRM (s : State) (c : BitVec 2) : (s.setRM c).privileged = s.privileged := by
  simp [State.privileged, State.setRM, bit_setField]
@[simp] theorem State.cc_setRM (s : State) (c : BitVec 2) : (s.setRM c).cc = s.cc := by
  simp [State.cc, State.setRM, field_setField_apart]
@[simp] theorem State.machineTrap_setRM (s : State) (c : BitVec 2) : (s.setRM c).machineTrap = s.machineTrap := by
  cases h : s.cfg.miBit <;> simp [State.machineTrap, State.setRM, bit_setField, SpareBit.pos, h]
@[simp] theorem State.machineTrapEnable_setRM (s : State) (c : BitVec 2) : (s.setRM c).machineTrapEnable = s.machineTrapEnable := by
  simp [State.machineTrapEnable, State.setRM, bit_setField]
@[simp] theorem State.csn_setRM (s : State) (c : BitVec 2) : (s.setRM c).csn = s.csn := by
  simp [State.csn, State.setRM, field_setField_apart]

end Sys2Proof.Machine
end

