-- ==== Sys2Proof/Laws/Memory.lean ====
section
/-! SUPPORT. Memory: a read after a write, and the canonical form that every write keeps (spec/20_memory.md rule R80). -/

namespace Sys2Proof.Machine

theorem Memory.wfFrom_cons (lo k : Nat) (b : Byte) (t : Memory) :
    Memory.wfFrom lo ((k, b) :: t) = true ↔
      lo ≤ k ∧ k < addressSpace ∧ b ≠ Memory.unlisted k ∧ Memory.wfFrom (k + 1) t = true := by
  simp [Memory.wfFrom, and_assoc]

theorem Memory.wfFrom_mono {lo lo' : Nat} {m : Memory} (h : lo' ≤ lo) (w : Memory.wfFrom lo m = true) :
    Memory.wfFrom lo' m = true := by
  cases m with
  | nil => rfl
  | cons c t =>
    obtain ⟨k, b⟩ := c
    rw [Memory.wfFrom_cons] at w ⊢
    exact ⟨by omega, w.2⟩

/-- A write keeps the canonical form from `lo` up. -/
theorem Memory.wfFrom_write {m : Memory} {lo : Nat} (a : Nat) (v : Byte) (hl : lo ≤ a) (ha : a < addressSpace)
    (w : Memory.wfFrom lo m = true) : Memory.wfFrom lo (m.write a v) = true := by
  induction m generalizing lo with
  | nil =>
    unfold Memory.write
    split
    · rfl
    · rename_i hv
      simp [Memory.wfFrom, hl, ha, hv]
  | cons c t ih =>
    obtain ⟨k, b⟩ := c
    have w' := w
    rw [Memory.wfFrom_cons] at w
    obtain ⟨h1, h2, h3, h4⟩ := w
    unfold Memory.write
    split
    · split
      · exact w'
      · rename_i hk hv
        rw [Memory.wfFrom_cons, Memory.wfFrom_cons]
        exact ⟨hl, ha, hv, by omega, h2, h3, h4⟩
    · split
      · rename_i e
        subst e
        split
        · exact Memory.wfFrom_mono (by omega) h4
        · rename_i hv
          rw [Memory.wfFrom_cons]
          exact ⟨h1, h2, hv, h4⟩
      · rw [Memory.wfFrom_cons]
        exact ⟨h1, h2, h3, ih (by omega) h4⟩

/-- Storing a byte keeps the canonical form. -/
theorem Memory.wf_write {m : Memory} (a : Nat) (v : Byte) (ha : a < addressSpace) (w : m.wf = true) :
    (m.write a v).wf = true :=
  Memory.wfFrom_write a v (Nat.zero_le _) ha w

/-- Storing a halfword keeps the canonical form. -/
theorem Memory.wf_writeHalf {m : Memory} (a : Nat) (v : Half) (ha : a + 1 < addressSpace) (w : m.wf = true) :
    (m.writeHalf a v).wf = true :=
  Memory.wf_write _ _ ha (Memory.wf_write _ _ (by omega) w)

/-- Storing a word keeps the canonical form. -/
theorem Memory.wf_writeWord {m : Memory} (a : Nat) (v : Word) (ha : a + 3 < addressSpace) (w : m.wf = true) :
    (m.writeWord a v).wf = true :=
  Memory.wf_writeHalf _ _ (by omega) (Memory.wf_writeHalf _ _ (by omega) w)

/-- Memory after reset has the canonical form. -/
theorem reset_memory_wf : State.reset.mem.wf = true := rfl

theorem Memory.read_below {m : Memory} {lo a : Nat} (h : a < lo) (w : Memory.wfFrom lo m = true) :
    m.read a = Memory.unlisted a := by
  cases m with
  | nil => rfl
  | cons c t =>
    obtain ⟨k, b⟩ := c
    rw [Memory.wfFrom_cons] at w
    unfold Memory.read
    rw [if_neg (by omega), if_pos (by omega)]

/-- Reading the byte that was stored. -/
theorem Memory.read_write_same {m : Memory} {lo : Nat} (a : Nat) (v : Byte) (w : Memory.wfFrom lo m = true) :
    (m.write a v).read a = v := by
  induction m generalizing lo with
  | nil =>
    unfold Memory.write
    split
    · rename_i h; simp [Memory.read, h]
    · simp [Memory.read]
  | cons c t ih =>
    obtain ⟨k, b⟩ := c
    rw [Memory.wfFrom_cons] at w
    obtain ⟨h1, h2, h3, h4⟩ := w
    unfold Memory.write
    split
    · rename_i hk
      split
      · rename_i hv
        simp only [Memory.read]
        rw [if_neg (by omega), if_pos hk, hv]
      · simp [Memory.read]
    · split
      · rename_i e
        subst e
        split
        · rename_i hv
          rw [Memory.read_below (by omega) h4, hv]
        · simp [Memory.read]
      · rename_i hk he
        simp only [Memory.read]
        rw [if_neg (by omega), if_neg hk]
        exact ih h4

/-- Reading another byte than the one that was stored. -/
theorem Memory.read_write_other {m : Memory} {lo : Nat} (a b : Nat) (v : Byte) (hab : b ≠ a)
    (w : Memory.wfFrom lo m = true) : (m.write a v).read b = m.read b := by
  induction m generalizing lo with
  | nil =>
    unfold Memory.write
    split
    · rfl
    · simp only [Memory.read]
      rw [if_neg (by omega)]
      split <;> rfl
  | cons c t ih =>
    obtain ⟨k, x⟩ := c
    have w' := w
    rw [Memory.wfFrom_cons] at w
    obtain ⟨h1, h2, h3, h4⟩ := w
    unfold Memory.write
    split
    · rename_i hk
      split
      · rfl
      · simp only [Memory.read]
        rw [if_neg (by omega)]
        by_cases hb : b < a
        · rw [if_pos hb, if_neg (by omega), if_pos (by omega)]
        · rw [if_neg hb]
    · split
      · rename_i e
        subst e
        split
        · simp only [Memory.read]
          rw [if_neg (by omega)]
          by_cases hb : b < a
          · rw [if_pos hb, Memory.read_below (by omega) h4]
          · rw [if_neg hb]
        · simp [Memory.read, Ne.symm hab]
      · simp only [Memory.read]
        rw [ih h4]

/-- Bytes outside a stored halfword. -/
theorem Memory.read_writeHalf_other {m : Memory} (a b : Nat) (v : Half) (h : b < a ∨ a + 2 ≤ b)
    (w : m.wf = true) (ha : a + 1 < addressSpace) : (m.writeHalf a v).read b = m.read b := by
  unfold Memory.writeHalf
  rw [Memory.read_write_other (lo := 0) _ _ _ (by omega) (Memory.wf_write _ _ (by omega) w),
    Memory.read_write_other (lo := 0) _ _ _ (by omega) w]

/-- Bytes outside a stored word. -/
theorem Memory.read_writeWord_other {m : Memory} (a b : Nat) (v : Word) (h : b < a ∨ a + 4 ≤ b)
    (w : m.wf = true) (ha : a + 3 < addressSpace) : (m.writeWord a v).read b = m.read b := by
  unfold Memory.writeWord
  rw [Memory.read_writeHalf_other _ _ _ (by omega) (Memory.wf_writeHalf _ _ (by omega) w) (by omega),
    Memory.read_writeHalf_other _ _ _ (by omega) w (by omega)]

/-- Reading the halfword that was stored. -/
theorem Memory.half_writeHalf_same {m : Memory} (a : Nat) (v : Half) (w : m.wf = true) (ha : a + 1 < addressSpace) :
    (m.writeHalf a v).half a = v := by
  have w1 := Memory.wf_write a (v.extractLsb' 8 8) (by omega) w
  unfold Memory.half Memory.writeHalf
  rw [Memory.read_write_other (lo := 0) _ _ _ (by omega) w1, Memory.read_write_same (lo := 0) _ _ w,
    Memory.read_write_same (lo := 0) _ _ w1]
  apply BitVec.eq_of_getLsbD_eq
  intro i hi
  simp only [BitVec.getLsbD_append, BitVec.getLsbD_extractLsb']
  by_cases h8 : i < 8
  · simp [h8]
  · have : i - 8 < 8 := by omega
    simp [h8, this, show 8 + (i - 8) = i by omega]

/-- A halfword apart from the stored one. -/
theorem Memory.half_writeHalf_other {m : Memory} (a b : Nat) (v : Half) (h : b + 2 ≤ a ∨ a + 2 ≤ b) (w : m.wf = true)
    (ha : a + 1 < addressSpace) : (m.writeHalf a v).half b = m.half b := by
  unfold Memory.half
  rw [Memory.read_writeHalf_other _ _ _ (by omega) w ha, Memory.read_writeHalf_other _ _ _ (by omega) w ha]

/-- Reading the word that was stored. -/
theorem Memory.word_writeWord_same {m : Memory} (a : Nat) (v : Word) (w : m.wf = true) (ha : a + 3 < addressSpace) :
    (m.writeWord a v).word a = v := by
  have w1 := Memory.wf_writeHalf a (v.extractLsb' 16 16) (by omega) w
  unfold Memory.word Memory.writeWord
  rw [Memory.half_writeHalf_other _ _ _ (by omega) w1 (by omega), Memory.half_writeHalf_same _ _ w (by omega),
    Memory.half_writeHalf_same _ _ w1 (by omega)]
  apply BitVec.eq_of_getLsbD_eq
  intro i hi
  simp only [BitVec.getLsbD_append, BitVec.getLsbD_extractLsb']
  by_cases h8 : i < 16
  · simp [h8]
  · have : i - 16 < 16 := by omega
    simp [h8, this, show 16 + (i - 16) = i by omega]

/-- A word apart from the stored one. -/
theorem Memory.word_writeWord_other {m : Memory} (a b : Nat) (v : Word) (h : b + 4 ≤ a ∨ a + 4 ≤ b) (w : m.wf = true)
    (ha : a + 3 < addressSpace) : (m.writeWord a v).word b = m.word b := by
  unfold Memory.word Memory.half
  rw [Memory.read_writeWord_other _ _ _ (by omega) w ha, Memory.read_writeWord_other _ _ _ (by omega) w ha,
    Memory.read_writeWord_other _ _ _ (by omega) w ha, Memory.read_writeWord_other _ _ _ (by omega) w ha]

end Sys2Proof.Machine
end

