-- ==== Sys2Proof/Laws/Monad.lean ====
section
/-! SUPPORT. Running the instruction monad of Machine/Ops.lean one action at a time: each lemma says what a do block
does from a state when its first action is known. -/

namespace Sys2Proof.Machine

variable {α β : Type}

/-- Running a bind whose first action answers. -/
theorem M.bind_ok {m : M α} {f : α → M β} {s t : State} {a : α} (h : m s = .ok (a, t)) : (m >>= f) s = f a t := by
  show (m s >>= fun p => f p.1 p.2) = f a t
  rw [h]
  rfl

/-- Running a bind whose first action stops. -/
theorem M.bind_error {m : M α} {f : α → M β} {s : State} {e : Stop} (h : m s = .error e) :
    (m >>= f) s = .error e := by
  show (m s >>= fun p => f p.1 p.2) = .error e
  rw [h]
  rfl

/-- A bind that answers went through both of its actions. -/
theorem M.bind_eq_ok {m : M α} {f : α → M β} {s u : State} {b : β} (h : (m >>= f) s = .ok (b, u)) :
    ∃ a t, m s = .ok (a, t) ∧ f a t = .ok (b, u) := by
  cases hm : m s with
  | error e => rw [M.bind_error hm] at h; cases h
  | ok p => exact ⟨p.1, p.2, rfl, by rw [M.bind_ok (a := p.1) (t := p.2) hm] at h; exact h⟩

@[simp] theorem M.get_bind (f : State → M β) (s : State) : ((get : M State) >>= f) s = f s s := (rfl)

@[simp] theorem M.get_apply (s : State) : (get : M State) s = .ok (s, s) := (rfl)

@[simp] theorem M.modify_bind (g : State → State) (f : PUnit → M β) (s : State) :
    ((modify g : M PUnit) >>= f) s = f ⟨⟩ (g s) := (rfl)

@[simp] theorem M.modify_apply (g : State → State) (s : State) : (modify g : M PUnit) s = .ok (⟨⟩, g s) := (rfl)

@[simp] theorem M.pure_bind_apply (a : α) (f : α → M β) (s : State) : ((pure a : M α) >>= f) s = f a s := (rfl)

@[simp] theorem M.pure_apply (a : α) (s : State) : (pure a : M α) s = .ok (a, s) := (rfl)

@[simp] theorem M.bind_assoc_apply {γ : Type} (m : M α) (f : α → M β) (g : β → M γ) (s : State) :
    ((m >>= f) >>= g) s = (m >>= fun a => f a >>= g) s := by
  show ((m s >>= fun p => f p.1 p.2) >>= fun p => g p.1 p.2) = (m s >>= fun p => (f p.1 p.2 >>= fun q => g q.1 q.2))
  cases m s <;> rfl

@[simp] theorem M.ite_apply (c : Prop) [Decidable c] (m n : M α) (s : State) :
    (if c then m else n) s = if c then m s else n s := by
  split <;> rfl

@[simp] theorem M.ite_bind_apply (c : Prop) [Decidable c] (m n : M α) (f : α → M β) (s : State) :
    ((if c then m else n) >>= f) s = if c then (m >>= f) s else (n >>= f) s := by
  split <;> rfl

/-! ## Tests -/

theorem require_true (t : Trap) (p : Option Word) (s : State) : require true t p s = .ok ((), s) := (rfl)

theorem require_false (t : Trap) (p : Option Word) (s : State) : require false t p s = .error (.trap t p s) := (rfl)

theorem insist_true (r : Refusal) (s : State) : insist true r s = .ok ((), s) := (rfl)

theorem insist_false (r : Refusal) (s : State) : insist false r s = .error (.refuse r) := (rfl)

/-- Everything `require` can do. -/
theorem require_ok_iff (c : Bool) (t : Trap) (p : Option Word) (s u : State) (x : Unit) :
    require c t p s = .ok (x, u) ↔ c = true ∧ u = s := by
  cases c <;> simp [require, eq_comm]

/-- Everything `insist` can do. -/
theorem insist_ok_iff (c : Bool) (r : Refusal) (s u : State) (x : Unit) :
    insist c r s = .ok (x, u) ↔ c = true ∧ u = s := by
  cases c <;> simp [insist, eq_comm]

@[simp] theorem require_bind (c : Bool) (t : Trap) (p : Option Word) (f : Unit → M β) (s : State) :
    (require c t p >>= f) s = if c then f () s else .error (.trap t p s) := by
  cases c <;> rfl

@[simp] theorem insist_bind (c : Bool) (r : Refusal) (f : Unit → M β) (s : State) :
    (insist c r >>= f) s = if c then f () s else .error (.refuse r) := by
  cases c <;> rfl

@[simp] theorem raise_bind (t : Trap) (p : Option Word) (f : α → M β) (s : State) :
    ((raise t p : M α) >>= f) s = .error (.trap t p s) := (rfl)

@[simp] theorem raise_apply (t : Trap) (p : Option Word) (s : State) : (raise t p : M α) s = .error (.trap t p s) := (rfl)

theorem requirePrivileged_of (s : State) (h : s.privileged = true) : requirePrivileged s = .ok ((), s) := by
  simp [requirePrivileged, h]

theorem requirePrivileged_not (s : State) (h : s.privileged = false) :
    requirePrivileged s = .error (.trap .privilegedMode (some 1#32) s) := by
  simp [requirePrivileged, h]

@[simp] theorem requirePrivileged_bind (f : Unit → M β) (s : State) :
    (requirePrivileged >>= f) s
      = if s.privileged then f () s else .error (.trap .privilegedMode (some 1#32) s) := by
  cases h : s.privileged
  · rw [M.bind_error (requirePrivileged_not s h)]; simp
  · rw [M.bind_ok (requirePrivileged_of s h)]; simp

/-! ## The frame of an instruction -/

/-- `atomic` passes on what the body answers. -/
theorem atomic_ok {m : M α} {s t : State} {a : α} (h : m s = .ok (a, t)) : atomic m s = .ok (a, t) := by
  simp [atomic, h]

/-- A trap inside `atomic` finds the registers of the start (R603). -/
theorem atomic_trap {m : M α} {s u : State} {t : Trap} {p : Option Word} (h : m s = .error (.trap t p u)) :
    atomic m s = .error (.trap t p (s.unwound u)) := by
  simp [atomic, h]

/-- `undoing` passes on what the body answers. -/
theorem undoing_ok {m : M α} {s t : State} {a : α} (h : m s = .ok (a, t)) : undoing m s = .ok (a, t) := by
  simp [undoing, h]

/-- A trap inside `undoing` finds the memory of the start. -/
theorem undoing_trap {m : M α} {s u : State} {t : Trap} {p : Option Word} (h : m s = .error (.trap t p u)) :
    undoing m s = .error (.trap t p { u with mem := s.mem }) := by
  simp [undoing, h]

/-- `owning` passes on what the computation answers (R124). -/
theorem owning_ok {ent w : Word} {m : M α} {s t : State} {a : α} (h : m s = .ok (a, t)) :
    owning ent w m s = .ok (a, t) := by
  simp [owning, h]

/-- Everything `owning` can do when it answers. -/
theorem owning_ok_iff (ent w : Word) (m : M α) (s t : State) (a : α) :
    owning ent w m s = .ok (a, t) ↔ m s = .ok (a, t) := by
  unfold owning
  split <;> simp_all

/-- A trap gives the entry back (R133). -/
theorem owning_trap {ent w : Word} {m : M α} {s u : State} {t : Trap} {p : Option Word}
    (h : m s = .error (.trap t p u)) : owning ent w m s = .error (.trap t p (u.withWord ent w)) := by
  simp [owning, h]

/-- A wait keeps the entry (R140). -/
theorem owning_spin {ent w e : Word} {m : M α} {s : State} {held : List (Word × Word)}
    (h : m s = .error (.spin e held)) : owning ent w m s = .error (.spin e ((ent, w) :: held)) := by
  simp [owning, h]

/-- A body that answers goes on to the end of the instruction. -/
theorem runBody_ok {n : Nat} {d : Bool} {m : M End} {s t : State} {e : End} (h : m s = .ok (e, t)) :
    runBody n d m s = conclude s (finish n d e) t := by
  simp [runBody, h]

/-- A body that raises a trap has it taken. -/
theorem runBody_trap {n : Nat} {d : Bool} {m : M End} {s u : State} {t : Trap} {p : Option Word}
    (h : m s = .error (.trap t p u)) : runBody n d m s = conclude s (takeTrap t p) u := by
  simp [runBody, h]

theorem run16_ok {m : M End} {s t : State} {e : End} (h : m s = .ok (e, t)) :
    run16 m s = conclude s (finish 2 false e) t := runBody_ok (atomic_ok h)

theorem run32_ok {m : M End} {s t : State} {e : End} (h : m s = .ok (e, t)) :
    run32 m s = conclude s (finish 4 false e) t := runBody_ok (atomic_ok h)

theorem runKeep16_ok {m : M End} {s t : State} {e : End} (h : m s = .ok (e, t)) :
    runKeep16 m s = conclude s (finish 2 false e) t := runBody_ok h

theorem conclude_ok {s t u : State} {m : M Unit} (h : m t = .ok ((), u)) : conclude s m t = .next u := by
  simp [conclude, h]

/-- Everything `conclude` can do when it answers a next state. -/
theorem conclude_next {s t u : State} {m : M Unit} (h : conclude s m t = .next u) :
    m t = .ok ((), u) ∨ ∃ ent held, m t = .error (.spin ent held) ∧ u = waitFor s ent held := by
  unfold conclude at h
  split at h <;> simp_all

end Sys2Proof.Machine
end

