-- ==== Sys2Proof/Laws/State.lean ====
section
/-! SUPPORT. One lemma per field per named update of State (Machine/Flags.lean and Machine/Ops.lean). -/

namespace Sys2Proof.Machine

@[simp] theorem State.setCC_P (s : State) (c : BitVec 2) : (s.setCC c).P = s.P := (rfl)
@[simp] theorem State.setCC_PB (s : State) (c : BitVec 2) : (s.setCC c).PB = s.PB := (rfl)
@[simp] theorem State.setCC_PL (s : State) (c : BitVec 2) : (s.setCC c).PL = s.PL := (rfl)
@[simp] theorem State.setCC_SB (s : State) (c : BitVec 2) : (s.setCC c).SB = s.SB := (rfl)
@[simp] theorem State.setCC_SL (s : State) (c : BitVec 2) : (s.setCC c).SL = s.SL := (rfl)
@[simp] theorem State.setCC_S (s : State) (c : BitVec 2) : (s.setCC c).S = s.S := (rfl)
@[simp] theorem State.setCC_Q (s : State) (c : BitVec 2) : (s.setCC c).Q = s.Q := (rfl)
@[simp] theorem State.setCC_DB (s : State) (c : BitVec 2) : (s.setCC c).DB = s.DB := (rfl)
@[simp] theorem State.setCC_DL (s : State) (c : BitVec 2) : (s.setCC c).DL = s.DL := (rfl)
@[simp] theorem State.setCC_X (s : State) (c : BitVec 2) : (s.setCC c).X = s.X := (rfl)
@[simp] theorem State.setCC_STATUS (s : State) (c : BitVec 2) : (s.setCC c).STATUS = setField s.STATUS 16 2 c := (rfl)
@[simp] theorem State.setCC_FLAGS (s : State) (c : BitVec 2) : (s.setCC c).FLAGS = s.FLAGS := (rfl)
@[simp] theorem State.setCC_MSG (s : State) (c : BitVec 2) : (s.setCC c).MSG = s.MSG := (rfl)
@[simp] theorem State.setCC_MASK (s : State) (c : BitVec 2) : (s.setCC c).MASK = s.MASK := (rfl)
@[simp] theorem State.setCC_BRKPT (s : State) (c : BitVec 2) : (s.setCC c).BRKPT = s.BRKPT := (rfl)
@[simp] theorem State.setCC_SAR (s : State) (c : BitVec 2) : (s.setCC c).SAR = s.SAR := (rfl)
@[simp] theorem State.setCC_SDR (s : State) (c : BitVec 2) : (s.setCC c).SDR = s.SDR := (rfl)
@[simp] theorem State.setCC_DST (s : State) (c : BitVec 2) : (s.setCC c).DST = s.DST := (rfl)
@[simp] theorem State.setCC_CIR (s : State) (c : BitVec 2) : (s.setCC c).CIR = s.CIR := (rfl)
@[simp] theorem State.setCC_icsFlag (s : State) (c : BitVec 2) : (s.setCC c).icsFlag = s.icsFlag := (rfl)
@[simp] theorem State.setCC_dispFlag (s : State) (c : BitVec 2) : (s.setCC c).dispFlag = s.dispFlag := (rfl)
@[simp] theorem State.setCC_lockout (s : State) (c : BitVec 2) : (s.setCC c).lockout = s.lockout := (rfl)
@[simp] theorem State.setCC_secondary (s : State) (c : BitVec 2) : (s.setCC c).secondary = s.secondary := (rfl)
@[simp] theorem State.setCC_run (s : State) (c : BitVec 2) : (s.setCC c).run = s.run := (rfl)
@[simp] theorem State.setCC_debugPad5 (s : State) (c : BitVec 2) : (s.setCC c).debugPad5 = s.debugPad5 := (rfl)
@[simp] theorem State.setCC_mem (s : State) (c : BitVec 2) : (s.setCC c).mem = s.mem := (rfl)
@[simp] theorem State.setCC_cfg (s : State) (c : BitVec 2) : (s.setCC c).cfg = s.cfg := (rfl)
@[simp] theorem State.setCC_freeCtr (s : State) (c : BitVec 2) : (s.setCC c).freeCtr = s.freeCtr := (rfl)
@[simp] theorem State.setCC_prevDup (s : State) (c : BitVec 2) : (s.setCC c).prevDup = s.prevDup := (rfl)
@[simp] theorem State.setCC_inputs (s : State) (c : BitVec 2) : (s.setCC c).inputs = s.inputs := (rfl)
@[simp] theorem State.setCC_mpb (s : State) (c : BitVec 2) : (s.setCC c).mpb = s.mpb := (rfl)
@[simp] theorem State.setCC_sent (s : State) (c : BitVec 2) : (s.setCC c).sent = s.sent := (rfl)
@[simp] theorem State.setCC_poll (s : State) (c : BitVec 2) : (s.setCC c).poll = s.poll := (rfl)
@[simp] theorem State.setCC_owned (s : State) (c : BitVec 2) : (s.setCC c).owned = s.owned := (rfl)

@[simp] theorem State.setCarry_P (s : State) (b : Bool) : (s.setCarry b).P = s.P := (rfl)
@[simp] theorem State.setCarry_PB (s : State) (b : Bool) : (s.setCarry b).PB = s.PB := (rfl)
@[simp] theorem State.setCarry_PL (s : State) (b : Bool) : (s.setCarry b).PL = s.PL := (rfl)
@[simp] theorem State.setCarry_SB (s : State) (b : Bool) : (s.setCarry b).SB = s.SB := (rfl)
@[simp] theorem State.setCarry_SL (s : State) (b : Bool) : (s.setCarry b).SL = s.SL := (rfl)
@[simp] theorem State.setCarry_S (s : State) (b : Bool) : (s.setCarry b).S = s.S := (rfl)
@[simp] theorem State.setCarry_Q (s : State) (b : Bool) : (s.setCarry b).Q = s.Q := (rfl)
@[simp] theorem State.setCarry_DB (s : State) (b : Bool) : (s.setCarry b).DB = s.DB := (rfl)
@[simp] theorem State.setCarry_DL (s : State) (b : Bool) : (s.setCarry b).DL = s.DL := (rfl)
@[simp] theorem State.setCarry_X (s : State) (b : Bool) : (s.setCarry b).X = s.X := (rfl)
@[simp] theorem State.setCarry_STATUS (s : State) (b : Bool) : (s.setCarry b).STATUS = setBit s.STATUS 6 b := (rfl)
@[simp] theorem State.setCarry_FLAGS (s : State) (b : Bool) : (s.setCarry b).FLAGS = s.FLAGS := (rfl)
@[simp] theorem State.setCarry_MSG (s : State) (b : Bool) : (s.setCarry b).MSG = s.MSG := (rfl)
@[simp] theorem State.setCarry_MASK (s : State) (b : Bool) : (s.setCarry b).MASK = s.MASK := (rfl)
@[simp] theorem State.setCarry_BRKPT (s : State) (b : Bool) : (s.setCarry b).BRKPT = s.BRKPT := (rfl)
@[simp] theorem State.setCarry_SAR (s : State) (b : Bool) : (s.setCarry b).SAR = s.SAR := (rfl)
@[simp] theorem State.setCarry_SDR (s : State) (b : Bool) : (s.setCarry b).SDR = s.SDR := (rfl)
@[simp] theorem State.setCarry_DST (s : State) (b : Bool) : (s.setCarry b).DST = s.DST := (rfl)
@[simp] theorem State.setCarry_CIR (s : State) (b : Bool) : (s.setCarry b).CIR = s.CIR := (rfl)
@[simp] theorem State.setCarry_icsFlag (s : State) (b : Bool) : (s.setCarry b).icsFlag = s.icsFlag := (rfl)
@[simp] theorem State.setCarry_dispFlag (s : State) (b : Bool) : (s.setCarry b).dispFlag = s.dispFlag := (rfl)
@[simp] theorem State.setCarry_lockout (s : State) (b : Bool) : (s.setCarry b).lockout = s.lockout := (rfl)
@[simp] theorem State.setCarry_secondary (s : State) (b : Bool) : (s.setCarry b).secondary = s.secondary := (rfl)
@[simp] theorem State.setCarry_run (s : State) (b : Bool) : (s.setCarry b).run = s.run := (rfl)
@[simp] theorem State.setCarry_debugPad5 (s : State) (b : Bool) : (s.setCarry b).debugPad5 = s.debugPad5 := (rfl)
@[simp] theorem State.setCarry_mem (s : State) (b : Bool) : (s.setCarry b).mem = s.mem := (rfl)
@[simp] theorem State.setCarry_cfg (s : State) (b : Bool) : (s.setCarry b).cfg = s.cfg := (rfl)
@[simp] theorem State.setCarry_freeCtr (s : State) (b : Bool) : (s.setCarry b).freeCtr = s.freeCtr := (rfl)
@[simp] theorem State.setCarry_prevDup (s : State) (b : Bool) : (s.setCarry b).prevDup = s.prevDup := (rfl)
@[simp] theorem State.setCarry_inputs (s : State) (b : Bool) : (s.setCarry b).inputs = s.inputs := (rfl)
@[simp] theorem State.setCarry_mpb (s : State) (b : Bool) : (s.setCarry b).mpb = s.mpb := (rfl)
@[simp] theorem State.setCarry_sent (s : State) (b : Bool) : (s.setCarry b).sent = s.sent := (rfl)
@[simp] theorem State.setCarry_poll (s : State) (b : Bool) : (s.setCarry b).poll = s.poll := (rfl)
@[simp] theorem State.setCarry_owned (s : State) (b : Bool) : (s.setCarry b).owned = s.owned := (rfl)

@[simp] theorem State.setO_P (s : State) (b : Bool) : (s.setO b).P = s.P := (rfl)
@[simp] theorem State.setO_PB (s : State) (b : Bool) : (s.setO b).PB = s.PB := (rfl)
@[simp] theorem State.setO_PL (s : State) (b : Bool) : (s.setO b).PL = s.PL := (rfl)
@[simp] theorem State.setO_SB (s : State) (b : Bool) : (s.setO b).SB = s.SB := (rfl)
@[simp] theorem State.setO_SL (s : State) (b : Bool) : (s.setO b).SL = s.SL := (rfl)
@[simp] theorem State.setO_S (s : State) (b : Bool) : (s.setO b).S = s.S := (rfl)
@[simp] theorem State.setO_Q (s : State) (b : Bool) : (s.setO b).Q = s.Q := (rfl)
@[simp] theorem State.setO_DB (s : State) (b : Bool) : (s.setO b).DB = s.DB := (rfl)
@[simp] theorem State.setO_DL (s : State) (b : Bool) : (s.setO b).DL = s.DL := (rfl)
@[simp] theorem State.setO_X (s : State) (b : Bool) : (s.setO b).X = s.X := (rfl)
@[simp] theorem State.setO_STATUS (s : State) (b : Bool) : (s.setO b).STATUS = setBit s.STATUS 7 b := (rfl)
@[simp] theorem State.setO_FLAGS (s : State) (b : Bool) : (s.setO b).FLAGS = s.FLAGS := (rfl)
@[simp] theorem State.setO_MSG (s : State) (b : Bool) : (s.setO b).MSG = s.MSG := (rfl)
@[simp] theorem State.setO_MASK (s : State) (b : Bool) : (s.setO b).MASK = s.MASK := (rfl)
@[simp] theorem State.setO_BRKPT (s : State) (b : Bool) : (s.setO b).BRKPT = s.BRKPT := (rfl)
@[simp] theorem State.setO_SAR (s : State) (b : Bool) : (s.setO b).SAR = s.SAR := (rfl)
@[simp] theorem State.setO_SDR (s : State) (b : Bool) : (s.setO b).SDR = s.SDR := (rfl)
@[simp] theorem State.setO_DST (s : State) (b : Bool) : (s.setO b).DST = s.DST := (rfl)
@[simp] theorem State.setO_CIR (s : State) (b : Bool) : (s.setO b).CIR = s.CIR := (rfl)
@[simp] theorem State.setO_icsFlag (s : State) (b : Bool) : (s.setO b).icsFlag = s.icsFlag := (rfl)
@[simp] theorem State.setO_dispFlag (s : State) (b : Bool) : (s.setO b).dispFlag = s.dispFlag := (rfl)
@[simp] theorem State.setO_lockout (s : State) (b : Bool) : (s.setO b).lockout = s.lockout := (rfl)
@[simp] theorem State.setO_secondary (s : State) (b : Bool) : (s.setO b).secondary = s.secondary := (rfl)
@[simp] theorem State.setO_run (s : State) (b : Bool) : (s.setO b).run = s.run := (rfl)
@[simp] theorem State.setO_debugPad5 (s : State) (b : Bool) : (s.setO b).debugPad5 = s.debugPad5 := (rfl)
@[simp] theorem State.setO_mem (s : State) (b : Bool) : (s.setO b).mem = s.mem := (rfl)
@[simp] theorem State.setO_cfg (s : State) (b : Bool) : (s.setO b).cfg = s.cfg := (rfl)
@[simp] theorem State.setO_freeCtr (s : State) (b : Bool) : (s.setO b).freeCtr = s.freeCtr := (rfl)
@[simp] theorem State.setO_prevDup (s : State) (b : Bool) : (s.setO b).prevDup = s.prevDup := (rfl)
@[simp] theorem State.setO_inputs (s : State) (b : Bool) : (s.setO b).inputs = s.inputs := (rfl)
@[simp] theorem State.setO_mpb (s : State) (b : Bool) : (s.setO b).mpb = s.mpb := (rfl)
@[simp] theorem State.setO_sent (s : State) (b : Bool) : (s.setO b).sent = s.sent := (rfl)
@[simp] theorem State.setO_poll (s : State) (b : Bool) : (s.setO b).poll = s.poll := (rfl)
@[simp] theorem State.setO_owned (s : State) (b : Bool) : (s.setO b).owned = s.owned := (rfl)

@[simp] theorem State.setInexact_P (s : State) (b : Bool) : (s.setInexact b).P = s.P := (rfl)
@[simp] theorem State.setInexact_PB (s : State) (b : Bool) : (s.setInexact b).PB = s.PB := (rfl)
@[simp] theorem State.setInexact_PL (s : State) (b : Bool) : (s.setInexact b).PL = s.PL := (rfl)
@[simp] theorem State.setInexact_SB (s : State) (b : Bool) : (s.setInexact b).SB = s.SB := (rfl)
@[simp] theorem State.setInexact_SL (s : State) (b : Bool) : (s.setInexact b).SL = s.SL := (rfl)
@[simp] theorem State.setInexact_S (s : State) (b : Bool) : (s.setInexact b).S = s.S := (rfl)
@[simp] theorem State.setInexact_Q (s : State) (b : Bool) : (s.setInexact b).Q = s.Q := (rfl)
@[simp] theorem State.setInexact_DB (s : State) (b : Bool) : (s.setInexact b).DB = s.DB := (rfl)
@[simp] theorem State.setInexact_DL (s : State) (b : Bool) : (s.setInexact b).DL = s.DL := (rfl)
@[simp] theorem State.setInexact_X (s : State) (b : Bool) : (s.setInexact b).X = s.X := (rfl)
@[simp] theorem State.setInexact_STATUS (s : State) (b : Bool) : (s.setInexact b).STATUS = setBit s.STATUS 5 b := (rfl)
@[simp] theorem State.setInexact_FLAGS (s : State) (b : Bool) : (s.setInexact b).FLAGS = s.FLAGS := (rfl)
@[simp] theorem State.setInexact_MSG (s : State) (b : Bool) : (s.setInexact b).MSG = s.MSG := (rfl)
@[simp] theorem State.setInexact_MASK (s : State) (b : Bool) : (s.setInexact b).MASK = s.MASK := (rfl)
@[simp] theorem State.setInexact_BRKPT (s : State) (b : Bool) : (s.setInexact b).BRKPT = s.BRKPT := (rfl)
@[simp] theorem State.setInexact_SAR (s : State) (b : Bool) : (s.setInexact b).SAR = s.SAR := (rfl)
@[simp] theorem State.setInexact_SDR (s : State) (b : Bool) : (s.setInexact b).SDR = s.SDR := (rfl)
@[simp] theorem State.setInexact_DST (s : State) (b : Bool) : (s.setInexact b).DST = s.DST := (rfl)
@[simp] theorem State.setInexact_CIR (s : State) (b : Bool) : (s.setInexact b).CIR = s.CIR := (rfl)
@[simp] theorem State.setInexact_icsFlag (s : State) (b : Bool) : (s.setInexact b).icsFlag = s.icsFlag := (rfl)
@[simp] theorem State.setInexact_dispFlag (s : State) (b : Bool) : (s.setInexact b).dispFlag = s.dispFlag := (rfl)
@[simp] theorem State.setInexact_lockout (s : State) (b : Bool) : (s.setInexact b).lockout = s.lockout := (rfl)
@[simp] theorem State.setInexact_secondary (s : State) (b : Bool) : (s.setInexact b).secondary = s.secondary := (rfl)
@[simp] theorem State.setInexact_run (s : State) (b : Bool) : (s.setInexact b).run = s.run := (rfl)
@[simp] theorem State.setInexact_debugPad5 (s : State) (b : Bool) : (s.setInexact b).debugPad5 = s.debugPad5 := (rfl)
@[simp] theorem State.setInexact_mem (s : State) (b : Bool) : (s.setInexact b).mem = s.mem := (rfl)
@[simp] theorem State.setInexact_cfg (s : State) (b : Bool) : (s.setInexact b).cfg = s.cfg := (rfl)
@[simp] theorem State.setInexact_freeCtr (s : State) (b : Bool) : (s.setInexact b).freeCtr = s.freeCtr := (rfl)
@[simp] theorem State.setInexact_prevDup (s : State) (b : Bool) : (s.setInexact b).prevDup = s.prevDup := (rfl)
@[simp] theorem State.setInexact_inputs (s : State) (b : Bool) : (s.setInexact b).inputs = s.inputs := (rfl)
@[simp] theorem State.setInexact_mpb (s : State) (b : Bool) : (s.setInexact b).mpb = s.mpb := (rfl)
@[simp] theorem State.setInexact_sent (s : State) (b : Bool) : (s.setInexact b).sent = s.sent := (rfl)
@[simp] theorem State.setInexact_poll (s : State) (b : Bool) : (s.setInexact b).poll = s.poll := (rfl)
@[simp] theorem State.setInexact_owned (s : State) (b : Bool) : (s.setInexact b).owned = s.owned := (rfl)

@[simp] theorem State.setPending_P (s : State) (b : Bool) : (s.setPending b).P = s.P := (rfl)
@[simp] theorem State.setPending_PB (s : State) (b : Bool) : (s.setPending b).PB = s.PB := (rfl)
@[simp] theorem State.setPending_PL (s : State) (b : Bool) : (s.setPending b).PL = s.PL := (rfl)
@[simp] theorem State.setPending_SB (s : State) (b : Bool) : (s.setPending b).SB = s.SB := (rfl)
@[simp] theorem State.setPending_SL (s : State) (b : Bool) : (s.setPending b).SL = s.SL := (rfl)
@[simp] theorem State.setPending_S (s : State) (b : Bool) : (s.setPending b).S = s.S := (rfl)
@[simp] theorem State.setPending_Q (s : State) (b : Bool) : (s.setPending b).Q = s.Q := (rfl)
@[simp] theorem State.setPending_DB (s : State) (b : Bool) : (s.setPending b).DB = s.DB := (rfl)
@[simp] theorem State.setPending_DL (s : State) (b : Bool) : (s.setPending b).DL = s.DL := (rfl)
@[simp] theorem State.setPending_X (s : State) (b : Bool) : (s.setPending b).X = s.X := (rfl)
@[simp] theorem State.setPending_STATUS (s : State) (b : Bool) : (s.setPending b).STATUS = setBit s.STATUS 9 b := (rfl)
@[simp] theorem State.setPending_FLAGS (s : State) (b : Bool) : (s.setPending b).FLAGS = s.FLAGS := (rfl)
@[simp] theorem State.setPending_MSG (s : State) (b : Bool) : (s.setPending b).MSG = s.MSG := (rfl)
@[simp] theorem State.setPending_MASK (s : State) (b : Bool) : (s.setPending b).MASK = s.MASK := (rfl)
@[simp] theorem State.setPending_BRKPT (s : State) (b : Bool) : (s.setPending b).BRKPT = s.BRKPT := (rfl)
@[simp] theorem State.setPending_SAR (s : State) (b : Bool) : (s.setPending b).SAR = s.SAR := (rfl)
@[simp] theorem State.setPending_SDR (s : State) (b : Bool) : (s.setPending b).SDR = s.SDR := (rfl)
@[simp] theorem State.setPending_DST (s : State) (b : Bool) : (s.setPending b).DST = s.DST := (rfl)
@[simp] theorem State.setPending_CIR (s : State) (b : Bool) : (s.setPending b).CIR = s.CIR := (rfl)
@[simp] theorem State.setPending_icsFlag (s : State) (b : Bool) : (s.setPending b).icsFlag = s.icsFlag := (rfl)
@[simp] theorem State.setPending_dispFlag (s : State) (b : Bool) : (s.setPending b).dispFlag = s.dispFlag := (rfl)
@[simp] theorem State.setPending_lockout (s : State) (b : Bool) : (s.setPending b).lockout = s.lockout := (rfl)
@[simp] theorem State.setPending_secondary (s : State) (b : Bool) : (s.setPending b).secondary = s.secondary := (rfl)
@[simp] theorem State.setPending_run (s : State) (b : Bool) : (s.setPending b).run = s.run := (rfl)
@[simp] theorem State.setPending_debugPad5 (s : State) (b : Bool) : (s.setPending b).debugPad5 = s.debugPad5 := (rfl)
@[simp] theorem State.setPending_mem (s : State) (b : Bool) : (s.setPending b).mem = s.mem := (rfl)
@[simp] theorem State.setPending_cfg (s : State) (b : Bool) : (s.setPending b).cfg = s.cfg := (rfl)
@[simp] theorem State.setPending_freeCtr (s : State) (b : Bool) : (s.setPending b).freeCtr = s.freeCtr := (rfl)
@[simp] theorem State.setPending_prevDup (s : State) (b : Bool) : (s.setPending b).prevDup = s.prevDup := (rfl)
@[simp] theorem State.setPending_inputs (s : State) (b : Bool) : (s.setPending b).inputs = s.inputs := (rfl)
@[simp] theorem State.setPending_mpb (s : State) (b : Bool) : (s.setPending b).mpb = s.mpb := (rfl)
@[simp] theorem State.setPending_sent (s : State) (b : Bool) : (s.setPending b).sent = s.sent := (rfl)
@[simp] theorem State.setPending_poll (s : State) (b : Bool) : (s.setPending b).poll = s.poll := (rfl)
@[simp] theorem State.setPending_owned (s : State) (b : Bool) : (s.setPending b).owned = s.owned := (rfl)

@[simp] theorem State.setEM_P (s : State) (b : Bool) : (s.setEM b).P = s.P := (rfl)
@[simp] theorem State.setEM_PB (s : State) (b : Bool) : (s.setEM b).PB = s.PB := (rfl)
@[simp] theorem State.setEM_PL (s : State) (b : Bool) : (s.setEM b).PL = s.PL := (rfl)
@[simp] theorem State.setEM_SB (s : State) (b : Bool) : (s.setEM b).SB = s.SB := (rfl)
@[simp] theorem State.setEM_SL (s : State) (b : Bool) : (s.setEM b).SL = s.SL := (rfl)
@[simp] theorem State.setEM_S (s : State) (b : Bool) : (s.setEM b).S = s.S := (rfl)
@[simp] theorem State.setEM_Q (s : State) (b : Bool) : (s.setEM b).Q = s.Q := (rfl)
@[simp] theorem State.setEM_DB (s : State) (b : Bool) : (s.setEM b).DB = s.DB := (rfl)
@[simp] theorem State.setEM_DL (s : State) (b : Bool) : (s.setEM b).DL = s.DL := (rfl)
@[simp] theorem State.setEM_X (s : State) (b : Bool) : (s.setEM b).X = s.X := (rfl)
@[simp] theorem State.setEM_STATUS (s : State) (b : Bool) : (s.setEM b).STATUS = setBit s.STATUS 19 b := (rfl)
@[simp] theorem State.setEM_FLAGS (s : State) (b : Bool) : (s.setEM b).FLAGS = s.FLAGS := (rfl)
@[simp] theorem State.setEM_MSG (s : State) (b : Bool) : (s.setEM b).MSG = s.MSG := (rfl)
@[simp] theorem State.setEM_MASK (s : State) (b : Bool) : (s.setEM b).MASK = s.MASK := (rfl)
@[simp] theorem State.setEM_BRKPT (s : State) (b : Bool) : (s.setEM b).BRKPT = s.BRKPT := (rfl)
@[simp] theorem State.setEM_SAR (s : State) (b : Bool) : (s.setEM b).SAR = s.SAR := (rfl)
@[simp] theorem State.setEM_SDR (s : State) (b : Bool) : (s.setEM b).SDR = s.SDR := (rfl)
@[simp] theorem State.setEM_DST (s : State) (b : Bool) : (s.setEM b).DST = s.DST := (rfl)
@[simp] theorem State.setEM_CIR (s : State) (b : Bool) : (s.setEM b).CIR = s.CIR := (rfl)
@[simp] theorem State.setEM_icsFlag (s : State) (b : Bool) : (s.setEM b).icsFlag = s.icsFlag := (rfl)
@[simp] theorem State.setEM_dispFlag (s : State) (b : Bool) : (s.setEM b).dispFlag = s.dispFlag := (rfl)
@[simp] theorem State.setEM_lockout (s : State) (b : Bool) : (s.setEM b).lockout = s.lockout := (rfl)
@[simp] theorem State.setEM_secondary (s : State) (b : Bool) : (s.setEM b).secondary = s.secondary := (rfl)
@[simp] theorem State.setEM_run (s : State) (b : Bool) : (s.setEM b).run = s.run := (rfl)
@[simp] theorem State.setEM_debugPad5 (s : State) (b : Bool) : (s.setEM b).debugPad5 = s.debugPad5 := (rfl)
@[simp] theorem State.setEM_mem (s : State) (b : Bool) : (s.setEM b).mem = s.mem := (rfl)
@[simp] theorem State.setEM_cfg (s : State) (b : Bool) : (s.setEM b).cfg = s.cfg := (rfl)
@[simp] theorem State.setEM_freeCtr (s : State) (b : Bool) : (s.setEM b).freeCtr = s.freeCtr := (rfl)
@[simp] theorem State.setEM_prevDup (s : State) (b : Bool) : (s.setEM b).prevDup = s.prevDup := (rfl)
@[simp] theorem State.setEM_inputs (s : State) (b : Bool) : (s.setEM b).inputs = s.inputs := (rfl)
@[simp] theorem State.setEM_mpb (s : State) (b : Bool) : (s.setEM b).mpb = s.mpb := (rfl)
@[simp] theorem State.setEM_sent (s : State) (b : Bool) : (s.setEM b).sent = s.sent := (rfl)
@[simp] theorem State.setEM_poll (s : State) (b : Bool) : (s.setEM b).poll = s.poll := (rfl)
@[simp] theorem State.setEM_owned (s : State) (b : Bool) : (s.setEM b).owned = s.owned := (rfl)

@[simp] theorem State.setI_P (s : State) (b : Bool) : (s.setI b).P = s.P := (rfl)
@[simp] theorem State.setI_PB (s : State) (b : Bool) : (s.setI b).PB = s.PB := (rfl)
@[simp] theorem State.setI_PL (s : State) (b : Bool) : (s.setI b).PL = s.PL := (rfl)
@[simp] theorem State.setI_SB (s : State) (b : Bool) : (s.setI b).SB = s.SB := (rfl)
@[simp] theorem State.setI_SL (s : State) (b : Bool) : (s.setI b).SL = s.SL := (rfl)
@[simp] theorem State.setI_S (s : State) (b : Bool) : (s.setI b).S = s.S := (rfl)
@[simp] theorem State.setI_Q (s : State) (b : Bool) : (s.setI b).Q = s.Q := (rfl)
@[simp] theorem State.setI_DB (s : State) (b : Bool) : (s.setI b).DB = s.DB := (rfl)
@[simp] theorem State.setI_DL (s : State) (b : Bool) : (s.setI b).DL = s.DL := (rfl)
@[simp] theorem State.setI_X (s : State) (b : Bool) : (s.setI b).X = s.X := (rfl)
@[simp] theorem State.setI_STATUS (s : State) (b : Bool) : (s.setI b).STATUS = setBit s.STATUS 13 b := (rfl)
@[simp] theorem State.setI_FLAGS (s : State) (b : Bool) : (s.setI b).FLAGS = s.FLAGS := (rfl)
@[simp] theorem State.setI_MSG (s : State) (b : Bool) : (s.setI b).MSG = s.MSG := (rfl)
@[simp] theorem State.setI_MASK (s : State) (b : Bool) : (s.setI b).MASK = s.MASK := (rfl)
@[simp] theorem State.setI_BRKPT (s : State) (b : Bool) : (s.setI b).BRKPT = s.BRKPT := (rfl)
@[simp] theorem State.setI_SAR (s : State) (b : Bool) : (s.setI b).SAR = s.SAR := (rfl)
@[simp] theorem State.setI_SDR (s : State) (b : Bool) : (s.setI b).SDR = s.SDR := (rfl)
@[simp] theorem State.setI_DST (s : State) (b : Bool) : (s.setI b).DST = s.DST := (rfl)
@[simp] theorem State.setI_CIR (s : State) (b : Bool) : (s.setI b).CIR = s.CIR := (rfl)
@[simp] theorem State.setI_icsFlag (s : State) (b : Bool) : (s.setI b).icsFlag = s.icsFlag := (rfl)
@[simp] theorem State.setI_dispFlag (s : State) (b : Bool) : (s.setI b).dispFlag = s.dispFlag := (rfl)
@[simp] theorem State.setI_lockout (s : State) (b : Bool) : (s.setI b).lockout = s.lockout := (rfl)
@[simp] theorem State.setI_secondary (s : State) (b : Bool) : (s.setI b).secondary = s.secondary := (rfl)
@[simp] theorem State.setI_run (s : State) (b : Bool) : (s.setI b).run = s.run := (rfl)
@[simp] theorem State.setI_debugPad5 (s : State) (b : Bool) : (s.setI b).debugPad5 = s.debugPad5 := (rfl)
@[simp] theorem State.setI_mem (s : State) (b : Bool) : (s.setI b).mem = s.mem := (rfl)
@[simp] theorem State.setI_cfg (s : State) (b : Bool) : (s.setI b).cfg = s.cfg := (rfl)
@[simp] theorem State.setI_freeCtr (s : State) (b : Bool) : (s.setI b).freeCtr = s.freeCtr := (rfl)
@[simp] theorem State.setI_prevDup (s : State) (b : Bool) : (s.setI b).prevDup = s.prevDup := (rfl)
@[simp] theorem State.setI_inputs (s : State) (b : Bool) : (s.setI b).inputs = s.inputs := (rfl)
@[simp] theorem State.setI_mpb (s : State) (b : Bool) : (s.setI b).mpb = s.mpb := (rfl)
@[simp] theorem State.setI_sent (s : State) (b : Bool) : (s.setI b).sent = s.sent := (rfl)
@[simp] theorem State.setI_poll (s : State) (b : Bool) : (s.setI b).poll = s.poll := (rfl)
@[simp] theorem State.setI_owned (s : State) (b : Bool) : (s.setI b).owned = s.owned := (rfl)

@[simp] theorem State.setRM_P (s : State) (c : BitVec 2) : (s.setRM c).P = s.P := (rfl)
@[simp] theorem State.setRM_PB (s : State) (c : BitVec 2) : (s.setRM c).PB = s.PB := (rfl)
@[simp] theorem State.setRM_PL (s : State) (c : BitVec 2) : (s.setRM c).PL = s.PL := (rfl)
@[simp] theorem State.setRM_SB (s : State) (c : BitVec 2) : (s.setRM c).SB = s.SB := (rfl)
@[simp] theorem State.setRM_SL (s : State) (c : BitVec 2) : (s.setRM c).SL = s.SL := (rfl)
@[simp] theorem State.setRM_S (s : State) (c : BitVec 2) : (s.setRM c).S = s.S := (rfl)
@[simp] theorem State.setRM_Q (s : State) (c : BitVec 2) : (s.setRM c).Q = s.Q := (rfl)
@[simp] theorem State.setRM_DB (s : State) (c : BitVec 2) : (s.setRM c).DB = s.DB := (rfl)
@[simp] theorem State.setRM_DL (s : State) (c : BitVec 2) : (s.setRM c).DL = s.DL := (rfl)
@[simp] theorem State.setRM_X (s : State) (c : BitVec 2) : (s.setRM c).X = s.X := (rfl)
@[simp] theorem State.setRM_STATUS (s : State) (c : BitVec 2) : (s.setRM c).STATUS = setField s.STATUS 11 2 c := (rfl)
@[simp] theorem State.setRM_FLAGS (s : State) (c : BitVec 2) : (s.setRM c).FLAGS = s.FLAGS := (rfl)
@[simp] theorem State.setRM_MSG (s : State) (c : BitVec 2) : (s.setRM c).MSG = s.MSG := (rfl)
@[simp] theorem State.setRM_MASK (s : State) (c : BitVec 2) : (s.setRM c).MASK = s.MASK := (rfl)
@[simp] theorem State.setRM_BRKPT (s : State) (c : BitVec 2) : (s.setRM c).BRKPT = s.BRKPT := (rfl)
@[simp] theorem State.setRM_SAR (s : State) (c : BitVec 2) : (s.setRM c).SAR = s.SAR := (rfl)
@[simp] theorem State.setRM_SDR (s : State) (c : BitVec 2) : (s.setRM c).SDR = s.SDR := (rfl)
@[simp] theorem State.setRM_DST (s : State) (c : BitVec 2) : (s.setRM c).DST = s.DST := (rfl)
@[simp] theorem State.setRM_CIR (s : State) (c : BitVec 2) : (s.setRM c).CIR = s.CIR := (rfl)
@[simp] theorem State.setRM_icsFlag (s : State) (c : BitVec 2) : (s.setRM c).icsFlag = s.icsFlag := (rfl)
@[simp] theorem State.setRM_dispFlag (s : State) (c : BitVec 2) : (s.setRM c).dispFlag = s.dispFlag := (rfl)
@[simp] theorem State.setRM_lockout (s : State) (c : BitVec 2) : (s.setRM c).lockout = s.lockout := (rfl)
@[simp] theorem State.setRM_secondary (s : State) (c : BitVec 2) : (s.setRM c).secondary = s.secondary := (rfl)
@[simp] theorem State.setRM_run (s : State) (c : BitVec 2) : (s.setRM c).run = s.run := (rfl)
@[simp] theorem State.setRM_debugPad5 (s : State) (c : BitVec 2) : (s.setRM c).debugPad5 = s.debugPad5 := (rfl)
@[simp] theorem State.setRM_mem (s : State) (c : BitVec 2) : (s.setRM c).mem = s.mem := (rfl)
@[simp] theorem State.setRM_cfg (s : State) (c : BitVec 2) : (s.setRM c).cfg = s.cfg := (rfl)
@[simp] theorem State.setRM_freeCtr (s : State) (c : BitVec 2) : (s.setRM c).freeCtr = s.freeCtr := (rfl)
@[simp] theorem State.setRM_prevDup (s : State) (c : BitVec 2) : (s.setRM c).prevDup = s.prevDup := (rfl)
@[simp] theorem State.setRM_inputs (s : State) (c : BitVec 2) : (s.setRM c).inputs = s.inputs := (rfl)
@[simp] theorem State.setRM_mpb (s : State) (c : BitVec 2) : (s.setRM c).mpb = s.mpb := (rfl)
@[simp] theorem State.setRM_sent (s : State) (c : BitVec 2) : (s.setRM c).sent = s.sent := (rfl)
@[simp] theorem State.setRM_poll (s : State) (c : BitVec 2) : (s.setRM c).poll = s.poll := (rfl)
@[simp] theorem State.setRM_owned (s : State) (c : BitVec 2) : (s.setRM c).owned = s.owned := (rfl)

@[simp] theorem State.busError_P (s : State) : s.busError.P = s.P := (rfl)
@[simp] theorem State.busError_PB (s : State) : s.busError.PB = s.PB := (rfl)
@[simp] theorem State.busError_PL (s : State) : s.busError.PL = s.PL := (rfl)
@[simp] theorem State.busError_SB (s : State) : s.busError.SB = s.SB := (rfl)
@[simp] theorem State.busError_SL (s : State) : s.busError.SL = s.SL := (rfl)
@[simp] theorem State.busError_S (s : State) : s.busError.S = s.S := (rfl)
@[simp] theorem State.busError_Q (s : State) : s.busError.Q = s.Q := (rfl)
@[simp] theorem State.busError_DB (s : State) : s.busError.DB = s.DB := (rfl)
@[simp] theorem State.busError_DL (s : State) : s.busError.DL = s.DL := (rfl)
@[simp] theorem State.busError_X (s : State) : s.busError.X = s.X := (rfl)
@[simp] theorem State.busError_STATUS (s : State) : s.busError.STATUS = s.STATUS := (rfl)
@[simp] theorem State.busError_FLAGS (s : State) : s.busError.FLAGS = s.FLAGS := (rfl)
@[simp] theorem State.busError_MSG (s : State) : s.busError.MSG = s.MSG ||| 0x60000000#32 := (rfl)
@[simp] theorem State.busError_MASK (s : State) : s.busError.MASK = s.MASK := (rfl)
@[simp] theorem State.busError_BRKPT (s : State) : s.busError.BRKPT = s.BRKPT := (rfl)
@[simp] theorem State.busError_SAR (s : State) : s.busError.SAR = s.SAR := (rfl)
@[simp] theorem State.busError_SDR (s : State) : s.busError.SDR = s.SDR := (rfl)
@[simp] theorem State.busError_DST (s : State) : s.busError.DST = s.DST := (rfl)
@[simp] theorem State.busError_CIR (s : State) : s.busError.CIR = s.CIR := (rfl)
@[simp] theorem State.busError_icsFlag (s : State) : s.busError.icsFlag = s.icsFlag := (rfl)
@[simp] theorem State.busError_dispFlag (s : State) : s.busError.dispFlag = s.dispFlag := (rfl)
@[simp] theorem State.busError_lockout (s : State) : s.busError.lockout = s.lockout := (rfl)
@[simp] theorem State.busError_secondary (s : State) : s.busError.secondary = s.secondary := (rfl)
@[simp] theorem State.busError_run (s : State) : s.busError.run = s.run := (rfl)
@[simp] theorem State.busError_debugPad5 (s : State) : s.busError.debugPad5 = s.debugPad5 := (rfl)
@[simp] theorem State.busError_mem (s : State) : s.busError.mem = s.mem := (rfl)
@[simp] theorem State.busError_cfg (s : State) : s.busError.cfg = s.cfg := (rfl)
@[simp] theorem State.busError_freeCtr (s : State) : s.busError.freeCtr = s.freeCtr := (rfl)
@[simp] theorem State.busError_prevDup (s : State) : s.busError.prevDup = s.prevDup := (rfl)
@[simp] theorem State.busError_inputs (s : State) : s.busError.inputs = s.inputs := (rfl)
@[simp] theorem State.busError_mpb (s : State) : s.busError.mpb = s.mpb := (rfl)
@[simp] theorem State.busError_sent (s : State) : s.busError.sent = s.sent := (rfl)
@[simp] theorem State.busError_poll (s : State) : s.busError.poll = s.poll := (rfl)
@[simp] theorem State.busError_owned (s : State) : s.busError.owned = s.owned := (rfl)

@[simp] theorem State.unwound_P (s : State) (u : State) : (s.unwound u).P = s.P := (rfl)
@[simp] theorem State.unwound_PB (s : State) (u : State) : (s.unwound u).PB = s.PB := (rfl)
@[simp] theorem State.unwound_PL (s : State) (u : State) : (s.unwound u).PL = s.PL := (rfl)
@[simp] theorem State.unwound_SB (s : State) (u : State) : (s.unwound u).SB = s.SB := (rfl)
@[simp] theorem State.unwound_SL (s : State) (u : State) : (s.unwound u).SL = s.SL := (rfl)
@[simp] theorem State.unwound_S (s : State) (u : State) : (s.unwound u).S = s.S := (rfl)
@[simp] theorem State.unwound_Q (s : State) (u : State) : (s.unwound u).Q = s.Q := (rfl)
@[simp] theorem State.unwound_DB (s : State) (u : State) : (s.unwound u).DB = s.DB := (rfl)
@[simp] theorem State.unwound_DL (s : State) (u : State) : (s.unwound u).DL = s.DL := (rfl)
@[simp] theorem State.unwound_X (s : State) (u : State) : (s.unwound u).X = s.X := (rfl)
@[simp] theorem State.unwound_STATUS (s : State) (u : State) : (s.unwound u).STATUS = s.STATUS := (rfl)
@[simp] theorem State.unwound_FLAGS (s : State) (u : State) : (s.unwound u).FLAGS = s.FLAGS := (rfl)
@[simp] theorem State.unwound_MSG (s : State) (u : State) : (s.unwound u).MSG = u.MSG := (rfl)
@[simp] theorem State.unwound_MASK (s : State) (u : State) : (s.unwound u).MASK = s.MASK := (rfl)
@[simp] theorem State.unwound_BRKPT (s : State) (u : State) : (s.unwound u).BRKPT = s.BRKPT := (rfl)
@[simp] theorem State.unwound_SAR (s : State) (u : State) : (s.unwound u).SAR = s.SAR := (rfl)
@[simp] theorem State.unwound_SDR (s : State) (u : State) : (s.unwound u).SDR = s.SDR := (rfl)
@[simp] theorem State.unwound_DST (s : State) (u : State) : (s.unwound u).DST = s.DST := (rfl)
@[simp] theorem State.unwound_CIR (s : State) (u : State) : (s.unwound u).CIR = s.CIR := (rfl)
@[simp] theorem State.unwound_icsFlag (s : State) (u : State) : (s.unwound u).icsFlag = s.icsFlag := (rfl)
@[simp] theorem State.unwound_dispFlag (s : State) (u : State) : (s.unwound u).dispFlag = s.dispFlag := (rfl)
@[simp] theorem State.unwound_lockout (s : State) (u : State) : (s.unwound u).lockout = s.lockout := (rfl)
@[simp] theorem State.unwound_secondary (s : State) (u : State) : (s.unwound u).secondary = s.secondary := (rfl)
@[simp] theorem State.unwound_run (s : State) (u : State) : (s.unwound u).run = s.run := (rfl)
@[simp] theorem State.unwound_debugPad5 (s : State) (u : State) : (s.unwound u).debugPad5 = s.debugPad5 := (rfl)
@[simp] theorem State.unwound_mem (s : State) (u : State) : (s.unwound u).mem = u.mem := (rfl)
@[simp] theorem State.unwound_cfg (s : State) (u : State) : (s.unwound u).cfg = s.cfg := (rfl)
@[simp] theorem State.unwound_freeCtr (s : State) (u : State) : (s.unwound u).freeCtr = u.freeCtr := (rfl)
@[simp] theorem State.unwound_prevDup (s : State) (u : State) : (s.unwound u).prevDup = s.prevDup := (rfl)
@[simp] theorem State.unwound_inputs (s : State) (u : State) : (s.unwound u).inputs = s.inputs := (rfl)
@[simp] theorem State.unwound_mpb (s : State) (u : State) : (s.unwound u).mpb = s.mpb := (rfl)
@[simp] theorem State.unwound_sent (s : State) (u : State) : (s.unwound u).sent = s.sent := (rfl)
@[simp] theorem State.unwound_poll (s : State) (u : State) : (s.unwound u).poll = s.poll := (rfl)
@[simp] theorem State.unwound_owned (s : State) (u : State) : (s.unwound u).owned = s.owned := (rfl)

@[simp] theorem State.withWord_P (s : State) (a v : Word) : (s.withWord a v).P = s.P := by
  unfold State.withWord; split <;> rfl
@[simp] theorem State.withWord_PB (s : State) (a v : Word) : (s.withWord a v).PB = s.PB := by
  unfold State.withWord; split <;> rfl
@[simp] theorem State.withWord_PL (s : State) (a v : Word) : (s.withWord a v).PL = s.PL := by
  unfold State.withWord; split <;> rfl
@[simp] theorem State.withWord_SB (s : State) (a v : Word) : (s.withWord a v).SB = s.SB := by
  unfold State.withWord; split <;> rfl
@[simp] theorem State.withWord_SL (s : State) (a v : Word) : (s.withWord a v).SL = s.SL := by
  unfold State.withWord; split <;> rfl
@[simp] theorem State.withWord_S (s : State) (a v : Word) : (s.withWord a v).S = s.S := by
  unfold State.withWord; split <;> rfl
@[simp] theorem State.withWord_Q (s : State) (a v : Word) : (s.withWord a v).Q = s.Q := by
  unfold State.withWord; split <;> rfl
@[simp] theorem State.withWord_DB (s : State) (a v : Word) : (s.withWord a v).DB = s.DB := by
  unfold State.withWord; split <;> rfl
@[simp] theorem State.withWord_DL (s : State) (a v : Word) : (s.withWord a v).DL = s.DL := by
  unfold State.withWord; split <;> rfl
@[simp] theorem State.withWord_X (s : State) (a v : Word) : (s.withWord a v).X = s.X := by
  unfold State.withWord; split <;> rfl
@[simp] theorem State.withWord_STATUS (s : State) (a v : Word) : (s.withWord a v).STATUS = s.STATUS := by
  unfold State.withWord; split <;> rfl
@[simp] theorem State.withWord_FLAGS (s : State) (a v : Word) : (s.withWord a v).FLAGS = s.FLAGS := by
  unfold State.withWord; split <;> rfl
@[simp] theorem State.withWord_MSG (s : State) (a v : Word) : (s.withWord a v).MSG = s.MSG := by
  unfold State.withWord; split <;> rfl
@[simp] theorem State.withWord_MASK (s : State) (a v : Word) : (s.withWord a v).MASK = s.MASK := by
  unfold State.withWord; split <;> rfl
@[simp] theorem State.withWord_BRKPT (s : State) (a v : Word) : (s.withWord a v).BRKPT = s.BRKPT := by
  unfold State.withWord; split <;> rfl
@[simp] theorem State.withWord_SAR (s : State) (a v : Word) : (s.withWord a v).SAR = s.SAR := by
  unfold State.withWord; split <;> rfl
@[simp] theorem State.withWord_SDR (s : State) (a v : Word) : (s.withWord a v).SDR = s.SDR := by
  unfold State.withWord; split <;> rfl
@[simp] theorem State.withWord_DST (s : State) (a v : Word) : (s.withWord a v).DST = s.DST := by
  unfold State.withWord; split <;> rfl
@[simp] theorem State.withWord_CIR (s : State) (a v : Word) : (s.withWord a v).CIR = s.CIR := by
  unfold State.withWord; split <;> rfl
@[simp] theorem State.withWord_icsFlag (s : State) (a v : Word) : (s.withWord a v).icsFlag = s.icsFlag := by
  unfold State.withWord; split <;> rfl
@[simp] theorem State.withWord_dispFlag (s : State) (a v : Word) : (s.withWord a v).dispFlag = s.dispFlag := by
  unfold State.withWord; split <;> rfl
@[simp] theorem State.withWord_lockout (s : State) (a v : Word) : (s.withWord a v).lockout = s.lockout := by
  unfold State.withWord; split <;> rfl
@[simp] theorem State.withWord_secondary (s : State) (a v : Word) : (s.withWord a v).secondary = s.secondary := by
  unfold State.withWord; split <;> rfl
@[simp] theorem State.withWord_run (s : State) (a v : Word) : (s.withWord a v).run = s.run := by
  unfold State.withWord; split <;> rfl
@[simp] theorem State.withWord_debugPad5 (s : State) (a v : Word) : (s.withWord a v).debugPad5 = s.debugPad5 := by
  unfold State.withWord; split <;> rfl
@[simp] theorem State.withWord_cfg (s : State) (a v : Word) : (s.withWord a v).cfg = s.cfg := by
  unfold State.withWord; split <;> rfl
@[simp] theorem State.withWord_freeCtr (s : State) (a v : Word) : (s.withWord a v).freeCtr = s.freeCtr := by
  unfold State.withWord; split <;> rfl
@[simp] theorem State.withWord_prevDup (s : State) (a v : Word) : (s.withWord a v).prevDup = s.prevDup := by
  unfold State.withWord; split <;> rfl
@[simp] theorem State.withWord_inputs (s : State) (a v : Word) : (s.withWord a v).inputs = s.inputs := by
  unfold State.withWord; split <;> rfl
@[simp] theorem State.withWord_mpb (s : State) (a v : Word) : (s.withWord a v).mpb = s.mpb := by
  unfold State.withWord; split <;> rfl
@[simp] theorem State.withWord_sent (s : State) (a v : Word) : (s.withWord a v).sent = s.sent := by
  unfold State.withWord; split <;> rfl
@[simp] theorem State.withWord_poll (s : State) (a v : Word) : (s.withWord a v).poll = s.poll := by
  unfold State.withWord; split <;> rfl
@[simp] theorem State.withWord_owned (s : State) (a v : Word) : (s.withWord a v).owned = s.owned := by
  unfold State.withWord; split <;> rfl

end Sys2Proof.Machine
end

