-- ==== Sys2Proof/Laws/Vocabulary.lean ====
section
/-! SUPPORT. One lemma per field per update of the vocabulary of Sys2Proof/Safety.lean. -/

namespace Sys2Proof.Machine

@[simp] theorem State.putWord_P (s : State) (a v : Word) : (s.putWord a v).P = s.P := (rfl)
@[simp] theorem State.putWord_PB (s : State) (a v : Word) : (s.putWord a v).PB = s.PB := (rfl)
@[simp] theorem State.putWord_PL (s : State) (a v : Word) : (s.putWord a v).PL = s.PL := (rfl)
@[simp] theorem State.putWord_SB (s : State) (a v : Word) : (s.putWord a v).SB = s.SB := (rfl)
@[simp] theorem State.putWord_SL (s : State) (a v : Word) : (s.putWord a v).SL = s.SL := (rfl)
@[simp] theorem State.putWord_S (s : State) (a v : Word) : (s.putWord a v).S = s.S := (rfl)
@[simp] theorem State.putWord_Q (s : State) (a v : Word) : (s.putWord a v).Q = s.Q := (rfl)
@[simp] theorem State.putWord_DB (s : State) (a v : Word) : (s.putWord a v).DB = s.DB := (rfl)
@[simp] theorem State.putWord_DL (s : State) (a v : Word) : (s.putWord a v).DL = s.DL := (rfl)
@[simp] theorem State.putWord_X (s : State) (a v : Word) : (s.putWord a v).X = s.X := (rfl)
@[simp] theorem State.putWord_STATUS (s : State) (a v : Word) : (s.putWord a v).STATUS = s.STATUS := (rfl)
@[simp] theorem State.putWord_FLAGS (s : State) (a v : Word) : (s.putWord a v).FLAGS = s.FLAGS := (rfl)
@[simp] theorem State.putWord_MSG (s : State) (a v : Word) : (s.putWord a v).MSG = s.MSG := (rfl)
@[simp] theorem State.putWord_MASK (s : State) (a v : Word) : (s.putWord a v).MASK = s.MASK := (rfl)
@[simp] theorem State.putWord_BRKPT (s : State) (a v : Word) : (s.putWord a v).BRKPT = s.BRKPT := (rfl)
@[simp] theorem State.putWord_SAR (s : State) (a v : Word) : (s.putWord a v).SAR = s.SAR := (rfl)
@[simp] theorem State.putWord_SDR (s : State) (a v : Word) : (s.putWord a v).SDR = s.SDR := (rfl)
@[simp] theorem State.putWord_DST (s : State) (a v : Word) : (s.putWord a v).DST = s.DST := (rfl)
@[simp] theorem State.putWord_CIR (s : State) (a v : Word) : (s.putWord a v).CIR = s.CIR := (rfl)
@[simp] theorem State.putWord_icsFlag (s : State) (a v : Word) : (s.putWord a v).icsFlag = s.icsFlag := (rfl)
@[simp] theorem State.putWord_dispFlag (s : State) (a v : Word) : (s.putWord a v).dispFlag = s.dispFlag := (rfl)
@[simp] theorem State.putWord_lockout (s : State) (a v : Word) : (s.putWord a v).lockout = s.lockout := (rfl)
@[simp] theorem State.putWord_secondary (s : State) (a v : Word) : (s.putWord a v).secondary = s.secondary := (rfl)
@[simp] theorem State.putWord_run (s : State) (a v : Word) : (s.putWord a v).run = s.run := (rfl)
@[simp] theorem State.putWord_debugPad5 (s : State) (a v : Word) : (s.putWord a v).debugPad5 = s.debugPad5 := (rfl)
@[simp] theorem State.putWord_mem (s : State) (a v : Word) : (s.putWord a v).mem = s.mem.writeWord (wordAlign a).toNat v := (rfl)
@[simp] theorem State.putWord_cfg (s : State) (a v : Word) : (s.putWord a v).cfg = s.cfg := (rfl)
@[simp] theorem State.putWord_freeCtr (s : State) (a v : Word) : (s.putWord a v).freeCtr = s.freeCtr := (rfl)
@[simp] theorem State.putWord_prevDup (s : State) (a v : Word) : (s.putWord a v).prevDup = s.prevDup := (rfl)
@[simp] theorem State.putWord_inputs (s : State) (a v : Word) : (s.putWord a v).inputs = s.inputs := (rfl)
@[simp] theorem State.putWord_mpb (s : State) (a v : Word) : (s.putWord a v).mpb = s.mpb := (rfl)
@[simp] theorem State.putWord_sent (s : State) (a v : Word) : (s.putWord a v).sent = s.sent := (rfl)
@[simp] theorem State.putWord_poll (s : State) (a v : Word) : (s.putWord a v).poll = s.poll := (rfl)
@[simp] theorem State.putWord_owned (s : State) (a v : Word) : (s.putWord a v).owned = s.owned := (rfl)

@[simp] theorem State.taken_P (s : State) (a : Word) : (s.taken a).P = s.P := (rfl)
@[simp] theorem State.taken_PB (s : State) (a : Word) : (s.taken a).PB = s.PB := (rfl)
@[simp] theorem State.taken_PL (s : State) (a : Word) : (s.taken a).PL = s.PL := (rfl)
@[simp] theorem State.taken_SB (s : State) (a : Word) : (s.taken a).SB = s.SB := (rfl)
@[simp] theorem State.taken_SL (s : State) (a : Word) : (s.taken a).SL = s.SL := (rfl)
@[simp] theorem State.taken_S (s : State) (a : Word) : (s.taken a).S = s.S := (rfl)
@[simp] theorem State.taken_Q (s : State) (a : Word) : (s.taken a).Q = s.Q := (rfl)
@[simp] theorem State.taken_DB (s : State) (a : Word) : (s.taken a).DB = s.DB := (rfl)
@[simp] theorem State.taken_DL (s : State) (a : Word) : (s.taken a).DL = s.DL := (rfl)
@[simp] theorem State.taken_X (s : State) (a : Word) : (s.taken a).X = s.X := (rfl)
@[simp] theorem State.taken_STATUS (s : State) (a : Word) : (s.taken a).STATUS = s.STATUS := (rfl)
@[simp] theorem State.taken_FLAGS (s : State) (a : Word) : (s.taken a).FLAGS = s.FLAGS := (rfl)
@[simp] theorem State.taken_MSG (s : State) (a : Word) : (s.taken a).MSG = s.MSG := (rfl)
@[simp] theorem State.taken_MASK (s : State) (a : Word) : (s.taken a).MASK = s.MASK := (rfl)
@[simp] theorem State.taken_BRKPT (s : State) (a : Word) : (s.taken a).BRKPT = s.BRKPT := (rfl)
@[simp] theorem State.taken_SAR (s : State) (a : Word) : (s.taken a).SAR = s.SAR := (rfl)
@[simp] theorem State.taken_SDR (s : State) (a : Word) : (s.taken a).SDR = s.SDR := (rfl)
@[simp] theorem State.taken_DST (s : State) (a : Word) : (s.taken a).DST = s.DST := (rfl)
@[simp] theorem State.taken_CIR (s : State) (a : Word) : (s.taken a).CIR = s.CIR := (rfl)
@[simp] theorem State.taken_icsFlag (s : State) (a : Word) : (s.taken a).icsFlag = s.icsFlag := (rfl)
@[simp] theorem State.taken_dispFlag (s : State) (a : Word) : (s.taken a).dispFlag = s.dispFlag := (rfl)
@[simp] theorem State.taken_lockout (s : State) (a : Word) : (s.taken a).lockout = s.lockout := (rfl)
@[simp] theorem State.taken_secondary (s : State) (a : Word) : (s.taken a).secondary = s.secondary := (rfl)
@[simp] theorem State.taken_run (s : State) (a : Word) : (s.taken a).run = s.run := (rfl)
@[simp] theorem State.taken_debugPad5 (s : State) (a : Word) : (s.taken a).debugPad5 = s.debugPad5 := (rfl)
@[simp] theorem State.taken_mem (s : State) (a : Word) : (s.taken a).mem = s.mem.writeWord (wordAlign a).toNat 0xFFFFFFFF#32 := (rfl)
@[simp] theorem State.taken_cfg (s : State) (a : Word) : (s.taken a).cfg = s.cfg := (rfl)
@[simp] theorem State.taken_freeCtr (s : State) (a : Word) : (s.taken a).freeCtr = s.freeCtr := (rfl)
@[simp] theorem State.taken_prevDup (s : State) (a : Word) : (s.taken a).prevDup = s.prevDup := (rfl)
@[simp] theorem State.taken_inputs (s : State) (a : Word) : (s.taken a).inputs = s.inputs := (rfl)
@[simp] theorem State.taken_mpb (s : State) (a : Word) : (s.taken a).mpb = s.mpb := (rfl)
@[simp] theorem State.taken_sent (s : State) (a : Word) : (s.taken a).sent = s.sent := (rfl)
@[simp] theorem State.taken_poll (s : State) (a : Word) : (s.taken a).poll = s.poll := (rfl)
@[simp] theorem State.taken_owned (s : State) (a : Word) : (s.taken a).owned = s.owned := (rfl)

@[simp] theorem State.putHalf_P (s : State) (a : Word) (v : Half) : (s.putHalf a v).P = s.P := (rfl)
@[simp] theorem State.putHalf_PB (s : State) (a : Word) (v : Half) : (s.putHalf a v).PB = s.PB := (rfl)
@[simp] theorem State.putHalf_PL (s : State) (a : Word) (v : Half) : (s.putHalf a v).PL = s.PL := (rfl)
@[simp] theorem State.putHalf_SB (s : State) (a : Word) (v : Half) : (s.putHalf a v).SB = s.SB := (rfl)
@[simp] theorem State.putHalf_SL (s : State) (a : Word) (v : Half) : (s.putHalf a v).SL = s.SL := (rfl)
@[simp] theorem State.putHalf_S (s : State) (a : Word) (v : Half) : (s.putHalf a v).S = s.S := (rfl)
@[simp] theorem State.putHalf_Q (s : State) (a : Word) (v : Half) : (s.putHalf a v).Q = s.Q := (rfl)
@[simp] theorem State.putHalf_DB (s : State) (a : Word) (v : Half) : (s.putHalf a v).DB = s.DB := (rfl)
@[simp] theorem State.putHalf_DL (s : State) (a : Word) (v : Half) : (s.putHalf a v).DL = s.DL := (rfl)
@[simp] theorem State.putHalf_X (s : State) (a : Word) (v : Half) : (s.putHalf a v).X = s.X := (rfl)
@[simp] theorem State.putHalf_STATUS (s : State) (a : Word) (v : Half) : (s.putHalf a v).STATUS = s.STATUS := (rfl)
@[simp] theorem State.putHalf_FLAGS (s : State) (a : Word) (v : Half) : (s.putHalf a v).FLAGS = s.FLAGS := (rfl)
@[simp] theorem State.putHalf_MSG (s : State) (a : Word) (v : Half) : (s.putHalf a v).MSG = s.MSG := (rfl)
@[simp] theorem State.putHalf_MASK (s : State) (a : Word) (v : Half) : (s.putHalf a v).MASK = s.MASK := (rfl)
@[simp] theorem State.putHalf_BRKPT (s : State) (a : Word) (v : Half) : (s.putHalf a v).BRKPT = s.BRKPT := (rfl)
@[simp] theorem State.putHalf_SAR (s : State) (a : Word) (v : Half) : (s.putHalf a v).SAR = s.SAR := (rfl)
@[simp] theorem State.putHalf_SDR (s : State) (a : Word) (v : Half) : (s.putHalf a v).SDR = s.SDR := (rfl)
@[simp] theorem State.putHalf_DST (s : State) (a : Word) (v : Half) : (s.putHalf a v).DST = s.DST := (rfl)
@[simp] theorem State.putHalf_CIR (s : State) (a : Word) (v : Half) : (s.putHalf a v).CIR = s.CIR := (rfl)
@[simp] theorem State.putHalf_icsFlag (s : State) (a : Word) (v : Half) : (s.putHalf a v).icsFlag = s.icsFlag := (rfl)
@[simp] theorem State.putHalf_dispFlag (s : State) (a : Word) (v : Half) : (s.putHalf a v).dispFlag = s.dispFlag := (rfl)
@[simp] theorem State.putHalf_lockout (s : State) (a : Word) (v : Half) : (s.putHalf a v).lockout = s.lockout := (rfl)
@[simp] theorem State.putHalf_secondary (s : State) (a : Word) (v : Half) : (s.putHalf a v).secondary = s.secondary := (rfl)
@[simp] theorem State.putHalf_run (s : State) (a : Word) (v : Half) : (s.putHalf a v).run = s.run := (rfl)
@[simp] theorem State.putHalf_debugPad5 (s : State) (a : Word) (v : Half) : (s.putHalf a v).debugPad5 = s.debugPad5 := (rfl)
@[simp] theorem State.putHalf_mem (s : State) (a : Word) (v : Half) : (s.putHalf a v).mem = s.mem.writeHalf (halfAlign a).toNat v := (rfl)
@[simp] theorem State.putHalf_cfg (s : State) (a : Word) (v : Half) : (s.putHalf a v).cfg = s.cfg := (rfl)
@[simp] theorem State.putHalf_freeCtr (s : State) (a : Word) (v : Half) : (s.putHalf a v).freeCtr = s.freeCtr := (rfl)
@[simp] theorem State.putHalf_prevDup (s : State) (a : Word) (v : Half) : (s.putHalf a v).prevDup = s.prevDup := (rfl)
@[simp] theorem State.putHalf_inputs (s : State) (a : Word) (v : Half) : (s.putHalf a v).inputs = s.inputs := (rfl)
@[simp] theorem State.putHalf_mpb (s : State) (a : Word) (v : Half) : (s.putHalf a v).mpb = s.mpb := (rfl)
@[simp] theorem State.putHalf_sent (s : State) (a : Word) (v : Half) : (s.putHalf a v).sent = s.sent := (rfl)
@[simp] theorem State.putHalf_poll (s : State) (a : Word) (v : Half) : (s.putHalf a v).poll = s.poll := (rfl)
@[simp] theorem State.putHalf_owned (s : State) (a : Word) (v : Half) : (s.putHalf a v).owned = s.owned := (rfl)

@[simp] theorem State.putByte_P (s : State) (a : Word) (v : Byte) : (s.putByte a v).P = s.P := (rfl)
@[simp] theorem State.putByte_PB (s : State) (a : Word) (v : Byte) : (s.putByte a v).PB = s.PB := (rfl)
@[simp] theorem State.putByte_PL (s : State) (a : Word) (v : Byte) : (s.putByte a v).PL = s.PL := (rfl)
@[simp] theorem State.putByte_SB (s : State) (a : Word) (v : Byte) : (s.putByte a v).SB = s.SB := (rfl)
@[simp] theorem State.putByte_SL (s : State) (a : Word) (v : Byte) : (s.putByte a v).SL = s.SL := (rfl)
@[simp] theorem State.putByte_S (s : State) (a : Word) (v : Byte) : (s.putByte a v).S = s.S := (rfl)
@[simp] theorem State.putByte_Q (s : State) (a : Word) (v : Byte) : (s.putByte a v).Q = s.Q := (rfl)
@[simp] theorem State.putByte_DB (s : State) (a : Word) (v : Byte) : (s.putByte a v).DB = s.DB := (rfl)
@[simp] theorem State.putByte_DL (s : State) (a : Word) (v : Byte) : (s.putByte a v).DL = s.DL := (rfl)
@[simp] theorem State.putByte_X (s : State) (a : Word) (v : Byte) : (s.putByte a v).X = s.X := (rfl)
@[simp] theorem State.putByte_STATUS (s : State) (a : Word) (v : Byte) : (s.putByte a v).STATUS = s.STATUS := (rfl)
@[simp] theorem State.putByte_FLAGS (s : State) (a : Word) (v : Byte) : (s.putByte a v).FLAGS = s.FLAGS := (rfl)
@[simp] theorem State.putByte_MSG (s : State) (a : Word) (v : Byte) : (s.putByte a v).MSG = s.MSG := (rfl)
@[simp] theorem State.putByte_MASK (s : State) (a : Word) (v : Byte) : (s.putByte a v).MASK = s.MASK := (rfl)
@[simp] theorem State.putByte_BRKPT (s : State) (a : Word) (v : Byte) : (s.putByte a v).BRKPT = s.BRKPT := (rfl)
@[simp] theorem State.putByte_SAR (s : State) (a : Word) (v : Byte) : (s.putByte a v).SAR = s.SAR := (rfl)
@[simp] theorem State.putByte_SDR (s : State) (a : Word) (v : Byte) : (s.putByte a v).SDR = s.SDR := (rfl)
@[simp] theorem State.putByte_DST (s : State) (a : Word) (v : Byte) : (s.putByte a v).DST = s.DST := (rfl)
@[simp] theorem State.putByte_CIR (s : State) (a : Word) (v : Byte) : (s.putByte a v).CIR = s.CIR := (rfl)
@[simp] theorem State.putByte_icsFlag (s : State) (a : Word) (v : Byte) : (s.putByte a v).icsFlag = s.icsFlag := (rfl)
@[simp] theorem State.putByte_dispFlag (s : State) (a : Word) (v : Byte) : (s.putByte a v).dispFlag = s.dispFlag := (rfl)
@[simp] theorem State.putByte_lockout (s : State) (a : Word) (v : Byte) : (s.putByte a v).lockout = s.lockout := (rfl)
@[simp] theorem State.putByte_secondary (s : State) (a : Word) (v : Byte) : (s.putByte a v).secondary = s.secondary := (rfl)
@[simp] theorem State.putByte_run (s : State) (a : Word) (v : Byte) : (s.putByte a v).run = s.run := (rfl)
@[simp] theorem State.putByte_debugPad5 (s : State) (a : Word) (v : Byte) : (s.putByte a v).debugPad5 = s.debugPad5 := (rfl)
@[simp] theorem State.putByte_mem (s : State) (a : Word) (v : Byte) : (s.putByte a v).mem = s.mem.write a.toNat v := (rfl)
@[simp] theorem State.putByte_cfg (s : State) (a : Word) (v : Byte) : (s.putByte a v).cfg = s.cfg := (rfl)
@[simp] theorem State.putByte_freeCtr (s : State) (a : Word) (v : Byte) : (s.putByte a v).freeCtr = s.freeCtr := (rfl)
@[simp] theorem State.putByte_prevDup (s : State) (a : Word) (v : Byte) : (s.putByte a v).prevDup = s.prevDup := (rfl)
@[simp] theorem State.putByte_inputs (s : State) (a : Word) (v : Byte) : (s.putByte a v).inputs = s.inputs := (rfl)
@[simp] theorem State.putByte_mpb (s : State) (a : Word) (v : Byte) : (s.putByte a v).mpb = s.mpb := (rfl)
@[simp] theorem State.putByte_sent (s : State) (a : Word) (v : Byte) : (s.putByte a v).sent = s.sent := (rfl)
@[simp] theorem State.putByte_poll (s : State) (a : Word) (v : Byte) : (s.putByte a v).poll = s.poll := (rfl)
@[simp] theorem State.putByte_owned (s : State) (a : Word) (v : Byte) : (s.putByte a v).owned = s.owned := (rfl)

@[simp] theorem State.putTop_P (s : State) (k : Nat) (v : Word) : (s.putTop k v).P = s.P := (rfl)
@[simp] theorem State.putTop_PB (s : State) (k : Nat) (v : Word) : (s.putTop k v).PB = s.PB := (rfl)
@[simp] theorem State.putTop_PL (s : State) (k : Nat) (v : Word) : (s.putTop k v).PL = s.PL := (rfl)
@[simp] theorem State.putTop_SB (s : State) (k : Nat) (v : Word) : (s.putTop k v).SB = s.SB := (rfl)
@[simp] theorem State.putTop_SL (s : State) (k : Nat) (v : Word) : (s.putTop k v).SL = s.SL := (rfl)
@[simp] theorem State.putTop_S (s : State) (k : Nat) (v : Word) : (s.putTop k v).S = s.S := (rfl)
@[simp] theorem State.putTop_Q (s : State) (k : Nat) (v : Word) : (s.putTop k v).Q = s.Q := (rfl)
@[simp] theorem State.putTop_DB (s : State) (k : Nat) (v : Word) : (s.putTop k v).DB = s.DB := (rfl)
@[simp] theorem State.putTop_DL (s : State) (k : Nat) (v : Word) : (s.putTop k v).DL = s.DL := (rfl)
@[simp] theorem State.putTop_X (s : State) (k : Nat) (v : Word) : (s.putTop k v).X = s.X := (rfl)
@[simp] theorem State.putTop_STATUS (s : State) (k : Nat) (v : Word) : (s.putTop k v).STATUS = s.STATUS := (rfl)
@[simp] theorem State.putTop_FLAGS (s : State) (k : Nat) (v : Word) : (s.putTop k v).FLAGS = s.FLAGS := (rfl)
@[simp] theorem State.putTop_MSG (s : State) (k : Nat) (v : Word) : (s.putTop k v).MSG = s.MSG := (rfl)
@[simp] theorem State.putTop_MASK (s : State) (k : Nat) (v : Word) : (s.putTop k v).MASK = s.MASK := (rfl)
@[simp] theorem State.putTop_BRKPT (s : State) (k : Nat) (v : Word) : (s.putTop k v).BRKPT = s.BRKPT := (rfl)
@[simp] theorem State.putTop_SAR (s : State) (k : Nat) (v : Word) : (s.putTop k v).SAR = s.SAR := (rfl)
@[simp] theorem State.putTop_SDR (s : State) (k : Nat) (v : Word) : (s.putTop k v).SDR = s.SDR := (rfl)
@[simp] theorem State.putTop_DST (s : State) (k : Nat) (v : Word) : (s.putTop k v).DST = s.DST := (rfl)
@[simp] theorem State.putTop_CIR (s : State) (k : Nat) (v : Word) : (s.putTop k v).CIR = s.CIR := (rfl)
@[simp] theorem State.putTop_icsFlag (s : State) (k : Nat) (v : Word) : (s.putTop k v).icsFlag = s.icsFlag := (rfl)
@[simp] theorem State.putTop_dispFlag (s : State) (k : Nat) (v : Word) : (s.putTop k v).dispFlag = s.dispFlag := (rfl)
@[simp] theorem State.putTop_lockout (s : State) (k : Nat) (v : Word) : (s.putTop k v).lockout = s.lockout := (rfl)
@[simp] theorem State.putTop_secondary (s : State) (k : Nat) (v : Word) : (s.putTop k v).secondary = s.secondary := (rfl)
@[simp] theorem State.putTop_run (s : State) (k : Nat) (v : Word) : (s.putTop k v).run = s.run := (rfl)
@[simp] theorem State.putTop_debugPad5 (s : State) (k : Nat) (v : Word) : (s.putTop k v).debugPad5 = s.debugPad5 := (rfl)
@[simp] theorem State.putTop_mem (s : State) (k : Nat) (v : Word) : (s.putTop k v).mem = s.mem.writeWord (wordAlign (s.S - BitVec.ofNat 32 (4 * k))).toNat v := (rfl)
@[simp] theorem State.putTop_cfg (s : State) (k : Nat) (v : Word) : (s.putTop k v).cfg = s.cfg := (rfl)
@[simp] theorem State.putTop_freeCtr (s : State) (k : Nat) (v : Word) : (s.putTop k v).freeCtr = s.freeCtr := (rfl)
@[simp] theorem State.putTop_prevDup (s : State) (k : Nat) (v : Word) : (s.putTop k v).prevDup = s.prevDup := (rfl)
@[simp] theorem State.putTop_inputs (s : State) (k : Nat) (v : Word) : (s.putTop k v).inputs = s.inputs := (rfl)
@[simp] theorem State.putTop_mpb (s : State) (k : Nat) (v : Word) : (s.putTop k v).mpb = s.mpb := (rfl)
@[simp] theorem State.putTop_sent (s : State) (k : Nat) (v : Word) : (s.putTop k v).sent = s.sent := (rfl)
@[simp] theorem State.putTop_poll (s : State) (k : Nat) (v : Word) : (s.putTop k v).poll = s.poll := (rfl)
@[simp] theorem State.putTop_owned (s : State) (k : Nat) (v : Word) : (s.putTop k v).owned = s.owned := (rfl)

@[simp] theorem State.pushed_P (s : State) (v : Word) : (s.pushed v).P = s.P := (rfl)
@[simp] theorem State.pushed_PB (s : State) (v : Word) : (s.pushed v).PB = s.PB := (rfl)
@[simp] theorem State.pushed_PL (s : State) (v : Word) : (s.pushed v).PL = s.PL := (rfl)
@[simp] theorem State.pushed_SB (s : State) (v : Word) : (s.pushed v).SB = s.SB := (rfl)
@[simp] theorem State.pushed_SL (s : State) (v : Word) : (s.pushed v).SL = s.SL := (rfl)
@[simp] theorem State.pushed_S (s : State) (v : Word) : (s.pushed v).S = s.S + 4#32 := (rfl)
@[simp] theorem State.pushed_Q (s : State) (v : Word) : (s.pushed v).Q = s.Q := (rfl)
@[simp] theorem State.pushed_DB (s : State) (v : Word) : (s.pushed v).DB = s.DB := (rfl)
@[simp] theorem State.pushed_DL (s : State) (v : Word) : (s.pushed v).DL = s.DL := (rfl)
@[simp] theorem State.pushed_X (s : State) (v : Word) : (s.pushed v).X = s.X := (rfl)
@[simp] theorem State.pushed_STATUS (s : State) (v : Word) : (s.pushed v).STATUS = s.STATUS := (rfl)
@[simp] theorem State.pushed_FLAGS (s : State) (v : Word) : (s.pushed v).FLAGS = s.FLAGS := (rfl)
@[simp] theorem State.pushed_MSG (s : State) (v : Word) : (s.pushed v).MSG = s.MSG := (rfl)
@[simp] theorem State.pushed_MASK (s : State) (v : Word) : (s.pushed v).MASK = s.MASK := (rfl)
@[simp] theorem State.pushed_BRKPT (s : State) (v : Word) : (s.pushed v).BRKPT = s.BRKPT := (rfl)
@[simp] theorem State.pushed_SAR (s : State) (v : Word) : (s.pushed v).SAR = s.SAR := (rfl)
@[simp] theorem State.pushed_SDR (s : State) (v : Word) : (s.pushed v).SDR = s.SDR := (rfl)
@[simp] theorem State.pushed_DST (s : State) (v : Word) : (s.pushed v).DST = s.DST := (rfl)
@[simp] theorem State.pushed_CIR (s : State) (v : Word) : (s.pushed v).CIR = s.CIR := (rfl)
@[simp] theorem State.pushed_icsFlag (s : State) (v : Word) : (s.pushed v).icsFlag = s.icsFlag := (rfl)
@[simp] theorem State.pushed_dispFlag (s : State) (v : Word) : (s.pushed v).dispFlag = s.dispFlag := (rfl)
@[simp] theorem State.pushed_lockout (s : State) (v : Word) : (s.pushed v).lockout = s.lockout := (rfl)
@[simp] theorem State.pushed_secondary (s : State) (v : Word) : (s.pushed v).secondary = s.secondary := (rfl)
@[simp] theorem State.pushed_run (s : State) (v : Word) : (s.pushed v).run = s.run := (rfl)
@[simp] theorem State.pushed_debugPad5 (s : State) (v : Word) : (s.pushed v).debugPad5 = s.debugPad5 := (rfl)
@[simp] theorem State.pushed_mem (s : State) (v : Word) : (s.pushed v).mem = s.mem.writeWord (wordAlign (s.S + 4#32)).toNat v := (rfl)
@[simp] theorem State.pushed_cfg (s : State) (v : Word) : (s.pushed v).cfg = s.cfg := (rfl)
@[simp] theorem State.pushed_freeCtr (s : State) (v : Word) : (s.pushed v).freeCtr = s.freeCtr := (rfl)
@[simp] theorem State.pushed_prevDup (s : State) (v : Word) : (s.pushed v).prevDup = s.prevDup := (rfl)
@[simp] theorem State.pushed_inputs (s : State) (v : Word) : (s.pushed v).inputs = s.inputs := (rfl)
@[simp] theorem State.pushed_mpb (s : State) (v : Word) : (s.pushed v).mpb = s.mpb := (rfl)
@[simp] theorem State.pushed_sent (s : State) (v : Word) : (s.pushed v).sent = s.sent := (rfl)
@[simp] theorem State.pushed_poll (s : State) (v : Word) : (s.pushed v).poll = s.poll := (rfl)
@[simp] theorem State.pushed_owned (s : State) (v : Word) : (s.pushed v).owned = s.owned := (rfl)

@[simp] theorem State.popped_P (s : State) (k : Nat) : (s.popped k).P = s.P := (rfl)
@[simp] theorem State.popped_PB (s : State) (k : Nat) : (s.popped k).PB = s.PB := (rfl)
@[simp] theorem State.popped_PL (s : State) (k : Nat) : (s.popped k).PL = s.PL := (rfl)
@[simp] theorem State.popped_SB (s : State) (k : Nat) : (s.popped k).SB = s.SB := (rfl)
@[simp] theorem State.popped_SL (s : State) (k : Nat) : (s.popped k).SL = s.SL := (rfl)
@[simp] theorem State.popped_S (s : State) (k : Nat) : (s.popped k).S = s.S - BitVec.ofNat 32 (4 * k) := (rfl)
@[simp] theorem State.popped_Q (s : State) (k : Nat) : (s.popped k).Q = s.Q := (rfl)
@[simp] theorem State.popped_DB (s : State) (k : Nat) : (s.popped k).DB = s.DB := (rfl)
@[simp] theorem State.popped_DL (s : State) (k : Nat) : (s.popped k).DL = s.DL := (rfl)
@[simp] theorem State.popped_X (s : State) (k : Nat) : (s.popped k).X = s.X := (rfl)
@[simp] theorem State.popped_STATUS (s : State) (k : Nat) : (s.popped k).STATUS = s.STATUS := (rfl)
@[simp] theorem State.popped_FLAGS (s : State) (k : Nat) : (s.popped k).FLAGS = s.FLAGS := (rfl)
@[simp] theorem State.popped_MSG (s : State) (k : Nat) : (s.popped k).MSG = s.MSG := (rfl)
@[simp] theorem State.popped_MASK (s : State) (k : Nat) : (s.popped k).MASK = s.MASK := (rfl)
@[simp] theorem State.popped_BRKPT (s : State) (k : Nat) : (s.popped k).BRKPT = s.BRKPT := (rfl)
@[simp] theorem State.popped_SAR (s : State) (k : Nat) : (s.popped k).SAR = s.SAR := (rfl)
@[simp] theorem State.popped_SDR (s : State) (k : Nat) : (s.popped k).SDR = s.SDR := (rfl)
@[simp] theorem State.popped_DST (s : State) (k : Nat) : (s.popped k).DST = s.DST := (rfl)
@[simp] theorem State.popped_CIR (s : State) (k : Nat) : (s.popped k).CIR = s.CIR := (rfl)
@[simp] theorem State.popped_icsFlag (s : State) (k : Nat) : (s.popped k).icsFlag = s.icsFlag := (rfl)
@[simp] theorem State.popped_dispFlag (s : State) (k : Nat) : (s.popped k).dispFlag = s.dispFlag := (rfl)
@[simp] theorem State.popped_lockout (s : State) (k : Nat) : (s.popped k).lockout = s.lockout := (rfl)
@[simp] theorem State.popped_secondary (s : State) (k : Nat) : (s.popped k).secondary = s.secondary := (rfl)
@[simp] theorem State.popped_run (s : State) (k : Nat) : (s.popped k).run = s.run := (rfl)
@[simp] theorem State.popped_debugPad5 (s : State) (k : Nat) : (s.popped k).debugPad5 = s.debugPad5 := (rfl)
@[simp] theorem State.popped_mem (s : State) (k : Nat) : (s.popped k).mem = s.mem := (rfl)
@[simp] theorem State.popped_cfg (s : State) (k : Nat) : (s.popped k).cfg = s.cfg := (rfl)
@[simp] theorem State.popped_freeCtr (s : State) (k : Nat) : (s.popped k).freeCtr = s.freeCtr := (rfl)
@[simp] theorem State.popped_prevDup (s : State) (k : Nat) : (s.popped k).prevDup = s.prevDup := (rfl)
@[simp] theorem State.popped_inputs (s : State) (k : Nat) : (s.popped k).inputs = s.inputs := (rfl)
@[simp] theorem State.popped_mpb (s : State) (k : Nat) : (s.popped k).mpb = s.mpb := (rfl)
@[simp] theorem State.popped_sent (s : State) (k : Nat) : (s.popped k).sent = s.sent := (rfl)
@[simp] theorem State.popped_poll (s : State) (k : Nat) : (s.popped k).poll = s.poll := (rfl)
@[simp] theorem State.popped_owned (s : State) (k : Nat) : (s.popped k).owned = s.owned := (rfl)

@[simp] theorem State.putX_P (s : State) (v : Word) : (s.putX v).P = s.P := (rfl)
@[simp] theorem State.putX_PB (s : State) (v : Word) : (s.putX v).PB = s.PB := (rfl)
@[simp] theorem State.putX_PL (s : State) (v : Word) : (s.putX v).PL = s.PL := (rfl)
@[simp] theorem State.putX_SB (s : State) (v : Word) : (s.putX v).SB = s.SB := (rfl)
@[simp] theorem State.putX_SL (s : State) (v : Word) : (s.putX v).SL = s.SL := (rfl)
@[simp] theorem State.putX_S (s : State) (v : Word) : (s.putX v).S = s.S := (rfl)
@[simp] theorem State.putX_Q (s : State) (v : Word) : (s.putX v).Q = s.Q := (rfl)
@[simp] theorem State.putX_DB (s : State) (v : Word) : (s.putX v).DB = s.DB := (rfl)
@[simp] theorem State.putX_DL (s : State) (v : Word) : (s.putX v).DL = s.DL := (rfl)
@[simp] theorem State.putX_X (s : State) (v : Word) : (s.putX v).X = v := (rfl)
@[simp] theorem State.putX_STATUS (s : State) (v : Word) : (s.putX v).STATUS = s.STATUS := (rfl)
@[simp] theorem State.putX_FLAGS (s : State) (v : Word) : (s.putX v).FLAGS = s.FLAGS := (rfl)
@[simp] theorem State.putX_MSG (s : State) (v : Word) : (s.putX v).MSG = s.MSG := (rfl)
@[simp] theorem State.putX_MASK (s : State) (v : Word) : (s.putX v).MASK = s.MASK := (rfl)
@[simp] theorem State.putX_BRKPT (s : State) (v : Word) : (s.putX v).BRKPT = s.BRKPT := (rfl)
@[simp] theorem State.putX_SAR (s : State) (v : Word) : (s.putX v).SAR = s.SAR := (rfl)
@[simp] theorem State.putX_SDR (s : State) (v : Word) : (s.putX v).SDR = s.SDR := (rfl)
@[simp] theorem State.putX_DST (s : State) (v : Word) : (s.putX v).DST = s.DST := (rfl)
@[simp] theorem State.putX_CIR (s : State) (v : Word) : (s.putX v).CIR = s.CIR := (rfl)
@[simp] theorem State.putX_icsFlag (s : State) (v : Word) : (s.putX v).icsFlag = s.icsFlag := (rfl)
@[simp] theorem State.putX_dispFlag (s : State) (v : Word) : (s.putX v).dispFlag = s.dispFlag := (rfl)
@[simp] theorem State.putX_lockout (s : State) (v : Word) : (s.putX v).lockout = s.lockout := (rfl)
@[simp] theorem State.putX_secondary (s : State) (v : Word) : (s.putX v).secondary = s.secondary := (rfl)
@[simp] theorem State.putX_run (s : State) (v : Word) : (s.putX v).run = s.run := (rfl)
@[simp] theorem State.putX_debugPad5 (s : State) (v : Word) : (s.putX v).debugPad5 = s.debugPad5 := (rfl)
@[simp] theorem State.putX_mem (s : State) (v : Word) : (s.putX v).mem = s.mem := (rfl)
@[simp] theorem State.putX_cfg (s : State) (v : Word) : (s.putX v).cfg = s.cfg := (rfl)
@[simp] theorem State.putX_freeCtr (s : State) (v : Word) : (s.putX v).freeCtr = s.freeCtr := (rfl)
@[simp] theorem State.putX_prevDup (s : State) (v : Word) : (s.putX v).prevDup = s.prevDup := (rfl)
@[simp] theorem State.putX_inputs (s : State) (v : Word) : (s.putX v).inputs = s.inputs := (rfl)
@[simp] theorem State.putX_mpb (s : State) (v : Word) : (s.putX v).mpb = s.mpb := (rfl)
@[simp] theorem State.putX_sent (s : State) (v : Word) : (s.putX v).sent = s.sent := (rfl)
@[simp] theorem State.putX_poll (s : State) (v : Word) : (s.putX v).poll = s.poll := (rfl)
@[simp] theorem State.putX_owned (s : State) (v : Word) : (s.putX v).owned = s.owned := (rfl)

@[simp] theorem State.advanced_P (s : State) (i : Instr) : (s.advanced i).P = s.P + BitVec.ofNat 32 i.ilen := (rfl)
@[simp] theorem State.advanced_PB (s : State) (i : Instr) : (s.advanced i).PB = s.PB := (rfl)
@[simp] theorem State.advanced_PL (s : State) (i : Instr) : (s.advanced i).PL = s.PL := (rfl)
@[simp] theorem State.advanced_SB (s : State) (i : Instr) : (s.advanced i).SB = s.SB := (rfl)
@[simp] theorem State.advanced_SL (s : State) (i : Instr) : (s.advanced i).SL = s.SL := (rfl)
@[simp] theorem State.advanced_S (s : State) (i : Instr) : (s.advanced i).S = s.S := (rfl)
@[simp] theorem State.advanced_Q (s : State) (i : Instr) : (s.advanced i).Q = s.Q := (rfl)
@[simp] theorem State.advanced_DB (s : State) (i : Instr) : (s.advanced i).DB = s.DB := (rfl)
@[simp] theorem State.advanced_DL (s : State) (i : Instr) : (s.advanced i).DL = s.DL := (rfl)
@[simp] theorem State.advanced_X (s : State) (i : Instr) : (s.advanced i).X = s.X := (rfl)
@[simp] theorem State.advanced_STATUS (s : State) (i : Instr) : (s.advanced i).STATUS = s.STATUS := (rfl)
@[simp] theorem State.advanced_FLAGS (s : State) (i : Instr) : (s.advanced i).FLAGS = s.FLAGS := (rfl)
@[simp] theorem State.advanced_MSG (s : State) (i : Instr) : (s.advanced i).MSG = s.MSG := (rfl)
@[simp] theorem State.advanced_MASK (s : State) (i : Instr) : (s.advanced i).MASK = s.MASK := (rfl)
@[simp] theorem State.advanced_BRKPT (s : State) (i : Instr) : (s.advanced i).BRKPT = s.BRKPT := (rfl)
@[simp] theorem State.advanced_SAR (s : State) (i : Instr) : (s.advanced i).SAR = s.SAR := (rfl)
@[simp] theorem State.advanced_SDR (s : State) (i : Instr) : (s.advanced i).SDR = s.SDR := (rfl)
@[simp] theorem State.advanced_DST (s : State) (i : Instr) : (s.advanced i).DST = s.DST := (rfl)
@[simp] theorem State.advanced_CIR (s : State) (i : Instr) : (s.advanced i).CIR = s.CIR := (rfl)
@[simp] theorem State.advanced_icsFlag (s : State) (i : Instr) : (s.advanced i).icsFlag = s.icsFlag := (rfl)
@[simp] theorem State.advanced_dispFlag (s : State) (i : Instr) : (s.advanced i).dispFlag = s.dispFlag := (rfl)
@[simp] theorem State.advanced_lockout (s : State) (i : Instr) : (s.advanced i).lockout = s.lockout := (rfl)
@[simp] theorem State.advanced_secondary (s : State) (i : Instr) : (s.advanced i).secondary = s.secondary := (rfl)
@[simp] theorem State.advanced_run (s : State) (i : Instr) : (s.advanced i).run = s.run := (rfl)
@[simp] theorem State.advanced_debugPad5 (s : State) (i : Instr) : (s.advanced i).debugPad5 = s.debugPad5 := (rfl)
@[simp] theorem State.advanced_mem (s : State) (i : Instr) : (s.advanced i).mem = s.mem := (rfl)
@[simp] theorem State.advanced_cfg (s : State) (i : Instr) : (s.advanced i).cfg = s.cfg := (rfl)
@[simp] theorem State.advanced_freeCtr (s : State) (i : Instr) : (s.advanced i).freeCtr = s.freeCtr := (rfl)
@[simp] theorem State.advanced_prevDup (s : State) (i : Instr) : (s.advanced i).prevDup = decide (i = .dup) := (rfl)
@[simp] theorem State.advanced_inputs (s : State) (i : Instr) : (s.advanced i).inputs = s.inputs := (rfl)
@[simp] theorem State.advanced_mpb (s : State) (i : Instr) : (s.advanced i).mpb = s.mpb := (rfl)
@[simp] theorem State.advanced_sent (s : State) (i : Instr) : (s.advanced i).sent = s.sent := (rfl)
@[simp] theorem State.advanced_poll (s : State) (i : Instr) : (s.advanced i).poll = s.poll := (rfl)
@[simp] theorem State.advanced_owned (s : State) (i : Instr) : (s.advanced i).owned = s.owned := (rfl)

@[simp] theorem State.jumped_P (s : State) (t : Word) : (s.jumped t).P = halfAlign t := (rfl)
@[simp] theorem State.jumped_PB (s : State) (t : Word) : (s.jumped t).PB = s.PB := (rfl)
@[simp] theorem State.jumped_PL (s : State) (t : Word) : (s.jumped t).PL = s.PL := (rfl)
@[simp] theorem State.jumped_SB (s : State) (t : Word) : (s.jumped t).SB = s.SB := (rfl)
@[simp] theorem State.jumped_SL (s : State) (t : Word) : (s.jumped t).SL = s.SL := (rfl)
@[simp] theorem State.jumped_S (s : State) (t : Word) : (s.jumped t).S = s.S := (rfl)
@[simp] theorem State.jumped_Q (s : State) (t : Word) : (s.jumped t).Q = s.Q := (rfl)
@[simp] theorem State.jumped_DB (s : State) (t : Word) : (s.jumped t).DB = s.DB := (rfl)
@[simp] theorem State.jumped_DL (s : State) (t : Word) : (s.jumped t).DL = s.DL := (rfl)
@[simp] theorem State.jumped_X (s : State) (t : Word) : (s.jumped t).X = s.X := (rfl)
@[simp] theorem State.jumped_STATUS (s : State) (t : Word) : (s.jumped t).STATUS = s.STATUS := (rfl)
@[simp] theorem State.jumped_FLAGS (s : State) (t : Word) : (s.jumped t).FLAGS = s.FLAGS := (rfl)
@[simp] theorem State.jumped_MSG (s : State) (t : Word) : (s.jumped t).MSG = s.MSG := (rfl)
@[simp] theorem State.jumped_MASK (s : State) (t : Word) : (s.jumped t).MASK = s.MASK := (rfl)
@[simp] theorem State.jumped_BRKPT (s : State) (t : Word) : (s.jumped t).BRKPT = s.BRKPT := (rfl)
@[simp] theorem State.jumped_SAR (s : State) (t : Word) : (s.jumped t).SAR = s.SAR := (rfl)
@[simp] theorem State.jumped_SDR (s : State) (t : Word) : (s.jumped t).SDR = s.SDR := (rfl)
@[simp] theorem State.jumped_DST (s : State) (t : Word) : (s.jumped t).DST = s.DST := (rfl)
@[simp] theorem State.jumped_CIR (s : State) (t : Word) : (s.jumped t).CIR = s.CIR := (rfl)
@[simp] theorem State.jumped_icsFlag (s : State) (t : Word) : (s.jumped t).icsFlag = s.icsFlag := (rfl)
@[simp] theorem State.jumped_dispFlag (s : State) (t : Word) : (s.jumped t).dispFlag = s.dispFlag := (rfl)
@[simp] theorem State.jumped_lockout (s : State) (t : Word) : (s.jumped t).lockout = s.lockout := (rfl)
@[simp] theorem State.jumped_secondary (s : State) (t : Word) : (s.jumped t).secondary = s.secondary := (rfl)
@[simp] theorem State.jumped_run (s : State) (t : Word) : (s.jumped t).run = s.run := (rfl)
@[simp] theorem State.jumped_debugPad5 (s : State) (t : Word) : (s.jumped t).debugPad5 = s.debugPad5 := (rfl)
@[simp] theorem State.jumped_mem (s : State) (t : Word) : (s.jumped t).mem = s.mem := (rfl)
@[simp] theorem State.jumped_cfg (s : State) (t : Word) : (s.jumped t).cfg = s.cfg := (rfl)
@[simp] theorem State.jumped_freeCtr (s : State) (t : Word) : (s.jumped t).freeCtr = s.freeCtr := (rfl)
@[simp] theorem State.jumped_prevDup (s : State) (t : Word) : (s.jumped t).prevDup = false := (rfl)
@[simp] theorem State.jumped_inputs (s : State) (t : Word) : (s.jumped t).inputs = s.inputs := (rfl)
@[simp] theorem State.jumped_mpb (s : State) (t : Word) : (s.jumped t).mpb = s.mpb := (rfl)
@[simp] theorem State.jumped_sent (s : State) (t : Word) : (s.jumped t).sent = s.sent := (rfl)
@[simp] theorem State.jumped_poll (s : State) (t : Word) : (s.jumped t).poll = s.poll := (rfl)
@[simp] theorem State.jumped_owned (s : State) (t : Word) : (s.jumped t).owned = s.owned := (rfl)

@[simp] theorem State.ended_P (s : State) (d : Bool) (k : Nat) : (s.ended d k).P = s.P := (rfl)
@[simp] theorem State.ended_PB (s : State) (d : Bool) (k : Nat) : (s.ended d k).PB = s.PB := (rfl)
@[simp] theorem State.ended_PL (s : State) (d : Bool) (k : Nat) : (s.ended d k).PL = s.PL := (rfl)
@[simp] theorem State.ended_SB (s : State) (d : Bool) (k : Nat) : (s.ended d k).SB = s.SB := (rfl)
@[simp] theorem State.ended_SL (s : State) (d : Bool) (k : Nat) : (s.ended d k).SL = s.SL := (rfl)
@[simp] theorem State.ended_S (s : State) (d : Bool) (k : Nat) : (s.ended d k).S = s.S - BitVec.ofNat 32 (4 * k) := (rfl)
@[simp] theorem State.ended_Q (s : State) (d : Bool) (k : Nat) : (s.ended d k).Q = s.Q := (rfl)
@[simp] theorem State.ended_DB (s : State) (d : Bool) (k : Nat) : (s.ended d k).DB = s.DB := (rfl)
@[simp] theorem State.ended_DL (s : State) (d : Bool) (k : Nat) : (s.ended d k).DL = s.DL := (rfl)
@[simp] theorem State.ended_X (s : State) (d : Bool) (k : Nat) : (s.ended d k).X = s.X := (rfl)
@[simp] theorem State.ended_STATUS (s : State) (d : Bool) (k : Nat) : (s.ended d k).STATUS = (s.setPending false).STATUS := (rfl)
@[simp] theorem State.ended_FLAGS (s : State) (d : Bool) (k : Nat) : (s.ended d k).FLAGS = s.FLAGS := (rfl)
@[simp] theorem State.ended_MSG (s : State) (d : Bool) (k : Nat) : (s.ended d k).MSG = s.MSG := (rfl)
@[simp] theorem State.ended_MASK (s : State) (d : Bool) (k : Nat) : (s.ended d k).MASK = s.MASK := (rfl)
@[simp] theorem State.ended_BRKPT (s : State) (d : Bool) (k : Nat) : (s.ended d k).BRKPT = s.BRKPT := (rfl)
@[simp] theorem State.ended_SAR (s : State) (d : Bool) (k : Nat) : (s.ended d k).SAR = s.SAR := (rfl)
@[simp] theorem State.ended_SDR (s : State) (d : Bool) (k : Nat) : (s.ended d k).SDR = s.SDR := (rfl)
@[simp] theorem State.ended_DST (s : State) (d : Bool) (k : Nat) : (s.ended d k).DST = s.DST := (rfl)
@[simp] theorem State.ended_CIR (s : State) (d : Bool) (k : Nat) : (s.ended d k).CIR = s.CIR := (rfl)
@[simp] theorem State.ended_icsFlag (s : State) (d : Bool) (k : Nat) : (s.ended d k).icsFlag = s.icsFlag := (rfl)
@[simp] theorem State.ended_dispFlag (s : State) (d : Bool) (k : Nat) : (s.ended d k).dispFlag = s.dispFlag := (rfl)
@[simp] theorem State.ended_lockout (s : State) (d : Bool) (k : Nat) : (s.ended d k).lockout = s.lockout := (rfl)
@[simp] theorem State.ended_secondary (s : State) (d : Bool) (k : Nat) : (s.ended d k).secondary = s.secondary := (rfl)
@[simp] theorem State.ended_run (s : State) (d : Bool) (k : Nat) : (s.ended d k).run = s.run := (rfl)
@[simp] theorem State.ended_debugPad5 (s : State) (d : Bool) (k : Nat) : (s.ended d k).debugPad5 = s.debugPad5 := (rfl)
@[simp] theorem State.ended_mem (s : State) (d : Bool) (k : Nat) : (s.ended d k).mem = (s.putTop 0 (wordOf ((s.top 0).toInt - (if d then -1 else 1) * s.X.toInt))).mem := (rfl)
@[simp] theorem State.ended_cfg (s : State) (d : Bool) (k : Nat) : (s.ended d k).cfg = s.cfg := (rfl)
@[simp] theorem State.ended_freeCtr (s : State) (d : Bool) (k : Nat) : (s.ended d k).freeCtr = s.freeCtr := (rfl)
@[simp] theorem State.ended_prevDup (s : State) (d : Bool) (k : Nat) : (s.ended d k).prevDup = s.prevDup := (rfl)
@[simp] theorem State.ended_inputs (s : State) (d : Bool) (k : Nat) : (s.ended d k).inputs = s.inputs := (rfl)
@[simp] theorem State.ended_mpb (s : State) (d : Bool) (k : Nat) : (s.ended d k).mpb = s.mpb := (rfl)
@[simp] theorem State.ended_sent (s : State) (d : Bool) (k : Nat) : (s.ended d k).sent = s.sent := (rfl)
@[simp] theorem State.ended_poll (s : State) (d : Bool) (k : Nat) : (s.ended d k).poll = s.poll := (rfl)
@[simp] theorem State.ended_owned (s : State) (d : Bool) (k : Nat) : (s.ended d k).owned = s.owned := (rfl)

end Sys2Proof.Machine
end

