-- ==== Sys2Proof/Laws/Ops.lean ====
section
/-! SUPPORT. The shared operations of Machine/Ops.lean: what each does where there is memory (spec/20_memory.md), the
stack (spec/10_state.md), and the normal end of an instruction (spec/60_exceptions.md rule R620). -/

namespace Sys2Proof.Machine

/-! ## Memory access -/

theorem State.present_iff (s : State) (n : Nat) :
    s.present n = true ↔ n < addressSpace ∧ Config.isHole s.cfg n = false := by
  simp [State.present]

theorem load_present {α : Type} {n : Nat} {get : Memory → α} {ofFree : Word → α} {s : State}
    (h : s.present n = true) : load n get ofFree s = .ok (get s.mem, s) := by
  obtain ⟨h1, h2⟩ := (s.present_iff n).1 h
  simp [load, Nat.not_le.2 h1, h2]

/-- Everything `load` can do when it answers: the value of memory and the same state, or where there is no memory a
free word, one drawn, and MSG bits 1 and 2. -/
theorem load_ok {α : Type} {n : Nat} {get : Memory → α} {ofFree : Word → α} {s t : State} {v : α}
    (h : load n get ofFree s = .ok (v, t)) :
    n < addressSpace ∧ ((Config.isHole s.cfg n = false ∧ v = get s.mem ∧ t = s) ∨
      (Config.isHole s.cfg n = true ∧ v = ofFree (Config.freeWord s.freeCtr) ∧
        t = { s.busError with freeCtr := s.freeCtr + 1 })) := by
  unfold load at h
  split at h
  · cases h
  · rename_i hn
    refine ⟨by omega, ?_⟩
    split at h
    · rename_i hh
      cases h
      exact .inr ⟨hh, rfl, rfl⟩
    · rename_i hh
      cases h
      exact .inl ⟨by simpa using hh, rfl, rfl⟩

theorem store_present {n : Nat} {put : Memory → Memory} {s : State} (h : s.present n = true) :
    store n put s = .ok ((), { s with mem := put s.mem }) := by
  obtain ⟨h1, h2⟩ := (s.present_iff n).1 h
  simp [store, Nat.not_le.2 h1, h2]

/-- Everything `store` can do when it answers. -/
theorem store_ok {n : Nat} {put : Memory → Memory} {s t : State} {x : Unit} (h : store n put s = .ok (x, t)) :
    n < addressSpace ∧ ((Config.isHole s.cfg n = false ∧ t = { s with mem := put s.mem }) ∨
      (Config.isHole s.cfg n = true ∧ t = s.busError)) := by
  unfold store at h
  split at h
  · cases h
  · rename_i hn
    refine ⟨by omega, ?_⟩
    split at h
    · rename_i hh
      cases h
      exact .inr ⟨hh, rfl⟩
    · rename_i hh
      cases h
      exact .inl ⟨by simpa using hh, rfl⟩

theorem readWord_present {s : State} {a : Word} (h : s.hasWord a = true) : readWord a s = .ok (s.word a, s) :=
  load_present h

theorem readHalf_present {s : State} {a : Word} (h : s.hasHalf a = true) :
    readHalf a s = .ok (s.mem.half (halfAlign a).toNat, s) := load_present h

theorem readByte_present {s : State} {a : Word} (h : s.hasByte a = true) :
    readByte a s = .ok (s.byte a.toNat, s) := load_present h

theorem writeWord_present {s : State} {a v : Word} (h : s.hasWord a = true) :
    writeWord a v s = .ok ((), s.putWord a v) := store_present h

theorem writeHalf_present {s : State} {a : Word} {v : Half} (h : s.hasHalf a = true) :
    writeHalf a v s = .ok ((), s.putHalf a v) := store_present h

theorem writeByte_present {s : State} {a : Word} {v : Byte} (h : s.hasByte a = true) :
    writeByte a v s = .ok ((), s.putByte a v) := store_present h

/-! ## Absolute addresses -/

/-- An address of 29 bits (R81). -/
theorem absAddress_ok {i : Int} (h : 0 ≤ i) (h' : i < addressSpace) (s : State) :
    absAddress i s = .ok (wordOf i, s) := by
  simp [absAddress, h, h', insist_bind]

/-- Everything the test of an address can do when it answers (R81). -/
theorem absAddress_ok_iff (i : Int) (s t : State) (w : Word) :
    absAddress i s = .ok (w, t) ↔ (0 ≤ i ∧ i < addressSpace) ∧ w = wordOf i ∧ t = s := by
  by_cases h : 0 ≤ i ∧ i < addressSpace
  · rw [absAddress_ok h.1 h.2]
    simp [h, eq_comm]
  · simp only [h, false_and, iff_false]
    simp only [absAddress, insist_bind]
    rw [if_neg (by simpa using h)]
    simp

/-- The word of a sum that has 29 bits. -/
theorem wordOf_add (a : Word) (n : Nat) : wordOf ((a.toNat : Int) + n) = a + BitVec.ofNat 32 n := by
  apply BitVec.eq_of_toNat_eq
  simp only [wordOf, BitVec.toNat_ofInt, BitVec.toNat_add, BitVec.toNat_ofNat]
  omega

theorem absAddress_add {a : Word} {n : Nat} {s : State} (h : a.toNat + n < addressSpace) :
    absAddress (a.toNat + n) s = .ok (a + BitVec.ofNat 32 n, s) := by
  rw [absAddress_ok (by omega) (by omega), wordOf_add]

/-- Everything the limit of a code segment can do when it answers: LOCATION and PL have 29 bits (R81, R121). -/
theorem segmentLimit_ok_iff (loc lenM1 : Word) (s t : State) (w : Word) :
    segmentLimit loc lenM1 s = .ok (w, t) ↔
      loc.toNat < addressSpace ∧ (0 ≤ (loc.toNat : Int) + lenM1.toNat - 3 ∧
        (loc.toNat : Int) + lenM1.toNat - 3 < addressSpace) ∧ w = wordOf ((loc.toNat : Int) + lenM1.toNat - 3) ∧ t = s := by
  by_cases h : loc.toNat < addressSpace <;> simp [segmentLimit, insist_bind, h, absAddress_ok_iff]

/-- Everything the raise of SL on the ICS can do when it answers (R635, R81). -/
theorem raiseLimit_ok_iff (s t : State) (x : Unit) :
    raiseLimit s = .ok (x, t) ↔ s.SL.toNat + 256 < addressSpace ∧ t = { s with SL := s.SL + 256#32 } := by
  unfold raiseLimit
  rw [M.get_bind]
  by_cases h : s.SL.toNat + 256 < addressSpace
  · rw [M.bind_ok (by simpa using absAddress_add (n := 256) h), M.modify_apply]
    simp [h, eq_comm]
  · simp only [h, false_and, iff_false]
    intro hx
    obtain ⟨w, u, hw, -⟩ := M.bind_eq_ok hx
    have := ((absAddress_ok_iff _ _ _ _).1 hw).1.2
    omega

/-! ## Where there is memory does not change -/

theorem State.present_congr {s t : State} (h : t.cfg = s.cfg) (n : Nat) : t.present n = s.present n := by
  simp [State.present, h]

theorem State.hasWord_congr {s t : State} (h : t.cfg = s.cfg) (a : Word) : t.hasWord a = s.hasWord a :=
  State.present_congr h _

theorem State.hasHalf_congr {s t : State} (h : t.cfg = s.cfg) (a : Word) : t.hasHalf a = s.hasHalf a :=
  State.present_congr h _

theorem State.hasByte_congr {s t : State} (h : t.cfg = s.cfg) (a : Word) : t.hasByte a = s.hasByte a :=
  State.present_congr h _

/-- The k-th stack word from the top is among those that `hasStack` lists. -/
theorem State.hasWords_get {s : State} {j n k : Nat} (h : s.hasWords j n = true) (hk : k < n) :
    s.hasWord (s.S + BitVec.ofNat 32 (4 * j) - BitVec.ofNat 32 (4 * k)) = true := by
  induction n with
  | zero => omega
  | succ n ih =>
    simp only [State.hasWords, Bool.and_eq_true] at h
    by_cases e : k = n
    · subst e; exact h.1
    · exact ih h.2 (by omega)

theorem word_cancel (a : Word) (j k : Nat) :
    a + BitVec.ofNat 32 (4 * j) - BitVec.ofNat 32 (4 * (k + j)) = a - BitVec.ofNat 32 (4 * k) := by
  rw [Nat.mul_add, BitVec.ofNat_add]
  ring

theorem State.hasStack_words {s : State} {n k : Nat} (h : s.hasStack n k = true) : s.hasWords k (n + k) = true := by
  simp only [State.hasStack, Bool.and_eq_true] at h
  exact h.2

/-- The words above the top that `hasStack` lists have 29-bit addresses (R81). -/
theorem State.hasStack_limit {s : State} {n k : Nat} (h : s.hasStack n k = true) (hk : 1 ≤ k) :
    s.S.toNat + 4 * k < addressSpace := by
  simp only [State.hasStack, Bool.and_eq_true, Bool.or_eq_true, beq_iff_eq, decide_eq_true_eq] at h
  omega

theorem State.hasStack_below {s : State} {n j k : Nat} (h : s.hasStack n j = true) (hk : k < n) :
    s.hasWord (s.S - BitVec.ofNat 32 (4 * k)) = true := by
  have := State.hasWords_get (State.hasStack_words h) (k := k + j) (by omega)
  rwa [word_cancel] at this

theorem State.hasStack_above {s : State} {n j : Nat} (h : s.hasStack n j = true) (k : Nat) (hk : 1 ≤ k)
    (hk' : k ≤ j) : s.hasWord (s.S + BitVec.ofNat 32 (4 * k)) = true := by
  have := State.hasWords_get (State.hasStack_words h) (k := j - k) (by omega)
  have e : 4 * j = 4 * k + 4 * (j - k) := by omega
  rw [e, BitVec.ofNat_add, ← BitVec.add_assoc, BitVec.add_sub_cancel] at this
  exact this

/-! ## The stack -/

theorem peek_present {s : State} {k : Nat} (h : s.hasWord (s.S - BitVec.ofNat 32 (4 * k)) = true) :
    peek k s = .ok (s.top k, s) := readWord_present h

theorem poke_present {s : State} {k : Nat} {v : Word} (h : s.hasWord (s.S - BitVec.ofNat 32 (4 * k)) = true) :
    poke k v s = .ok ((), s.putTop k v) := writeWord_present h

theorem push_present {s : State} {v : Word} (h : s.hasWord (s.S + 4#32) = true) (hs : s.S.toNat + 4 < addressSpace) :
    push v s = .ok ((), s.pushed v) := by
  unfold push
  have e : absAddress ((s.S.toNat : Int) + 4) s = .ok (s.S + 4#32, s) := absAddress_add hs
  rw [M.get_bind, M.bind_ok e, M.bind_ok (writeWord_present h)]
  rfl

theorem checkPop_can {s : State} {k : Nat} (h : s.canPop k = true) : checkPop k s = .ok ((), s) := by
  have : s.Q.toNat + 4 * k ≤ s.S.toNat := by simpa [State.canPop] using h
  simp [checkPop, Nat.not_lt.2 this]

theorem checkPop_cannot {s : State} {k : Nat} (h : s.canPop k = false) :
    checkPop k s = .error (.trap .stackUnderflow none s) := by
  have : s.S.toNat < s.Q.toNat + 4 * k := by simpa [State.canPop] using h
  simp [checkPop, this]

/-- Everything `checkPop` can do when it answers. -/
theorem checkPop_ok_iff (k : Nat) (s t : State) (x : Unit) :
    checkPop k s = .ok (x, t) ↔ s.canPop k = true ∧ t = s := by
  cases h : s.canPop k
  · simp [checkPop_cannot h]
  · simp [checkPop_can h, eq_comm]

@[simp] theorem dropWords_apply (k : Nat) (s : State) : dropWords k s = .ok ((), s.popped k) := (rfl)

@[simp] theorem putCC_apply (c : BitVec 2) (s : State) : putCC c s = .ok (⟨⟩, s.setCC c) := (rfl)

@[simp] theorem dropWords_bind {β : Type} (k : Nat) (f : Unit → M β) (s : State) :
    (dropWords k >>= f) s = f () (s.popped k) := (rfl)

@[simp] theorem putCC_bind {β : Type} (c : BitVec 2) (f : PUnit → M β) (s : State) :
    (putCC c >>= f) s = f ⟨⟩ (s.setCC c) := (rfl)

theorem State.popped_zero (s : State) : s.popped 0 = s := by
  cases s; simp [State.popped]

/-! ## Jumps -/

/-- `jumpTo` where no bug of the old chips is met. -/
theorem jumpTo_ok {s : State} {a : Word} (h : s.alignmentBug (halfAlign a) = false) :
    jumpTo a s = .ok (⟨⟩, { s with P := halfAlign a }) := by
  simp [jumpTo, h]

/-! ## The end of an instruction -/

theorem State.quiet_iff (t : State) : t.quiet = true ↔
    (t.overflow && t.trapEnable) = false ∧ t.interruptPending = false ∧ t.outOfSequence = false ∧
      t.stackOverflowed = false ∧ t.P ≠ t.BRKPT ∧ (t.machineTrap && t.machineTrapEnable) = false := by
  simp only [State.quiet, Bool.and_eq_true, Bool.not_eq_true', decide_eq_false_iff_not]
  tauto

theorem interruptPending_false {t : State} (h : t.interruptPending = false) :
    (t.interruptEnable && (t.messageBits != 0#32)) = false ∧ (t.interruptEnable && (t.levelBits != 0#32)) = false := by
  unfold State.interruptPending at h
  cases hi : t.interruptEnable <;> simp_all

/-- The end-of-instruction tests find nothing: EM is set (R620, R634). -/
theorem endTests_quiet {t : State} {e : End} (h : t.quiet = true) (ho : e.own = none)
    (ht : (t.tv && e.trace.isSome) = false) : endTests e t = .ok (⟨⟩, t.setEM true) := by
  obtain ⟨h1, h2, h3, h4, h5, h6⟩ := t.quiet_iff.1 h
  obtain ⟨h7, h8⟩ := interruptPending_false h2
  have : entryItems e t = .ok (false, t) := by
    unfold entryItems
    simp only [M.get_bind, h1, h7, h8, ht, ho]
    simp
  unfold endTests
  rw [M.bind_ok this]
  simp [laterItems, h3, h4, h5]
  intro a b
  simp [a, b] at h6

/-- An instruction that advances and whose end finds nothing. -/
theorem finish_quiet {n : Nat} {d : Bool} {t : State} {e : End} (hs : e.stay = false) (hj : e.jump = none)
    (ho : e.own = none) (ht : (t.tv && e.trace.isSome) = false)
    (h : ({ t with P := t.P + BitVec.ofNat 32 n, prevDup := d } : State).quiet = true) :
    finish n d e t = .ok (⟨⟩, ({ t with P := t.P + BitVec.ofNat 32 n, prevDup := d } : State).setEM true) := by
  unfold finish
  simp only [M.modify_bind, hs, hj]
  exact endTests_quiet h ho ht

/-- An instruction that jumps and whose end finds nothing. -/
theorem finish_jump_quiet {n : Nat} {t : State} {e : End} {a : Word} (hs : e.stay = false) (hj : e.jump = some a)
    (ho : e.own = none) (ht : (t.tv && e.trace.isSome) = false) (hb : t.alignmentBug (halfAlign a) = false)
    (h : (t.jumped a).quiet = true) : finish n false e t = .ok (⟨⟩, (t.jumped a).setEM true) := by
  unfold finish
  simp only [M.modify_bind, hs, hj, Bool.false_eq_true, if_false]
  rw [M.bind_ok (jumpTo_ok (s := { t with prevDup := false }) hb)]
  exact endTests_quiet (t := t.jumped a) h ho ht

/-! ## From a body to its instruction -/

/-- What the end of an instruction that advances carries: nothing but, perhaps, a trace event that TV does not want and
a User Trap parameter. -/
def End.plain (e : End) (t : State) : Prop :=
  e.stay = false ∧ e.jump = none ∧ e.own = none ∧ (t.tv && e.trace.isSome) = false

theorem done_plain (t : State) : done.plain t := ⟨rfl, rfl, rfl, by simp [done]⟩

theorem completes_of_body {n : Nat} {d : Bool} {i : Instr} {m : M End} {s u : State} {e : End}
    (hx : exec i s = runBody n d m s) (hl : i.ilen = n) (hd : decide (i = .dup) = d)
    (hb : m s = .ok (e, u)) (he : e.plain u) : CompletesAs i s u := by
  intro hq
  obtain ⟨h1, h2, h3, h4⟩ := he
  rw [hx, runBody_ok hb]
  have hq' := hq
  unfold State.advanced at hq'
  rw [hl, hd] at hq'
  have := conclude_ok (s := s) (finish_quiet h1 h2 h3 h4 hq')
  rw [this]
  unfold State.advanced
  rw [hl, hd]

theorem completes16 {i : Instr} {m : M End} {s u : State} {e : End} (hx : exec i s = run16 m s) (hl : i.ilen = 2)
    (hd : i ≠ .dup) (hb : m s = .ok (e, u)) (he : e.plain u) : CompletesAs i s u :=
  completes_of_body hx hl (by simpa using hd) (atomic_ok hb) he

theorem completes32 {i : Instr} {m : M End} {s u : State} {e : End} (hx : exec i s = run32 m s) (hl : i.ilen = 4)
    (hd : i ≠ .dup) (hb : m s = .ok (e, u)) (he : e.plain u) : CompletesAs i s u :=
  completes_of_body hx hl (by simpa using hd) (atomic_ok hb) he

theorem completesKeep16 {i : Instr} {m : M End} {s u : State} {e : End} (hx : exec i s = runKeep16 m s)
    (hl : i.ilen = 2) (hd : i ≠ .dup) (hb : m s = .ok (e, u)) (he : e.plain u) : CompletesAs i s u :=
  completes_of_body hx hl (by simpa using hd) hb he

theorem jumps_of_body {n : Nat} {i : Instr} {m : M End} {s u : State} {e : End} {a : Word}
    (hx : exec i s = runBody n false m s) (hb : m s = .ok (e, u)) (hs : e.stay = false) (hj : e.jump = some a)
    (ho : e.own = none) (ht : (u.tv && e.trace.isSome) = false) : JumpsAs i s u a := by
  intro hal hq
  rw [hx, runBody_ok hb]
  exact conclude_ok (finish_jump_quiet hs hj ho ht hal hq)

/-- The end-of-instruction tests after a body that has set O with T = 1, no other condition being true: O is cleared and
the User Trap entered (R631). -/
theorem endTests_user {t : State} {e : End} {p : Word} (ho : e.own = none) (hp : e.user = some p)
    (ht : (t.tv && e.trace.isSome) = false) (hO : t.overflow = true) (hT : t.trapEnable = true)
    (hi : (t.setO false).interruptPending = false) :
    endTests e t = (do
      trapEntry .user (some p) t.P
      postEntryTests postEntryFuel false : M Unit) (t.setO false) := by
  have hi' : t.interruptPending = false := by
    unfold State.interruptPending at hi ⊢
    rw [State.interruptEnable_setO] at hi
    exact hi
  obtain ⟨h7, h8⟩ := interruptPending_false hi'
  unfold endTests entryItems
  simp only [M.bind_assoc_apply, M.get_bind, h7, h8, ht, hO, hT, ho, hp, Bool.and_self, if_true, M.modify_bind,
    M.pure_bind_apply, Bool.false_eq_true, if_false]
  rfl

/-- The outcome of the rest of a step is settled by what that rest does. -/
theorem conclude_congr {s t t' : State} {m m' : M Unit} (h : m t = m' t') : conclude s m t = conclude s m' t' := by
  unfold conclude
  rw [h]

/-- An instruction whose body sets O and records the User Trap parameter ends in the User Trap when T = 1. -/
theorem user_of_body {n : Nat} {d : Bool} {i : Instr} {m : M End} {s u : State} {e : End} {p : Word}
    (hx : exec i s = runBody n d m s) (hl : i.ilen = n) (hd : decide (i = .dup) = d)
    (hb : m s = .ok (e, u)) (he : e.plain u) (hp : e.user = some p) (hO : u.overflow = true) :
    EndsInUserTrap i s u p := by
  intro hT hi
  obtain ⟨h1, h2, h3, h4⟩ := he
  rw [hx, runBody_ok hb]
  subst hl hd
  have hf : finish i.ilen (decide (i = .dup)) e u = endTests e (u.advanced i) := by
    unfold finish
    simp only [M.modify_bind, h1, h2, Bool.false_eq_true, if_false]
    rfl
  exact conclude_congr (hf.trans (endTests_user (t := u.advanced i) h3 hp h4 hO hT hi))

/-- A body that raises a trap with the starting state unchanged raises it as a note-2 trap. -/
theorem raises16 {i : Instr} {m : M End} {s : State} {t : Trap} {p : Option Word} (hx : exec i s = run16 m s)
    (hb : m s = .error (.trap t p s)) : Raises i s t p := by
  unfold Raises
  rw [hx]
  exact runBody_trap (atomic_trap hb)

theorem raises32 {i : Instr} {m : M End} {s : State} {t : Trap} {p : Option Word} (hx : exec i s = run32 m s)
    (hb : m s = .error (.trap t p s)) : Raises i s t p := by
  unfold Raises
  rw [hx]
  exact runBody_trap (atomic_trap hb)

theorem raisesKeep16 {i : Instr} {m : M End} {s : State} {t : Trap} {p : Option Word} (hx : exec i s = runKeep16 m s)
    (hb : m s = .error (.trap t p s)) : Raises i s t p := by
  unfold Raises
  rw [hx]
  exact runBody_trap hb

/-! ## What each access can do when it answers -/

/-- Everything a word read can do when it answers (R84). -/
theorem readWord_ok {a v : Word} {s t : State} (h : readWord a s = .ok (v, t)) :
    (wordAlign a).toNat < addressSpace ∧
      ((Config.isHole s.cfg (wordAlign a).toNat = false ∧ v = s.word a ∧ t = s) ∨
        (Config.isHole s.cfg (wordAlign a).toNat = true ∧ v = Config.freeWord s.freeCtr ∧
          t = { s.busError with freeCtr := s.freeCtr + 1 })) := load_ok h

/-- Everything a halfword read can do when it answers (R84). -/
theorem readHalf_ok {a : Word} {v : Half} {s t : State} (h : readHalf a s = .ok (v, t)) :
    (halfAlign a).toNat < addressSpace ∧
      ((Config.isHole s.cfg (halfAlign a).toNat = false ∧ v = s.mem.half (halfAlign a).toNat ∧ t = s) ∨
        (Config.isHole s.cfg (halfAlign a).toNat = true ∧ v = (Config.freeWord s.freeCtr).extractLsb' 0 16 ∧
          t = { s.busError with freeCtr := s.freeCtr + 1 })) := load_ok h

/-- Everything a byte read can do when it answers (R84). -/
theorem readByte_ok {a : Word} {v : Byte} {s t : State} (h : readByte a s = .ok (v, t)) :
    a.toNat < addressSpace ∧
      ((Config.isHole s.cfg a.toNat = false ∧ v = s.byte a.toNat ∧ t = s) ∨
        (Config.isHole s.cfg a.toNat = true ∧ v = (Config.freeWord s.freeCtr).extractLsb' 0 8 ∧
          t = { s.busError with freeCtr := s.freeCtr + 1 })) := load_ok h

/-- Everything a word write can do when it answers (R84). -/
theorem writeWord_ok {a v : Word} {s t : State} {x : Unit} (h : writeWord a v s = .ok (x, t)) :
    (wordAlign a).toNat < addressSpace ∧
      ((Config.isHole s.cfg (wordAlign a).toNat = false ∧ t = s.putWord a v) ∨
        (Config.isHole s.cfg (wordAlign a).toNat = true ∧ t = s.busError)) := store_ok h

/-- Everything a halfword write can do when it answers (R84). -/
theorem writeHalf_ok {a : Word} {v : Half} {s t : State} {x : Unit} (h : writeHalf a v s = .ok (x, t)) :
    (halfAlign a).toNat < addressSpace ∧
      ((Config.isHole s.cfg (halfAlign a).toNat = false ∧ t = s.putHalf a v) ∨
        (Config.isHole s.cfg (halfAlign a).toNat = true ∧ t = s.busError)) := store_ok h

/-- Everything a byte write can do when it answers (R84). -/
theorem writeByte_ok {a : Word} {v : Byte} {s t : State} {x : Unit} (h : writeByte a v s = .ok (x, t)) :
    a.toNat < addressSpace ∧
      ((Config.isHole s.cfg a.toNat = false ∧ t = s.putByte a v) ∨
        (Config.isHole s.cfg a.toNat = true ∧ t = s.busError)) := store_ok h

/-- Everything a push can do when it answers (R11). -/
theorem push_ok {v : Word} {s t : State} {x : Unit} (h : push v s = .ok (x, t)) :
    s.S.toNat + 4 < addressSpace ∧
      ((Config.isHole s.cfg (wordAlign (s.S + 4#32)).toNat = false ∧ t = s.pushed v) ∨
        (Config.isHole s.cfg (wordAlign (s.S + 4#32)).toNat = true ∧ t = { s.busError with S := s.S + 4#32 })) := by
  unfold push at h
  rw [M.get_bind] at h
  obtain ⟨a, u, hu, h⟩ := M.bind_eq_ok h
  obtain ⟨hs, rfl, rfl⟩ := (absAddress_ok_iff _ _ _ _).1 hu
  obtain ⟨_, w, hw, h⟩ := M.bind_eq_ok h
  have e : wordOf ((u.S.toNat : Int) + 4) = u.S + 4#32 := wordOf_add u.S 4
  rw [e] at hw
  obtain ⟨hn, ⟨hh, rfl⟩ | ⟨hh, rfl⟩⟩ := writeWord_ok hw <;> cases h
  · exact ⟨by omega, .inl ⟨hh, rfl⟩⟩
  · exact ⟨by omega, .inr ⟨hh, rfl⟩⟩

/-- A draw answers the next free word and advances the counter. -/
@[simp] theorem drawFree_apply (s : State) :
    drawFree s = .ok (Config.freeWord s.freeCtr, { s with freeCtr := s.freeCtr + 1 }) := (rfl)

/-- Everything the mode test of a privileged instruction can do when it answers (R671). -/
theorem requirePrivileged_ok_iff (s t : State) (x : Unit) :
    requirePrivileged s = .ok (x, t) ↔ s.privileged = true ∧ t = s := by
  cases h : s.privileged
  · simp [requirePrivileged_not s h]
  · simp [requirePrivileged_of s h, eq_comm]

/-- Everything the test of an absolute address can do when it answers (R57). -/
theorem checkAbsolute_ok_iff (a : Word) (s t : State) (x : Unit) :
    checkAbsolute a s = .ok (x, t) ↔ s.offStack a = true ∧ t = s := by
  unfold checkAbsolute State.offStack
  split
  · rename_i h
    simp [h]
  · rename_i h
    constructor
    · intro e
      cases e
      refine ⟨?_, rfl⟩
      simp only [Bool.not_eq_true', Bool.and_eq_false_iff, decide_eq_false_iff_not]
      omega
    · rintro ⟨-, rfl⟩
      rfl

/-- Everything a bounds check can do when it answers (R107). -/
theorem checkBounds_ok_iff (lo hi a : Int) (s t : State) (x : Unit) :
    checkBounds lo hi a s = .ok (x, t) ↔ (lo ≤ a ∧ a ≤ hi) ∧ t = s := by
  simp [checkBounds, require_ok_iff]

/-- Everything the semaphore read of a table entry can do when it answers where there is memory: the word, which is not
negative, and the state with the semaphore taken (R124). -/
theorem acquire_ok {ent w : Word} {s t : State} (hw : s.hasWord ent = true) (h : acquire ent s = .ok (w, t)) :
    w = s.word ent ∧ bit (s.word ent) 0 = false ∧ t = s.taken ent := by
  unfold acquire at h
  rw [M.bind_ok (readWord_present hw)] at h
  cases hb : bit (s.word ent) 0 <;> simp only [hb, if_true, Bool.false_eq_true, if_false] at h
  · rw [M.bind_ok (writeWord_present hw)] at h
    cases h
    exact ⟨rfl, rfl, rfl⟩
  · cases h

/-- A free semaphore is taken (R124). -/
theorem acquire_free {ent : Word} {s : State} (hw : s.hasWord ent = true) (hb : bit (s.word ent) 0 = false) :
    acquire ent s = .ok (s.word ent, s.taken ent) := by
  unfold acquire
  rw [M.bind_ok (readWord_present hw), if_neg (by simp [hb]), M.bind_ok (writeWord_present hw)]
  rfl

/-- A taken semaphore makes the instruction wait (R124). -/
theorem acquire_spin {ent : Word} {s : State} (hw : s.hasWord ent = true) (hb : bit (s.word ent) 0 = true) :
    acquire ent s = .error (.spin ent []) := by
  unfold acquire
  rw [M.bind_ok (readWord_present hw), if_pos hb]

/-- An entry is given back where there is memory (R124). -/
theorem release_present {ent w : Word} {s : State} (hw : s.hasWord ent = true) :
    release ent w s = .ok ((), s.putWord ent w) := writeWord_present hw

/-- The first three words of a DST entry that nobody owns, where there is memory; the entry is taken (R113, R140). -/
theorem readDstHead_free {seg : BitVec 12} {s : State}
    (ha : (s.dstBase seg).toNat + 16 * (field seg 1 11).toNat < addressSpace)
    (hw : ∀ k < 3, s.hasWord (s.dstBase seg + BitVec.ofNat 32 (16 * (field seg 1 11).toNat) + BitVec.ofNat 32 (4 * k)) = true)
    (hb : bit (s.word (s.dstBase seg + BitVec.ofNat 32 (16 * (field seg 1 11).toNat))) 0 = false) :
    let e := s.dstBase seg + BitVec.ofNat 32 (16 * (field seg 1 11).toNat)
    let t := s.taken e
    readDstHead seg s = .ok ({ addr := e, w0 := s.word e, lenM1 := t.word (e + 4#32), loc := t.word (e + 8#32) }, t) := by
  intro e t
  have h0 : s.hasWord e = true := by simpa using hw 0 (by omega)
  have h1 : t.hasWord (e + 4#32) = true := (State.hasWord_congr (s := s) rfl _).trans (hw 1 (by omega))
  have h2 : t.hasWord (e + 8#32) = true := (State.hasWord_congr (s := s) rfl _).trans (hw 2 (by omega))
  have hd : dstAddress seg s = .ok (e, s) := by
    unfold dstAddress
    rw [M.get_bind]
    exact_mod_cast absAddress_add ha
  have hx : readExtent e t = .ok ((t.word (e + 4#32), t.word (e + 8#32)), t) := by
    unfold readExtent
    rw [M.bind_ok (readWord_present h1), M.bind_ok (readWord_present h2), M.pure_apply]
  unfold readDstHead
  rw [M.bind_ok hd, M.bind_ok (acquire_free h0 hb), M.bind_ok hx, M.pure_apply]

/-- A wait that holds no entry leaves the next instruction as it is (R124). -/
@[simp] theorem State.regained_of_none {s : State} (h : s.owned = []) : s.regained = s := by
  cases s
  simp_all [State.regained]

/-! ## Addresses and transfers inside a segment -/

/-- A direct effective address inside its bounds (R100), with the pointer that a trace event reports (R632). -/
theorem effective_direct {b : Base} {off : Nat} {idx modmem : Bool} {s : State} {e : Int}
    (he : e = s.baseAddr b off + (if idx then s.X.toInt else 0)) (h : s.baseLow b ≤ e ∧ e ≤ s.baseHigh b)
    (h0 : 0 ≤ e) (h1 : e < addressSpace) :
    effective b off false idx modmem 0 s =
      .ok ({ addr := wordOf e,
             pointer := if baseIsGlobal b then retag 0x80000000#32 (e - s.DB.toNat)
               else retag 0xC0000000#32 (e - s.SB.toNat) }, s) := by
  subst he
  unfold effective
  rw [M.get_bind]
  simp only [if_true, direct, M.get_bind, checkBoundsSpan, ne_eq, not_true_eq_false, if_false]
  rw [M.bind_ok (a := ()) (t := s), M.bind_ok (absAddress_ok h0 h1 s)]
  · rfl
  · rw [M.bind_ok ((checkBounds_ok_iff _ _ _ s s ()).2 ⟨h, rfl⟩)]
    rfl

/-- A stack or global pointer inside its bounds (R104, R105, R110). -/
theorem evalDsp_base {ptr : Word} {k : AccessKind} {lower : Nat} {s : State} {b : Word} {top a : Int}
    (hp : bit ptr 0 = true) (hb : b = if bit ptr 1 then s.SB else s.DB)
    (ht : top = if bit ptr 1 then (s.S.toNat : Int) - lower else s.DL.toNat)
    (ha : a = b.toNat + (pointerOffset ptr).toNat + k.xx) (h : (b.toNat : Int) ≤ a ∧ a ≤ top) :
    evalDsp ptr k lower s =
      .ok ({ addr := wordOf a, ptr := ptr, offset := a - b.toNat, room := top - a, entry := 0#32,
             paged := false }, s) := by
  subst hb ht ha
  unfold evalDsp
  rw [M.get_bind]
  simp only [hp, Bool.true_eq_false, if_false]
  rw [M.bind_ok ((checkBounds_ok_iff _ _ _ s s ()).2 ⟨h, rfl⟩)]
  rfl

/-- A local program pointer passes every test of a transfer and changes nothing (R131, R133). -/
theorem planTransfer_local {p : Word} {kind : TransferKind} {s : State} (h : bit p 0 = false) :
    planTransfer p kind s =
      .ok ({ segment := none, mode := s.privileged, target := halfAlign (s.PB + pointerOffset p) }, s) := by
  unfold planTransfer
  rw [M.get_bind, if_pos h]
  rfl

@[simp] theorem commitTransfer_local (m : Bool) (a : Word) (s : State) :
    commitTransfer { segment := none, mode := m, target := a } s = .ok ((), s) := (rfl)

/-- An exit to the current segment changes nothing (R472). -/
theorem planSegment_same {c : BitVec 12} {u : Bool} {s : State} (h : c = s.csn) :
    planSegment c u s = .ok (.same, s) := by
  unfold planSegment
  rw [M.get_bind, if_pos h]
  rfl

@[simp] theorem commitSegment_same (s : State) : commitSegment .same s = .ok ((), s) := (rfl)

/-- Everything `jumpTo` can do when it answers (R21, R722). -/
theorem jumpTo_ok_iff (a : Word) (s t : State) (x : PUnit) :
    jumpTo a s = .ok (x, t) ↔ s.alignmentBug (halfAlign a) = false ∧ t = { s with P := halfAlign a } := by
  cases h : s.alignmentBug (halfAlign a)
  · rw [jumpTo_ok h]
    simp [eq_comm]
  · simp [jumpTo, h, M.get_bind, insist_bind]

/-- A stack marker where there is memory for it (R60). -/
theorem pushMarker_present {ra : Word} {s : State} (h : s.hasStack 0 4 = true) :
    pushMarker ra s = .ok ((), s.marked ra) := by
  have g : ∀ k, 1 ≤ k → k ≤ 4 → s.hasWord (s.S + BitVec.ofNat 32 (4 * k)) = true := fun k => State.hasStack_above h k
  have e1 : s.S + 16#32 - 12#32 = s.S + 4#32 := by bv_omega
  have e2 : s.S + 16#32 - 8#32 = s.S + 8#32 := by bv_omega
  have e3 : s.S + 16#32 - 4#32 = s.S + 12#32 := by bv_omega
  unfold pushMarker
  have e : absAddress ((s.S.toNat : Int) + 16) s = .ok (s.S + 16#32, s) :=
    absAddress_add (State.hasStack_limit h (by omega))
  rw [M.get_bind, M.bind_ok e]
  rw [M.bind_ok (writeWord_present (e1 ▸ g 1 (by omega) (by omega)))]
  rw [M.bind_ok (writeWord_present (by rw [State.hasWord_congr rfl]; exact e2 ▸ g 2 (by omega) (by omega)))]
  rw [M.bind_ok (writeWord_present (by rw [State.hasWord_congr rfl]; exact e3 ▸ g 3 (by omega) (by omega)))]
  rw [M.bind_ok (writeWord_present (by rw [State.hasWord_congr rfl]; exact g 4 (by omega) (by omega)))]
  rfl

/-- Without a scheduled poll an interruptible instruction runs on (R626). -/
theorem pollBefore_none {k : Nat} {s : State} (h : s.poll = none) : pollBefore k s = .ok (.quiet, s) := by
  simp [pollBefore, h, M.get_bind]

/-! ## The interrupt stack's registers, lists and loops -/

/-- QI is read as it stands where it has 29 bits (R81, R478). -/
theorem readQi_present {s : State} (h : s.hasWord (s.cpuBlock + 8#32) = true)
    (hq : (s.word (s.cpuBlock + 8#32)).toNat < addressSpace) : readQi s = .ok (s.word (s.cpuBlock + 8#32), s) := by
  unfold readQi
  simp only [M.get_bind]
  rw [M.bind_ok (readWord_present h)]
  exact (absAddress_add (n := 0) hq).trans (by simp)

/-- MASK goes to Q+8 (R647). -/
theorem saveMask_present {s : State} (h : s.hasWord (s.Q + 8#32) = true) :
    saveMask s = .ok ((), s.putWord (s.Q + 8#32) s.MASK) := by
  unfold saveMask
  simp only [M.get_bind]
  exact writeWord_present h

/-- What is left of a count, from the count in memory and X (R500). -/
theorem remaining_present {d : Bool} {s : State} (h : s.hasWord s.S = true) :
    remaining d s = .ok (((s.top 0).toInt - (if d then -1 else 1) * s.X.toInt).toNat, s) := by
  have h0 : peek 0 s = .ok (s.top 0, s) := peek_present (by simpa using h)
  unfold remaining
  simp only [M.get_bind]
  rw [M.bind_ok h0]
  cases d <;> rfl

/-- The underflow test of a move or scan lets it go on (R260, R500). -/
theorem checkMovePop_can {x : Word} {k : Nat} {s : State} (h : s.canPop k = true) : checkMovePop x k s = .ok ((), s) := by
  simp only [checkMovePop, State.canPop, decide_eq_true_eq, ite_eq_right_iff] at *
  intro h'; omega

/-- The underflow test of a move or scan puts X back and traps (R260, R500). -/
theorem checkMovePop_cannot {x : Word} {k : Nat} {s : State} (h : s.canPop k = false) :
    checkMovePop x k s = .error (.trap .stackUnderflow none { s with X := x }) := by
  simp only [checkMovePop, State.canPop, decide_eq_false_iff_not, ite_eq_left_iff] at *
  intro h'; omega

/-- The end of a move or scan (R500 (e)). -/
theorem endMove_present {d : Bool} {k : Nat} {s : State} (h : s.hasStack 1 0 = true) :
    endMove d k s = .ok ((), s.ended d k) := by
  have h0 := State.hasStack_below h (k := 0) (by omega)
  unfold endMove
  simp only [M.get_bind]
  rw [M.bind_ok (peek_present h0), M.bind_ok (poke_present h0)]
  cases d <;> rfl

/-- An interruptible instruction that ends where it stands, suspended or aborted (R626, R660). -/
theorem runKeep16_stay {m : M End} {s t : State} (h : m s = .ok ({ stay := true }, t)) :
    runKeep16 m s = .next { t with prevDup := false } := by
  rw [runKeep16_ok h]; rfl

/-- An interruptible instruction that traps keeps the progress it has made (R603, R650). -/
theorem runKeep16_trap {m : M End} {s u : State} {t : Trap} {p : Option Word} (h : m s = .error (.trap t p u)) :
    runKeep16 m s = conclude s (takeTrap t p) u := runBody_trap h

end Sys2Proof.Machine
end

