-- ==== Sys2Proof/Laws/PerInstr.lean ====
section
/-! SUPPORT. A law of every instruction as syntax: an instruction is 4 bytes long exactly when its encoding starts with
three ones, and a 2-byte one fills the low halfword of CIR (spec/30_encoding.md rules R160, R167). -/

namespace Sys2Proof.Laws.EncodedLength

open Sys2Proof

set_option Elab.async false -- one lemma after the other: fewer threads at once

/-- The length of i agrees with the leading three bits of its encoding. -/
def Statement (i : Instr) : Prop :=
  (i.ilen = 4 ∧ 0xE0000000 ≤ (encode i).toNat) ∨ (i.ilen = 2 ∧ (encode i).toNat < 0xE000)

/-- A bit string whose first part is below a. -/
theorem append_lt {m n a : Nat} {x : BitVec m} {y : BitVec n} (h : x.toNat < a) : (x ++ y).toNat < a * 2 ^ n := by
  rw [BitVec.toNat_append, Nat.shiftLeft_eq, Nat.mul_comm, ← Nat.two_pow_add_eq_or_of_lt y.isLt]
  have := y.isLt
  nlinarith [Nat.two_pow_pos n]

/-- A bit string whose first part is at least a. -/
theorem le_append {m n a : Nat} {x : BitVec m} {y : BitVec n} (h : a ≤ x.toNat) : a * 2 ^ n ≤ (x ++ y).toNat := by
  rw [BitVec.toNat_append, Nat.shiftLeft_eq, Nat.mul_comm x.toNat, ← Nat.two_pow_add_eq_or_of_lt y.isLt]
  nlinarith [Nat.two_pow_pos n]

/-- A 32-bit instruction. -/
theorem of_long {i : Instr} (h : i.ilen = 4) (w : 0xE0000000 ≤ (encode32 i).toNat) : Statement i :=
  .inl ⟨h, by simpa [encode, h] using w⟩

/-- A 16-bit instruction. -/
theorem of_short {i : Instr} (h : i.ilen = 2) (w : (encode16 i).toNat < 0xE000) : Statement i := by
  refine .inr ⟨h, ?_⟩
  rw [encode, if_neg (by omega), BitVec.toNat_setWidth]
  omega

theorem lds (i : Bool) (x : Bool) (base : Base) (off : BitVec 8) : Statement (.lds i x base off) := by
  exact of_short rfl (Nat.lt_of_lt_of_le (append_lt (append_lt (append_lt (append_lt (by decide : (2#3).toNat < 3))))) (by decide))

theorem lras (i : Bool) (x : Bool) (base : Base) (off : BitVec 8) : Statement (.lras i x base off) := by
  exact of_short rfl (Nat.lt_of_lt_of_le (append_lt (append_lt (append_lt (append_lt (by decide : (3#3).toNat < 4))))) (by decide))

theorem ldds (i : Bool) (x : Bool) (base : Base) (off : BitVec 8) : Statement (.ldds i x base off) := by
  exact of_short rfl (Nat.lt_of_lt_of_le (append_lt (append_lt (append_lt (append_lt (by decide : (4#3).toNat < 5))))) (by decide))

theorem sts (i : Bool) (x : Bool) (base : Base) (off : BitVec 8) : Statement (.sts i x base off) := by
  exact of_short rfl (Nat.lt_of_lt_of_le (append_lt (append_lt (append_lt (append_lt (by decide : (5#3).toNat < 6))))) (by decide))

theorem bccs (i : Bool) (ccf : BitVec 3) (sign : Bool) (off : BitVec 8) : Statement (.bccs i ccf sign off) := by
  exact of_short rfl (Nat.lt_of_lt_of_le (append_lt (append_lt (append_lt (append_lt (by decide : (6#3).toNat < 7))))) (by decide))

theorem exf (e : Bool) (x : Bool) (k : BitVec 5) (j : BitVec 5) : Statement (.exf e x k j) := by
  exact of_long rfl (Nat.le_trans (by decide) (le_append (le_append (le_append (le_append (le_append (by decide : 224 ≤ (224#8).toNat)))))))

theorem dpf (x : Bool) (k : BitVec 5) (j : BitVec 5) : Statement (.dpf x k j) := by
  exact of_long rfl (Nat.le_trans (by decide) (le_append (le_append (le_append (le_append (by decide : 450 ≤ (450#9).toNat))))))

theorem chek (lo : BitVec 5) (hi : BitVec 19) : Statement (.chek lo hi) := by
  exact of_long rfl (Nat.le_trans (by decide) (le_append (le_append (by decide : 226 ≤ (226#8).toNat))))

theorem pcl (off : BitVec 19) : Statement (.pcl off) := by
  exact of_long rfl (Nat.le_trans (by decide) (le_append (by decide : 7264 ≤ (7264#13).toNat)))

theorem lpp (off : BitVec 19) : Statement (.lpp off) := by
  exact of_long rfl (Nat.le_trans (by decide) (le_append (by decide : 7296 ≤ (7296#13).toNat)))

theorem lia (level : BitVec 4) (sign : Bool) (off : BitVec 19) : Statement (.lia level sign off) := by
  exact of_long rfl (Nat.le_trans (by decide) (le_append (le_append (le_append (by decide : 229 ≤ (229#8).toNat)))))

theorem ldi (imm : BitVec 24) : Statement (.ldi imm) := by
  exact of_long rfl (Nat.le_trans (by decide) (le_append (by decide : 230 ≤ (230#8).toNat)))

theorem lni (imm : BitVec 24) : Statement (.lni imm) := by
  exact of_long rfl (Nat.le_trans (by decide) (le_append (by decide : 231 ≤ (231#8).toNat)))

theorem ld (i : Bool) (x : Bool) (base : Base) (off : BitVec 19) : Statement (.ld i x base off) := by
  exact of_long rfl (Nat.le_trans (by decide) (le_append (le_append (le_append (le_append (by decide : 232 ≤ (232#8).toNat))))))

theorem st (i : Bool) (x : Bool) (base : Base) (off : BitVec 19) : Statement (.st i x base off) := by
  exact of_long rfl (Nat.le_trans (by decide) (le_append (le_append (le_append (le_append (by decide : 235 ≤ (235#8).toNat))))))

theorem ldb (i : Bool) (x : Bool) (base : Base) (off : BitVec 19) : Statement (.ldb i x base off) := by
  exact of_long rfl (Nat.le_trans (by decide) (le_append (le_append (le_append (le_append (by decide : 236 ≤ (236#8).toNat))))))

theorem cmpm (i : Bool) (x : Bool) (base : Base) (off : BitVec 19) : Statement (.cmpm i x base off) := by
  exact of_long rfl (Nat.le_trans (by decide) (le_append (le_append (le_append (le_append (by decide : 237 ≤ (237#8).toNat))))))

theorem ldd (i : Bool) (x : Bool) (base : Base) (off : BitVec 19) : Statement (.ldd i x base off) := by
  exact of_long rfl (Nat.le_trans (by decide) (le_append (le_append (le_append (le_append (by decide : 240 ≤ (240#8).toNat))))))

theorem ldh (i : Bool) (x : Bool) (base : Base) (off : BitVec 19) : Statement (.ldh i x base off) := by
  exact of_long rfl (Nat.le_trans (by decide) (le_append (le_append (le_append (le_append (by decide : 242 ≤ (242#8).toNat))))))

theorem decm (i : Bool) (x : Bool) (base : Base) (off : BitVec 19) : Statement (.decm i x base off) := by
  exact of_long rfl (Nat.le_trans (by decide) (le_append (le_append (le_append (le_append (by decide : 243 ≤ (243#8).toNat))))))

theorem incm (i : Bool) (x : Bool) (base : Base) (off : BitVec 19) : Statement (.incm i x base off) := by
  exact of_long rfl (Nat.le_trans (by decide) (le_append (le_append (le_append (le_append (by decide : 244 ≤ (244#8).toNat))))))

theorem sth (i : Bool) (x : Bool) (base : Base) (off : BitVec 19) : Statement (.sth i x base off) := by
  exact of_long rfl (Nat.le_trans (by decide) (le_append (le_append (le_append (le_append (by decide : 245 ≤ (245#8).toNat))))))

theorem ldx (i : Bool) (x : Bool) (base : Base) (off : BitVec 19) : Statement (.ldx i x base off) := by
  exact of_long rfl (Nat.le_trans (by decide) (le_append (le_append (le_append (le_append (by decide : 246 ≤ (246#8).toNat))))))

theorem incf (i : Bool) (x : Bool) (base : Base) (off : BitVec 19) : Statement (.incf i x base off) := by
  exact of_long rfl (Nat.le_trans (by decide) (le_append (le_append (le_append (le_append (by decide : 247 ≤ (247#8).toNat))))))

theorem br (i : Bool) (x : Bool) (base : Base) (off : BitVec 19) : Statement (.br i x base off) := by
  exact of_long rfl (Nat.le_trans (by decide) (le_append (le_append (le_append (le_append (by decide : 248 ≤ (248#8).toNat))))))

theorem bcc (i : Bool) (ccf : BitVec 3) (sign : Bool) (off : BitVec 19) : Statement (.bcc i ccf sign off) := by
  exact of_long rfl (Nat.le_trans (by decide) (le_append (le_append (le_append (le_append (by decide : 249 ≤ (249#8).toNat))))))

theorem decf (i : Bool) (x : Bool) (base : Base) (off : BitVec 19) : Statement (.decf i x base off) := by
  exact of_long rfl (Nat.le_trans (by decide) (le_append (le_append (le_append (le_append (by decide : 250 ≤ (250#8).toNat))))))

theorem seml (i : Bool) (x : Bool) (base : Base) (off : BitVec 19) : Statement (.seml i x base off) := by
  exact of_long rfl (Nat.le_trans (by decide) (le_append (le_append (le_append (le_append (by decide : 251 ≤ (251#8).toNat))))))

theorem stb (i : Bool) (x : Bool) (base : Base) (off : BitVec 19) : Statement (.stb i x base off) := by
  exact of_long rfl (Nat.le_trans (by decide) (le_append (le_append (le_append (le_append (by decide : 252 ≤ (252#8).toNat))))))

theorem std (i : Bool) (x : Bool) (base : Base) (off : BitVec 19) : Statement (.std i x base off) := by
  exact of_long rfl (Nat.le_trans (by decide) (le_append (le_append (le_append (le_append (by decide : 253 ≤ (253#8).toNat))))))

theorem lra (i : Bool) (x : Bool) (base : Base) (off : BitVec 19) : Statement (.lra i x base off) := by
  exact of_long rfl (Nat.le_trans (by decide) (le_append (le_append (le_append (le_append (by decide : 254 ≤ (254#8).toNat))))))

theorem sol (n : BitVec 8) : Statement (.sol n) := by
  exact of_short rfl (Nat.lt_of_lt_of_le (append_lt (by decide : (32#8).toNat < 33)) (by decide))

theorem sop (n : BitVec 8) : Statement (.sop n) := by
  exact of_short rfl (Nat.lt_of_lt_of_le (append_lt (by decide : (33#8).toNat < 34)) (by decide))

theorem cmpn (n : BitVec 8) : Statement (.cmpn n) := by
  exact of_short rfl (Nat.lt_of_lt_of_le (append_lt (by decide : (34#8).toNat < 35)) (by decide))

theorem cmpi (n : BitVec 8) : Statement (.cmpi n) := by
  exact of_short rfl (Nat.lt_of_lt_of_le (append_lt (by decide : (35#8).toNat < 36)) (by decide))

theorem addi (n : BitVec 8) : Statement (.addi n) := by
  exact of_short rfl (Nat.lt_of_lt_of_le (append_lt (by decide : (36#8).toNat < 37)) (by decide))

theorem subi (n : BitVec 8) : Statement (.subi n) := by
  exact of_short rfl (Nat.lt_of_lt_of_le (append_lt (by decide : (37#8).toNat < 38)) (by decide))

theorem mpyi (n : BitVec 8) : Statement (.mpyi n) := by
  exact of_short rfl (Nat.lt_of_lt_of_le (append_lt (by decide : (38#8).toNat < 39)) (by decide))

theorem divi (n : BitVec 8) : Statement (.divi n) := by
  exact of_short rfl (Nat.lt_of_lt_of_le (append_lt (by decide : (39#8).toNat < 40)) (by decide))

theorem ldxi (n : BitVec 8) : Statement (.ldxi n) := by
  exact of_short rfl (Nat.lt_of_lt_of_le (append_lt (by decide : (42#8).toNat < 43)) (by decide))

theorem ldxn (n : BitVec 8) : Statement (.ldxn n) := by
  exact of_short rfl (Nat.lt_of_lt_of_le (append_lt (by decide : (43#8).toNat < 44)) (by decide))

theorem ldis (n : BitVec 8) : Statement (.ldis n) := by
  exact of_short rfl (Nat.lt_of_lt_of_le (append_lt (by decide : (44#8).toNat < 45)) (by decide))

theorem lnis (n : BitVec 8) : Statement (.lnis n) := by
  exact of_short rfl (Nat.lt_of_lt_of_le (append_lt (by decide : (45#8).toNat < 46)) (by decide))

theorem sos (n : BitVec 8) : Statement (.sos n) := by
  exact of_short rfl (Nat.lt_of_lt_of_le (append_lt (by decide : (46#8).toNat < 47)) (by decide))

theorem iow (n : BitVec 8) : Statement (.iow n) := by
  exact of_short rfl (Nat.lt_of_lt_of_le (append_lt (by decide : (47#8).toNat < 48)) (by decide))

theorem ior (n : BitVec 8) : Statement (.ior n) := by
  exact of_short rfl (Nat.lt_of_lt_of_le (append_lt (by decide : (48#8).toNat < 49)) (by decide))

theorem ioc (n : BitVec 8) : Statement (.ioc n) := by
  exact of_short rfl (Nat.lt_of_lt_of_le (append_lt (by decide : (49#8).toNat < 50)) (by decide))

theorem pcls (n : BitVec 8) : Statement (.pcls n) := by
  exact of_short rfl (Nat.lt_of_lt_of_le (append_lt (by decide : (50#8).toNat < 51)) (by decide))

theorem exit (n : BitVec 8) : Statement (.exit n) := by
  exact of_short rfl (Nat.lt_of_lt_of_le (append_lt (by decide : (51#8).toNat < 52)) (by decide))

theorem sxit (n : BitVec 8) : Statement (.sxit n) := by
  exact of_short rfl (Nat.lt_of_lt_of_le (append_lt (by decide : (52#8).toNat < 53)) (by decide))

theorem lias (level : BitVec 2) (off : BitVec 6) : Statement (.lias level off) := by
  exact of_short rfl (Nat.lt_of_lt_of_le (append_lt (append_lt (by decide : (53#8).toNat < 54))) (by decide))

theorem adxi (n : BitVec 8) : Statement (.adxi n) := by
  exact of_short rfl (Nat.lt_of_lt_of_le (append_lt (by decide : (54#8).toNat < 55)) (by decide))

theorem sbxi (n : BitVec 8) : Statement (.sbxi n) := by
  exact of_short rfl (Nat.lt_of_lt_of_le (append_lt (by decide : (55#8).toNat < 56)) (by decide))

theorem solc (n : BitVec 8) : Statement (.solc n) := by
  exact of_short rfl (Nat.lt_of_lt_of_le (append_lt (by decide : (57#8).toNat < 58)) (by decide))

theorem adds (n : BitVec 8) : Statement (.adds n) := by
  exact of_short rfl (Nat.lt_of_lt_of_le (append_lt (by decide : (58#8).toNat < 59)) (by decide))

theorem subs (n : BitVec 8) : Statement (.subs n) := by
  exact of_short rfl (Nat.lt_of_lt_of_le (append_lt (by decide : (59#8).toNat < 60)) (by decide))

theorem lpps (n : BitVec 8) : Statement (.lpps n) := by
  exact of_short rfl (Nat.lt_of_lt_of_le (append_lt (by decide : (60#8).toNat < 61)) (by decide))

theorem ori (n : BitVec 8) : Statement (.ori n) := by
  exact of_short rfl (Nat.lt_of_lt_of_le (append_lt (by decide : (61#8).toNat < 62)) (by decide))

theorem xori (n : BitVec 8) : Statement (.xori n) := by
  exact of_short rfl (Nat.lt_of_lt_of_le (append_lt (by decide : (62#8).toNat < 63)) (by decide))

theorem andi (n : BitVec 8) : Statement (.andi n) := by
  exact of_short rfl (Nat.lt_of_lt_of_le (append_lt (by decide : (63#8).toNat < 64)) (by decide))

theorem lsl (x : Bool) (cnt : BitVec 6) : Statement (.lsl x cnt) := by
  exact of_short rfl (Nat.lt_of_lt_of_le (append_lt (append_lt (append_lt (by decide : (0#3).toNat < 1)))) (by decide))

theorem lsr (x : Bool) (cnt : BitVec 6) : Statement (.lsr x cnt) := by
  exact of_short rfl (Nat.lt_of_lt_of_le (append_lt (append_lt (append_lt (by decide : (0#3).toNat < 1)))) (by decide))

theorem csl (x : Bool) (cnt : BitVec 6) : Statement (.csl x cnt) := by
  exact of_short rfl (Nat.lt_of_lt_of_le (append_lt (append_lt (append_lt (by decide : (0#3).toNat < 1)))) (by decide))

theorem csr (x : Bool) (cnt : BitVec 6) : Statement (.csr x cnt) := by
  exact of_short rfl (Nat.lt_of_lt_of_le (append_lt (append_lt (append_lt (by decide : (0#3).toNat < 1)))) (by decide))

theorem asl (x : Bool) (cnt : BitVec 6) : Statement (.asl x cnt) := by
  exact of_short rfl (Nat.lt_of_lt_of_le (append_lt (append_lt (append_lt (by decide : (0#3).toNat < 1)))) (by decide))

theorem asr (x : Bool) (cnt : BitVec 6) : Statement (.asr x cnt) := by
  exact of_short rfl (Nat.lt_of_lt_of_le (append_lt (append_lt (append_lt (by decide : (0#3).toNat < 1)))) (by decide))

theorem lsxl (x : Bool) (cnt : BitVec 6) : Statement (.lsxl x cnt) := by
  exact of_short rfl (Nat.lt_of_lt_of_le (append_lt (append_lt (append_lt (by decide : (0#3).toNat < 1)))) (by decide))

theorem sld (negLen : Bool) (ptrType : Bool) : Statement (.sld negLen ptrType) := by
  exact of_short rfl (Nat.lt_of_lt_of_le (append_lt (append_lt (append_lt (append_lt (by decide : (0#3).toNat < 1))))) (by decide))

theorem sval (negLen : Bool) (retLen : Bool) (ptrType : Bool) : Statement (.sval negLen retLen ptrType) := by
  exact of_short rfl (Nat.lt_of_lt_of_le (append_lt (append_lt (append_lt (append_lt (append_lt (append_lt (by decide : (0#3).toNat < 1))))))) (by decide))

theorem scon (negLen : Bool) (ptrType : Bool) (tNegLen : Bool) (srcTemp : Bool) : Statement (.scon negLen ptrType tNegLen srcTemp) := by
  exact of_short rfl (Nat.lt_of_lt_of_le (append_lt (append_lt (append_lt (append_lt (append_lt (by decide : (0#3).toNat < 1)))))) (by decide))

theorem sas (negLen : Bool) (fill : Bool) (ptrType : Bool) (tNegLen : Bool) (srcTemp : Bool) : Statement (.sas negLen fill ptrType tNegLen srcTemp) := by
  exact of_short rfl (Nat.lt_of_lt_of_le (append_lt (append_lt (append_lt (append_lt (append_lt (append_lt (by decide : (0#3).toNat < 1))))))) (by decide))

theorem pmpb (sel : BitVec 3) : Statement (.pmpb sel) := by
  exact of_short rfl (Nat.lt_of_lt_of_le (append_lt (by decide : (200#13).toNat < 201)) (by decide))

theorem smpb (sel : BitVec 3) : Statement (.smpb sel) := by
  exact of_short rfl (Nat.lt_of_lt_of_le (append_lt (by decide : (208#13).toNat < 209)) (by decide))

theorem srm (src : Bool) (mode : BitVec 2) : Statement (.srm src mode) := by
  exact of_short rfl (Nat.lt_of_lt_of_le (append_lt (append_lt (append_lt (by decide : (0#3).toNat < 1)))) (by decide))

theorem pshr (block : Bool) (sel : BitVec 6) : Statement (.pshr block sel) := by
  exact of_short rfl (Nat.lt_of_lt_of_le (append_lt (append_lt (append_lt (by decide : (0#3).toNat < 1)))) (by decide))

theorem setr (sel : BitVec 6) : Statement (.setr sel) := by
  exact of_short rfl (Nat.lt_of_lt_of_le (append_lt (by decide : (29#10).toNat < 30)) (by decide))

theorem llsh (ccf : BitVec 3) : Statement (.llsh ccf) := by
  exact of_short rfl (Nat.lt_of_lt_of_le (append_lt (by decide : (240#13).toNat < 241)) (by decide))

theorem tcc (ccf : BitVec 3) : Statement (.tcc ccf) := by
  exact of_short rfl (Nat.lt_of_lt_of_le (append_lt (by decide : (248#13).toNat < 249)) (by decide))

theorem bir (i : Bool) (sign : Bool) (off : BitVec 6) : Statement (.bir i sign off) := by
  exact of_short rfl (Nat.lt_of_lt_of_le (append_lt (append_lt (append_lt (append_lt (append_lt (by decide : (0#3).toNat < 1)))))) (by decide))

theorem bun (i : Bool) (sign : Bool) (off : BitVec 6) : Statement (.bun i sign off) := by
  exact of_short rfl (Nat.lt_of_lt_of_le (append_lt (append_lt (append_lt (append_lt (append_lt (by decide : (0#3).toNat < 1)))))) (by decide))

theorem pmva (d : Bool) (sdec : BitVec 2) : Statement (.pmva d sdec) := by
  exact of_short rfl (Nat.lt_of_lt_of_le (append_lt (append_lt (append_lt (by decide : (0#3).toNat < 1)))) (by decide))

theorem mvb (d : Bool) (ptrType : Bool) (sdec : BitVec 2) : Statement (.mvb d ptrType sdec) := by
  exact of_short rfl (Nat.lt_of_lt_of_le (append_lt (append_lt (append_lt (append_lt (by decide : (0#3).toNat < 1))))) (by decide))

theorem scw (d : Bool) (ptrType : Bool) (sdec : BitVec 2) : Statement (.scw d ptrType sdec) := by
  exact of_short rfl (Nat.lt_of_lt_of_le (append_lt (append_lt (append_lt (append_lt (by decide : (0#3).toNat < 1))))) (by decide))

theorem scu (d : Bool) (ptrType : Bool) (sdec : BitVec 2) : Statement (.scu d ptrType sdec) := by
  exact of_short rfl (Nat.lt_of_lt_of_le (append_lt (append_lt (append_lt (append_lt (by decide : (0#3).toNat < 1))))) (by decide))

theorem cmpb (d : Bool) (ptrType : Bool) (sdec : BitVec 2) : Statement (.cmpb d ptrType sdec) := by
  exact of_short rfl (Nat.lt_of_lt_of_le (append_lt (append_lt (append_lt (append_lt (by decide : (0#3).toNat < 1))))) (by decide))

theorem tran (d : Bool) (ptrType : Bool) (sdec : BitVec 2) : Statement (.tran d ptrType sdec) := by
  exact of_short rfl (Nat.lt_of_lt_of_le (append_lt (append_lt (append_lt (append_lt (by decide : (0#3).toNat < 1))))) (by decide))

theorem filb (sdec : BitVec 2) : Statement (.filb sdec) := by
  exact of_short rfl (Nat.lt_of_lt_of_le (append_lt (by decide : (752#14).toNat < 753)) (by decide))

theorem bcy (i : Bool) (sign : Bool) (off : BitVec 6) : Statement (.bcy i sign off) := by
  exact of_short rfl (Nat.lt_of_lt_of_le (append_lt (append_lt (append_lt (append_lt (append_lt (by decide : (0#3).toNat < 1)))))) (by decide))

theorem bnc (i : Bool) (sign : Bool) (off : BitVec 6) : Statement (.bnc i sign off) := by
  exact of_short rfl (Nat.lt_of_lt_of_le (append_lt (append_lt (append_lt (append_lt (append_lt (by decide : (0#3).toNat < 1)))))) (by decide))

theorem bov (i : Bool) (sign : Bool) (off : BitVec 6) : Statement (.bov i sign off) := by
  exact of_short rfl (Nat.lt_of_lt_of_le (append_lt (append_lt (append_lt (append_lt (append_lt (by decide : (0#3).toNat < 1)))))) (by decide))

theorem bno (i : Bool) (sign : Bool) (off : BitVec 6) : Statement (.bno i sign off) := by
  exact of_short rfl (Nat.lt_of_lt_of_le (append_lt (append_lt (append_lt (append_lt (append_lt (by decide : (0#3).toNat < 1)))))) (by decide))

theorem brz (i : Bool) (sign : Bool) (off : BitVec 6) : Statement (.brz i sign off) := by
  exact of_short rfl (Nat.lt_of_lt_of_le (append_lt (append_lt (append_lt (append_lt (append_lt (by decide : (0#3).toNat < 1)))))) (by decide))

theorem bre (i : Bool) (sign : Bool) (off : BitVec 6) : Statement (.bre i sign off) := by
  exact of_short rfl (Nat.lt_of_lt_of_le (append_lt (append_lt (append_lt (append_lt (append_lt (by decide : (0#3).toNat < 1)))))) (by decide))

theorem bro (i : Bool) (sign : Bool) (off : BitVec 6) : Statement (.bro i sign off) := by
  exact of_short rfl (Nat.lt_of_lt_of_le (append_lt (append_lt (append_lt (append_lt (append_lt (by decide : (0#3).toNat < 1)))))) (by decide))

theorem crb (i : Bool) (sign : Bool) (off : BitVec 6) : Statement (.crb i sign off) := by
  exact of_short rfl (Nat.lt_of_lt_of_le (append_lt (append_lt (append_lt (append_lt (append_lt (by decide : (0#3).toNat < 1)))))) (by decide))

theorem nop : Statement (.nop) := by
  exact of_short rfl (by decide +kernel)

theorem del : Statement (.del) := by
  exact of_short rfl (by decide +kernel)

theorem delb : Statement (.delb) := by
  exact of_short rfl (by decide +kernel)

theorem fixd (b3 : Bool) : Statement (.fixd b3) := by
  exact of_short rfl (Nat.lt_of_lt_of_le (append_lt (append_lt (by decide : (0#3).toNat < 1))) (by decide))

theorem ddel : Statement (.ddel) := by
  exact of_short rfl (by decide +kernel)

theorem fltd : Statement (.fltd) := by
  exact of_short rfl (by decide +kernel)

theorem ftst (b3 : Bool) : Statement (.ftst b3) := by
  exact of_short rfl (Nat.lt_of_lt_of_le (append_lt (append_lt (by decide : (0#3).toNat < 1))) (by decide))

theorem stax (b3 : Bool) : Statement (.stax b3) := by
  exact of_short rfl (Nat.lt_of_lt_of_le (append_lt (append_lt (by decide : (0#3).toNat < 1))) (by decide))

theorem ftss (b3 : Bool) : Statement (.ftss b3) := by
  exact of_short rfl (Nat.lt_of_lt_of_le (append_lt (append_lt (by decide : (0#3).toNat < 1))) (by decide))

theorem ldxa : Statement (.ldxa) := by
  exact of_short rfl (by decide +kernel)

theorem pshn (b3 : Bool) : Statement (.pshn b3) := by
  exact of_short rfl (Nat.lt_of_lt_of_le (append_lt (append_lt (by decide : (0#3).toNat < 1))) (by decide))

theorem dup : Statement (.dup) := by
  exact of_short rfl (by decide +kernel)

theorem zero : Statement (.zero) := by
  exact of_short rfl (by decide +kernel)

theorem ddup : Statement (.ddup) := by
  exact of_short rfl (by decide +kernel)

theorem dzro : Statement (.dzro) := by
  exact of_short rfl (by decide +kernel)

theorem fcmp (b3 : Bool) : Statement (.fcmp b3) := by
  exact of_short rfl (Nat.lt_of_lt_of_le (append_lt (append_lt (by decide : (0#3).toNat < 1))) (by decide))

theorem dlad (b3 : Bool) : Statement (.dlad b3) := by
  exact of_short rfl (Nat.lt_of_lt_of_le (append_lt (append_lt (by decide : (0#3).toNat < 1))) (by decide))

theorem fadd : Statement (.fadd) := by
  exact of_short rfl (by decide +kernel)

theorem dlsb (b3 : Bool) : Statement (.dlsb b3) := by
  exact of_short rfl (Nat.lt_of_lt_of_le (append_lt (append_lt (by decide : (0#3).toNat < 1))) (by decide))

theorem fsub : Statement (.fsub) := by
  exact of_short rfl (by decide +kernel)

theorem dxch : Statement (.dxch) := by
  exact of_short rfl (by decide +kernel)

theorem fmpy : Statement (.fmpy) := by
  exact of_short rfl (by decide +kernel)

theorem cmp (b3 : Bool) : Statement (.cmp b3) := by
  exact of_short rfl (Nat.lt_of_lt_of_le (append_lt (append_lt (by decide : (0#3).toNat < 1))) (by decide))

theorem fdiv : Statement (.fdiv) := by
  exact of_short rfl (by decide +kernel)

theorem add (b3 : Bool) : Statement (.add b3) := by
  exact of_short rfl (Nat.lt_of_lt_of_le (append_lt (append_lt (by decide : (0#3).toNat < 1))) (by decide))

theorem fneg : Statement (.fneg) := by
  exact of_short rfl (by decide +kernel)

theorem sub (b3 : Bool) : Statement (.sub b3) := by
  exact of_short rfl (Nat.lt_of_lt_of_le (append_lt (append_lt (by decide : (0#3).toNat < 1))) (by decide))

theorem cab : Statement (.cab) := by
  exact of_short rfl (by decide +kernel)

theorem mpy (b3 : Bool) : Statement (.mpy b3) := by
  exact of_short rfl (Nat.lt_of_lt_of_le (append_lt (append_lt (by decide : (0#3).toNat < 1))) (by decide))

theorem lcmp (b3 : Bool) : Statement (.lcmp b3) := by
  exact of_short rfl (Nat.lt_of_lt_of_le (append_lt (append_lt (by decide : (0#3).toNat < 1))) (by decide))

theorem div (b3 : Bool) : Statement (.div b3) := by
  exact of_short rfl (Nat.lt_of_lt_of_le (append_lt (append_lt (by decide : (0#3).toNat < 1))) (by decide))

theorem ladd (b3 : Bool) : Statement (.ladd b3) := by
  exact of_short rfl (Nat.lt_of_lt_of_le (append_lt (append_lt (by decide : (0#3).toNat < 1))) (by decide))

theorem neg : Statement (.neg) := by
  exact of_short rfl (by decide +kernel)

theorem lsub (b3 : Bool) : Statement (.lsub b3) := by
  exact of_short rfl (Nat.lt_of_lt_of_le (append_lt (append_lt (by decide : (0#3).toNat < 1))) (by decide))

theorem test (b3 : Bool) : Statement (.test b3) := by
  exact of_short rfl (Nat.lt_of_lt_of_le (append_lt (append_lt (by decide : (0#3).toNat < 1))) (by decide))

theorem lmpy : Statement (.lmpy) := by
  exact of_short rfl (by decide +kernel)

theorem tstd (b3 : Bool) : Statement (.tstd b3) := by
  exact of_short rfl (Nat.lt_of_lt_of_le (append_lt (append_lt (by decide : (0#3).toNat < 1))) (by decide))

theorem not : Statement (.not) := by
  exact of_short rfl (by decide +kernel)

theorem tstb (b3 : Bool) : Statement (.tstb b3) := by
  exact of_short rfl (Nat.lt_of_lt_of_le (append_lt (append_lt (by decide : (0#3).toNat < 1))) (by decide))

theorem or : Statement (.or) := by
  exact of_short rfl (by decide +kernel)

theorem cdsf : Statement (.cdsf) := by
  exact of_short rfl (by decide +kernel)

theorem xor : Statement (.xor) := by
  exact of_short rfl (by decide +kernel)

theorem csdf : Statement (.csdf) := by
  exact of_short rfl (by decide +kernel)

theorem and : Statement (.and) := by
  exact of_short rfl (by decide +kernel)

theorem xch : Statement (.xch) := by
  exact of_short rfl (by decide +kernel)

theorem flts : Statement (.flts) := by
  exact of_short rfl (by decide +kernel)

theorem divs (b3 : Bool) : Statement (.divs b3) := by
  exact of_short rfl (Nat.lt_of_lt_of_le (append_lt (append_lt (by decide : (0#3).toNat < 1))) (by decide))

theorem fixs (b3 : Bool) : Statement (.fixs b3) := by
  exact of_short rfl (Nat.lt_of_lt_of_le (append_lt (append_lt (by decide : (0#3).toNat < 1))) (by decide))

theorem isc : Statement (.isc) := by
  exact of_short rfl (by decide +kernel)

theorem fads : Statement (.fads) := by
  exact of_short rfl (by decide +kernel)

theorem xax : Statement (.xax) := by
  exact of_short rfl (by decide +kernel)

theorem fsbs : Statement (.fsbs) := by
  exact of_short rfl (by decide +kernel)

theorem adax (b3 : Bool) : Statement (.adax b3) := by
  exact of_short rfl (Nat.lt_of_lt_of_le (append_lt (append_lt (by decide : (0#3).toNat < 1))) (by decide))

theorem fmps : Statement (.fmps) := by
  exact of_short rfl (by decide +kernel)

theorem adxa : Statement (.adxa) := by
  exact of_short rfl (by decide +kernel)

theorem fdvs : Statement (.fdvs) := by
  exact of_short rfl (by decide +kernel)

theorem fngs : Statement (.fngs) := by
  exact of_short rfl (by decide +kernel)

theorem fcps (b3 : Bool) : Statement (.fcps b3) := by
  exact of_short rfl (Nat.lt_of_lt_of_le (append_lt (append_lt (by decide : (0#3).toNat < 1))) (by decide))

theorem dtb (b3 : Bool) : Statement (.dtb b3) := by
  exact of_short rfl (Nat.lt_of_lt_of_le (append_lt (append_lt (by decide : (0#3).toNat < 1))) (by decide))

theorem tryMark (b3 : Bool) : Statement (.tryMark b3) := by
  exact of_short rfl (Nat.lt_of_lt_of_le (append_lt (append_lt (by decide : (0#3).toNat < 1))) (by decide))

theorem btd (b3 : Bool) : Statement (.btd b3) := by
  exact of_short rfl (Nat.lt_of_lt_of_le (append_lt (append_lt (by decide : (0#3).toNat < 1))) (by decide))

theorem escp (b3 : Bool) : Statement (.escp b3) := by
  exact of_short rfl (Nat.lt_of_lt_of_le (append_lt (append_lt (by decide : (0#3).toNat < 1))) (by decide))

theorem lbit (b3 : Bool) : Statement (.lbit b3) := by
  exact of_short rfl (Nat.lt_of_lt_of_le (append_lt (append_lt (by decide : (0#3).toNat < 1))) (by decide))

theorem alm (b3 : Bool) : Statement (.alm b3) := by
  exact of_short rfl (Nat.lt_of_lt_of_le (append_lt (append_lt (by decide : (0#3).toNat < 1))) (by decide))

theorem sbit (b3 : Bool) : Statement (.sbit b3) := by
  exact of_short rfl (Nat.lt_of_lt_of_le (append_lt (append_lt (by decide : (0#3).toNat < 1))) (by decide))

theorem cci : Statement (.cci) := by
  exact of_short rfl (by decide +kernel)

theorem eos : Statement (.eos) := by
  exact of_short rfl (by decide +kernel)

theorem eop : Statement (.eop) := by
  exact of_short rfl (by decide +kernel)

theorem lsi (b3 : Bool) : Statement (.lsi b3) := by
  exact of_short rfl (Nat.lt_of_lt_of_le (append_lt (append_lt (by decide : (0#3).toNat < 1))) (by decide))

theorem plba (b3 : Bool) : Statement (.plba b3) := by
  exact of_short rfl (Nat.lt_of_lt_of_le (append_lt (append_lt (by decide : (0#3).toNat < 1))) (by decide))

theorem lbsi (b3 : Bool) : Statement (.lbsi b3) := by
  exact of_short rfl (Nat.lt_of_lt_of_le (append_lt (append_lt (by decide : (0#3).toNat < 1))) (by decide))

theorem psba (b3 : Bool) : Statement (.psba b3) := by
  exact of_short rfl (Nat.lt_of_lt_of_le (append_lt (append_lt (by decide : (0#3).toNat < 1))) (by decide))

theorem ldsi (b3 : Bool) : Statement (.ldsi b3) := by
  exact of_short rfl (Nat.lt_of_lt_of_le (append_lt (append_lt (by decide : (0#3).toNat < 1))) (by decide))

theorem plha (b3 : Bool) : Statement (.plha b3) := by
  exact of_short rfl (Nat.lt_of_lt_of_le (append_lt (append_lt (by decide : (0#3).toNat < 1))) (by decide))

theorem lhsi (b3 : Bool) : Statement (.lhsi b3) := by
  exact of_short rfl (Nat.lt_of_lt_of_le (append_lt (append_lt (by decide : (0#3).toNat < 1))) (by decide))

theorem psha (b3 : Bool) : Statement (.psha b3) := by
  exact of_short rfl (Nat.lt_of_lt_of_le (append_lt (append_lt (by decide : (0#3).toNat < 1))) (by decide))

theorem int (b3 : Bool) : Statement (.int b3) := by
  exact of_short rfl (Nat.lt_of_lt_of_le (append_lt (append_lt (by decide : (0#3).toNat < 1))) (by decide))

theorem pot : Statement (.pot) := by
  exact of_short rfl (by decide +kernel)

theorem gtsp : Statement (.gtsp) := by
  exact of_short rfl (by decide +kernel)

theorem cnto (b3 : Bool) : Statement (.cnto b3) := by
  exact of_short rfl (Nat.lt_of_lt_of_le (append_lt (append_lt (by decide : (0#3).toNat < 1))) (by decide))

theorem muc (b3 : Bool) : Statement (.muc b3) := by
  exact of_short rfl (Nat.lt_of_lt_of_le (append_lt (append_lt (by decide : (0#3).toNat < 1))) (by decide))

theorem flmo (b3 : Bool) : Statement (.flmo b3) := by
  exact of_short rfl (Nat.lt_of_lt_of_le (append_lt (append_lt (by decide : (0#3).toNat < 1))) (by decide))

theorem xgds : Statement (.xgds) := by
  exact of_short rfl (by decide +kernel)

theorem rfc (b3 : Bool) : Statement (.rfc b3) := by
  exact of_short rfl (Nat.lt_of_lt_of_le (append_lt (append_lt (by decide : (0#3).toNat < 1))) (by decide))

theorem psdb : Statement (.psdb) := by
  exact of_short rfl (by decide +kernel)

theorem wtc (b3 : Bool) : Statement (.wtc b3) := by
  exact of_short rfl (Nat.lt_of_lt_of_le (append_lt (append_lt (by decide : (0#3).toNat < 1))) (by decide))

theorem disp : Statement (.disp) := by
  exact of_short rfl (by decide +kernel)

theorem smsg (b3 : Bool) : Statement (.smsg b3) := by
  exact of_short rfl (Nat.lt_of_lt_of_le (append_lt (append_lt (by decide : (0#3).toNat < 1))) (by decide))

theorem pseb : Statement (.pseb) := by
  exact of_short rfl (by decide +kernel)

theorem rsc : Statement (.rsc) := by
  exact of_short rfl (by decide +kernel)

theorem ssi (b3 : Bool) : Statement (.ssi b3) := by
  exact of_short rfl (Nat.lt_of_lt_of_le (append_lt (append_lt (by decide : (0#3).toNat < 1))) (by decide))

theorem psla (b3 : Bool) : Statement (.psla b3) := by
  exact of_short rfl (Nat.lt_of_lt_of_le (append_lt (append_lt (by decide : (0#3).toNat < 1))) (by decide))

theorem sbsi (b3 : Bool) : Statement (.sbsi b3) := by
  exact of_short rfl (Nat.lt_of_lt_of_le (append_lt (append_lt (by decide : (0#3).toNat < 1))) (by decide))

theorem plda (b3 : Bool) : Statement (.plda b3) := by
  exact of_short rfl (Nat.lt_of_lt_of_le (append_lt (append_lt (by decide : (0#3).toNat < 1))) (by decide))

theorem sdsi (b3 : Bool) : Statement (.sdsi b3) := by
  exact of_short rfl (Nat.lt_of_lt_of_le (append_lt (append_lt (by decide : (0#3).toNat < 1))) (by decide))

theorem psta (b3 : Bool) : Statement (.psta b3) := by
  exact of_short rfl (Nat.lt_of_lt_of_le (append_lt (append_lt (by decide : (0#3).toNat < 1))) (by decide))

theorem shsi (b3 : Bool) : Statement (.shsi b3) := by
  exact of_short rfl (Nat.lt_of_lt_of_le (append_lt (append_lt (by decide : (0#3).toNat < 1))) (by decide))

theorem cpaa (b3 : Bool) : Statement (.cpaa b3) := by
  exact of_short rfl (Nat.lt_of_lt_of_le (append_lt (append_lt (by decide : (0#3).toNat < 1))) (by decide))

theorem rcs : Statement (.rcs) := by
  exact of_short rfl (by decide +kernel)

theorem cpep (b3 : Bool) : Statement (.cpep b3) := by
  exact of_short rfl (Nat.lt_of_lt_of_le (append_lt (append_lt (by decide : (0#3).toNat < 1))) (by decide))

theorem brsi (b3 : Bool) : Statement (.brsi b3) := by
  exact of_short rfl (Nat.lt_of_lt_of_le (append_lt (append_lt (by decide : (0#3).toNat < 1))) (by decide))

theorem cptr (b3 : Bool) : Statement (.cptr b3) := by
  exact of_short rfl (Nat.lt_of_lt_of_le (append_lt (append_lt (by decide : (0#3).toNat < 1))) (by decide))

theorem vptr (b3 : Bool) : Statement (.vptr b3) := by
  exact of_short rfl (Nat.lt_of_lt_of_le (append_lt (append_lt (by decide : (0#3).toNat < 1))) (by decide))

theorem lins : Statement (.lins) := by
  exact of_short rfl (by decide +kernel)

theorem ldel : Statement (.ldel) := by
  exact of_short rfl (by decide +kernel)

theorem ixit : Statement (.ixit) := by
  exact of_short rfl (by decide +kernel)

theorem wait (b3 : Bool) : Statement (.wait b3) := by
  exact of_short rfl (Nat.lt_of_lt_of_le (append_lt (append_lt (by decide : (0#3).toNat < 1))) (by decide))

theorem stop (b3 : Bool) : Statement (.stop b3) := by
  exact of_short rfl (Nat.lt_of_lt_of_le (append_lt (append_lt (by decide : (0#3).toNat < 1))) (by decide))

end Sys2Proof.Laws.EncodedLength
end

