-- ==== Sys2Proof/Tests/Slice0.lean ====
section
/-! SUPPORT. Tests: each constructor's word written out from the encoding tables of spec/30_encoding.md, a few single steps
against the examples of the spec's rules, and for each statement a state and operands that meet its hypotheses. -/

namespace Sys2Proof.Tests

set_option Elab.async false -- one theorem after the other: fewer threads at once

open Sys2Proof Sys2Proof.Machine

/-! ## Syntax and encoding -/

theorem test_lbit_needs_bit3 : WellFormed (.lbit false) = false ∧ WellFormed (.lbit true) = true := by decide

theorem test_sbit_needs_bit3 : WellFormed (.sbit false) = false ∧ WellFormed (.sbit true) = true := by decide

theorem test_lbit_decodes_with_its_bit3 :
    decodeCir 0x0042#32 = .instr (.lbit false) ∧ decodeCir 0x1042#32 = .instr (.lbit true) := by decide +kernel

/-- Every word of the list, a 16-bit one in the low half of CIR, decodes to the instruction beside it. -/
def decodesAll (l : List (Word × Instr)) : Bool := l.all fun c => decide (decodeCir c.1 = .instr c.2)

theorem test_decode_format1 : decodesAll [
    (0x5BBC, .lds true true .dlMinus 188), (0x7679, .lras true false .sbPlus 121),
    (0x9936, .ldds true true .pMinus 54), (0xACF3, .sts false true .qPlus 243), (0xD2B0, .bccs true 1 false 176)] = true := by decide +kernel

theorem test_decode_format6 : decodesAll [
    (0xE08003AD, .exf true false 29 13), (0xE140017A, .dpf true 11 26), (0xE24D8919, .chek 9 362777),
    (0xE3015008, .pcl 86024), (0xE40516F7, .lpp 333559), (0xE5686BC5, .lia 6 true 27589),
    (0xE6B432B4, .ldi 11809460), (0xE7C7F9A3, .lni 13105571), (0xE8BF1560, .ld true false .sMinus 464224),
    (0xEBD6311D, .st true true .dbPlus 405789), (0xEC6D4CDA, .ldb false true .qMinus 347354),
    (0xEDC46896, .cmpm true true .pPlus 288918), (0xF09B8453, .ldd true false .dlMinus 230483),
    (0xF2F2A010, .ldh true true .sbPlus 172048), (0xF349BBCD, .decm false true .pMinus 113613),
    (0xF4E0D78A, .incm true true .qPlus 55178), (0xF5BFF347, .sth true false .sMinus 521031),
    (0xF6D70F04, .ldx true true .dbPlus 462596), (0xF76E2AC0, .incf false true .qMinus 404160),
    (0xF8C5467D, .br true true .pPlus 345725), (0xF9CC623A, .bcc true 4 true 287290),
    (0xFADB7DF7, .decf true true .dlMinus 228855), (0xFB7299B4, .seml false true .sbPlus 170420),
    (0xFCC9B571, .stb true true .pMinus 111985), (0xFDA0D12D, .std true false .qPlus 53549),
    (0xFEFFECEA, .lra true true .sMinus 519402)] = true := by decide +kernel

theorem test_decode_format5 : decodesAll [
    (0x20DA, .sol 218), (0x21C9, .sop 201), (0x22B8, .cmpn 184), (0x23A7, .cmpi 167), (0x2496, .addi 150),
    (0x2586, .subi 134), (0x2675, .mpyi 117), (0x2764, .divi 100), (0x2A53, .ldxi 83), (0x2B42, .ldxn 66),
    (0x2C32, .ldis 50), (0x2D21, .lnis 33), (0x2E10, .sos 16), (0x2FFF, .iow 255), (0x30EF, .ior 239),
    (0x31DE, .ioc 222), (0x32CD, .pcls 205), (0x33BC, .exit 188), (0x34AB, .sxit 171), (0x35CA, .lias 3 10),
    (0x3679, .adxi 121), (0x3768, .sbxi 104), (0x3957, .solc 87), (0x3A47, .adds 71), (0x3B36, .subs 54),
    (0x3C25, .lpps 37), (0x3D14, .ori 20), (0x3E03, .xori 3), (0x3FF3, .andi 243)] = true := by decide +kernel

theorem test_decode_format2 : decodesAll [
    (0x0091, .lsl false 17), (0x00F0, .lsr false 48), (0x110E, .csl true 14), (0x116C, .csr true 44),
    (0x018B, .asl false 11), (0x11E9, .asr true 41), (0x1208, .lsxl true 8), (0x1544, .sld true true),
    (0x0580, .sval false false false), (0x15C5, .scon true true false true),
    (0x1606, .sas true false true true false), (0x0644, .pmpb 4), (0x0683, .smpb 3), (0x16C1, .srm true 1),
    (0x0738, .pshr false 56), (0x0767, .setr 39), (0x0786, .llsh 6), (0x07C5, .tcc 5),
    (0x0913, .bir false true 19), (0x0961, .bun false true 33), (0x0A03, .pmva false 3),
    (0x0A45, .mvb false true 1), (0x0A82, .scw false false 2), (0x1AC5, .scu true true 1),
    (0x1B06, .cmpb true true 2), (0x1B87, .tran true true 3), (0x0BC3, .filb 3), (0x0D01, .bcy false true 1),
    (0x0C4E, .bnc false false 14), (0x1D9B, .bov true true 27), (0x1DE9, .bno true true 41),
    (0x1F37, .brz true true 55), (0x1E44, .bre true false 4), (0x1E92, .bro true false 18),
    (0x0FE0, .crb false true 32)] = true := by decide +kernel

theorem test_decode_format3a : decodesAll [
    (0x0000, .nop), (0x0020, .del), (0x0001, .delb), (0x0021, .fixd false), (0x0002, .ddel), (0x0022, .fltd),
    (0x1003, .ftst true), (0x1023, .stax true), (0x0004, .ftss false), (0x0024, .ldxa), (0x1005, .pshn true),
    (0x0025, .dup), (0x0006, .zero), (0x0026, .ddup), (0x0007, .dzro), (0x1028, .fcmp true),
    (0x0009, .dlad false), (0x0029, .fadd), (0x100A, .dlsb true), (0x002A, .fsub), (0x000E, .dxch),
    (0x002B, .fmpy), (0x000F, .cmp false), (0x002C, .fdiv), (0x1010, .add true), (0x002D, .fneg),
    (0x1011, .sub true), (0x002E, .cab), (0x0012, .mpy false), (0x002F, .lcmp false), (0x0013, .div false),
    (0x1030, .ladd true), (0x0014, .neg), (0x1031, .lsub true), (0x0015, .test false), (0x0032, .lmpy),
    (0x1016, .tstd true), (0x0034, .not), (0x1017, .tstb true), (0x0035, .or)] = true := by decide +kernel

theorem test_decode_format3b : decodesAll [
    (0x0018, .cdsf), (0x0036, .xor), (0x0019, .csdf), (0x0037, .and), (0x001A, .xch), (0x0038, .flts),
    (0x001B, .divs false), (0x1039, .fixs true), (0x001C, .isc), (0x003A, .fads), (0x001D, .xax), (0x003B, .fsbs),
    (0x101E, .adax true), (0x003C, .fmps), (0x001F, .adxa), (0x003D, .fdvs), (0x003E, .fngs),
    (0x003F, .fcps false)] = true := by decide +kernel

theorem test_decode_format4a : decodesAll [
    (0x1040, .dtb true), (0x0060, .tryMark false), (0x1041, .btd true), (0x1061, .escp true),
    (0x1042, .lbit true), (0x0062, .alm false), (0x1043, .sbit true), (0x0063, .cci), (0x0044, .eos),
    (0x0064, .eop), (0x0045, .lsi false), (0x0067, .plba false), (0x1046, .lbsi true), (0x1068, .psba true),
    (0x0047, .ldsi false), (0x1069, .plha true), (0x1048, .lhsi true), (0x006A, .psha false), (0x1049, .int true),
    (0x006B, .pot), (0x004A, .gtsp), (0x106C, .cnto true), (0x004B, .muc false), (0x106D, .flmo true),
    (0x004C, .xgds), (0x006E, .rfc false), (0x004D, .psdb), (0x106F, .wtc true), (0x004E, .disp),
    (0x1070, .smsg true), (0x004F, .pseb), (0x0072, .rsc), (0x0055, .ssi false), (0x0073, .psla false),
    (0x0056, .sbsi false), (0x1074, .plda true), (0x1057, .sdsi true), (0x0075, .psta false),
    (0x1058, .shsi true), (0x1076, .cpaa true)] = true := by decide +kernel

theorem test_decode_format4b : decodesAll [
    (0x0059, .rcs), (0x0077, .cpep false), (0x105F, .brsi true), (0x1078, .cptr true), (0x0079, .vptr false),
    (0x007A, .lins), (0x007B, .ldel), (0x007C, .ixit), (0x107E, .wait true), (0x007F, .stop false)] = true := by decide +kernel

/-! ## States for the tests -/

/-- A process in privileged mode: segment 1 at 0x10000, globals at 0x20000, its stack at 0x30000 with the last marker at
0x30033 and twelve words above it, T = 0 and I = 0. -/
def base : State := { State.reset with
  P := 0x10010, PB := 0x10000, PL := 0x12FFC, DB := 0x20000, DL := 0x20FFF, SB := 0x30000, SL := 0x30FFF, S := 0x30063,
  Q := 0x30033, X := 0, STATUS := 0x00020001, icsFlag := false, MASK := 0x04000000, BRKPT := 0xFFFFFFFF }

/-- The words of the list on top of the stack, the first one the TOS word. -/
def onTop (l : List Word) (s : State) : State :=
  (l.zip (List.range l.length)).foldl (fun t p => t.putTop p.2 p.1) s

/-- The words of the list stored at their addresses. -/
def withWords (l : List (Word × Word)) (s : State) : State := l.foldl (fun t p => t.putWord p.1 p.2) s

/-- The hypotheses of `CompletesAs`. -/
def done (i : Instr) (u : State) : Bool := (u.advanced i).quiet

/-- The hypotheses of `JumpsAs`. -/
def lands (u : State) (target : Word) : Bool := !u.alignmentBug (halfAlign target) && (u.jumped target).quiet

/-- The hypotheses of `OnStack` on the side that completes. -/
def ready (i : Instr) (s : State) (n k p : Nat) (u : State) : Bool := s.hasStack n k && s.popsOk p && done i u

/-- The hypotheses of `OnStack` on the side that traps. -/
def short (s : State) (n k p : Nat) : Bool := s.hasStack n k && !s.popsOk p

/-- The hypotheses of `EndsInTrap`. -/
def trapping (i : Instr) (u : State) : Bool :=
  !((u.advanced i).overflow && (u.advanced i).trapEnable) && !(u.advanced i).interruptPending

/-- The state and the value a computation ends with satisfy `p`. -/
def endsWith {α : Type} (m : M α) (s : State) (p : α → State → Bool) : Bool :=
  match m s with
  | .ok (a, t) => p a t
  | .error _ => false

/-- The computation ends in a trap. -/
def trapsIn {α : Type} (m : M α) (s : State) : Bool :=
  match m s with
  | .error (.trap _ _ _) => true
  | _ => false

/-- The computation ends in the trap t with its parameter, the state being u then. -/
def failsWith {α : Type} (m : M α) (s : State) (t : Trap) (p : Option Word) (u : State) : Bool :=
  match m s with
  | .error (.trap t' p' u') => decide (t' = t ∧ p' = p ∧ u' = u)
  | _ => false

/-- The same, and the state is the one it began in. -/
def fails {α : Type} (m : M α) (s : State) (t : Trap) (p : Option Word) : Bool := failsWith m s t p s

/-- The next state of a step satisfies `p`. -/
def nextIs (r : Host.Outcome State Fault Refusal) (p : State → Bool) : Bool :=
  match r with
  | .next t => p t
  | _ => false

/-- The state in which nothing can be popped. -/
def bare (s : State) : State := { s with Q := s.S }

/-! ## The examples of the spec (spec/95_test_vectors.md) -/

/-- The instruction of CIR = w, run with the first list on top of the stack, leaves the second list there and CC. -/
def gives (w : Word) (start finish : List Word) (cc : BitVec 2) (s : State := base) : Bool :=
  match decodeCir w with
  | .instr i => nextIs (exec i (onTop start s)) fun t =>
      ((finish.zip (List.range finish.length)).all fun p => t.top p.2 == p.1) && (t.cc == cc)
  | _ => false

/-- Examples of R321 to R339. -/
theorem test_arithmetic_examples :
    (gives 0x0010 [1, 0x7FFFFFFF] [0x80000000] ccL && gives 0x0011 [7, 5] [0xFFFFFFFE] ccL &&
     gives 0x0012 [0x10000, 0x10000] [0] ccE && gives 0x1012 [0x10000, 0x10000] [0, 1] ccG &&
     gives 0x0013 [2, 0xFFFFFFF9, 0xFFFFFFFF] [0xFFFFFFFF, 0xFFFFFFFD, 0xFFFFFFFF] ccL &&
     gives 0x1013 [2, 0xFFFFFFF9, 0xFFFFFFFF] [1, 0xFFFFFFFC, 0xFFFFFFFF] ccL && gives 0x001B [0xFFFFFFFE, 7] [1, 0xFFFFFFFD] ccL &&
     gives 0x0014 [5] [0xFFFFFFFB] ccL && gives 0x0030 [1, 0xFFFFFFFF] [0] ccE && gives 0x0031 [1, 0] [0xFFFFFFFF] ccG &&
     gives 0x0032 [2, 0xFFFFFFFF] [0xFFFFFFFE, 1] ccG && gives 0x2401 [0x7FFFFFFF] [0x80000000] ccL && gives 0x2501 [0] [0xFFFFFFFF] ccL &&
     gives 0x260A [7] [70] ccG && gives 0x270A [0xFFFFFFE7] [0xFFFFFFFE] ccL &&
     gives 0x001F [4] [0] ccE { base with X := 0xFFFFFFFC } && gives 0x000F [1, 0xFFFFFFFF] [0xFFFFFFFF] ccL) = true := by
  decide +kernel

/-- Examples of R262 to R278 and R351 to R357. -/
theorem test_stack_and_logic_examples :
    (gives 0x0037 [0xFF00FF00, 0xF0F0F0F0] [0xF000F000] ccL && gives 0x0035 [2, 1] [3] ccG && gives 0x0036 [0x1234, 0x1234] [0] ccE &&
     gives 0x0034 [0] [0xFFFFFFFF] ccL && gives 0x3F0F [0x12345678] [8] ccG && gives 0x3D80 [1] [0x81] ccG && gives 0x3EFF [0xFF] [0] ccE &&
     gives 0x001A [1, 0x80000000] [0x80000000, 1] ccL && gives 0x000E [4, 3, 2, 1] [2, 1, 4, 3] ccG && gives 0x002E [3, 2, 1] [1, 3, 2] ccG &&
     gives 0x0025 [0xFFFFFFFF] [0xFFFFFFFF, 0xFFFFFFFF] ccL && gives 0x0001 [7, 9, 11] [7, 11] ccG && gives 0x1015 [0, 6] [6] ccE) = true := by
  decide +kernel

/-- Examples of R393 to R413. -/
theorem test_float_examples :
    (gives 0x0029 [0, 0x40000000, 0, 0x3FF00000] [0, 0x40080000] ccG && gives 0x002A [0, 0x3FF00000, 0, 0x3FF00000] [0, 0] ccE &&
     gives 0x002B [0, 0x40000000, 0, 0x3FF80000] [0, 0x40080000] ccG && gives 0x002C [0, 0x40000000, 0, 0x40080000] [0, 0x3FF80000] ccG &&
     gives 0x002D [0, 0xC0040000] [0, 0x40040000] ccG && gives 0x003A [0x40000000, 0x3F800000] [0x40400000] ccG &&
     gives 0x003B [0x40000000, 0x3F800000] [0xBF800000] ccL && gives 0x003C [0x40000000, 0x3FC00000] [0x40400000] ccG &&
     gives 0x003D [0x41200000, 0x3F800000] [0x3DCCCCCD] ccG && gives 0x003D [0x41200000, 0x3F800000] [0x3DCCCCCC] ccG { base with STATUS := 0x00120001 } &&
     gives 0x0038 [0x01000001] [0x4B800000] ccG && gives 0x0022 [3] [0, 0x40080000] ccG && gives 0x1039 [0xC0200000] [0xFFFFFFFD] ccL &&
     gives 0x0039 [0xC0200000] [0xFFFFFFFE] ccL && gives 0x0021 [0, 0x4132D687] [0x0012D687] ccG && gives 0x0019 [0x3FC00000] [0, 0x3FF80000] ccG &&
     gives 0x0018 [0x9999999A, 0x3FB99999] [0x3DCCCCCD] ccG) = true := by
  decide +kernel

/-- Examples of R421 to R425. -/
theorem test_decimal_examples :
    (gives 0x0009 [1, 0x99999999] [0] ccE && gives 0x000A [1, 0] [0x99999999] ccG && gives 0x0040 [0, 0, 0x1000] [0x37E08000, 0x4341C379] ccG &&
     gives 0x0041 [0, 0x3FF80000, 0] [0, 0, 0x1500] ccE && gives 0x1041 [0, 0x4132D687] [6] ccG &&
     gives 0x006B [2] [0, 0x3FF00000, 0, 0x40590000] ccG) = true := by
  decide +kernel

/-! ## Addresses of 29 bits -/

/-- The computation is refused for an address beyond 29 bits. -/
def tooLarge {α : Type} (m : M α) (s : State) : Bool :=
  match m s with
  | .error (.refuse r) => decide (r = .addressTooLarge)
  | _ => false

/-- R81: LOCATION, PL and the SL of a stack overflow on the ICS, at the last address of 29 bits and beyond it. -/
theorem test_limit_registers_have_29_bits :
    (let ics : State := { base with icsFlag := true, SL := 0x1FFFFF03 }
     tooLarge (segmentLimit 0x20000000 2) base && tooLarge (segmentLimit 0x1FFFFFFC 7) base && tooLarge (segmentLimit 0 2) base &&
     endsWith (segmentLimit 0x1FFFFFFC 3) base (fun pl _ => pl == 0x1FFFFFFC) && tooLarge raiseLimit ics &&
     tooLarge (icsTrapEntry .stackOverflow none 0 : M Unit) ics && endsWith raiseLimit { ics with SL := 0x1FFFFEFF } (fun _ t => t.SL == 0x1FFFFFFF)) = true := by
  decide +kernel

/-! ## Hypotheses of the statements about the stack -/

theorem witness_deleting :
    (ready .del base 0 0 1 (base.popped 1) && ready .ddel base 0 0 2 (base.popped 2) &&
     ready .delb base 2 0 1 ((base.putTop 1 (base.top 0)).popped 1) && ready (.subs 12) base 0 0 12 (base.popped 12) &&
     ready (.subs 0) base 1 0 1 (base.popped 1) && short base 0 0 13 && short (bare base) 2 0 1) = true := by
  decide +kernel

theorem witness_exchange :
    (let s := onTop [4, 3, 2, 1] base
     ready .dup s 1 1 0 ((s.pushed 4).setCC (ccWord 4)) &&
     ready .ddup s 2 2 0 (((s.pushed 3).pushed 4).setCC (ccDouble (dword 3 4))) &&
     ready .xch s 2 0 0 (((s.putTop 1 4).putTop 0 3).setCC (ccWord 3)) &&
     ready .dxch s 4 0 0 (((((s.putTop 1 1).putTop 0 2).putTop 3 3).putTop 2 4).setCC (ccDouble (dword 1 2))) &&
     ready .xax s 1 0 0 (((s.putX 4).putTop 0 s.X).setCC (ccWord s.X)) &&
     ready .cab s 3 0 0 ((((s.putTop 2 3).putTop 1 4).putTop 0 2).setCC (ccWord 2))) = true := by
  decide +kernel

theorem witness_constants :
    (let s := base
     let put := fun v : Word => (s.pushed v).setCC (ccWord v)
     ready .zero s 0 1 0 (put 0) && ready .dzro s 0 2 0 (((s.pushed 0).pushed 0).setCC ccE) &&
     ready (.ldi 0xFFFFFF) s 0 1 0 (put 0xFFFFFF) && ready (.lni 0) s 0 1 0 (put 0) &&
     ready (.ldis 255) s 0 1 0 (put 255) && ready (.lnis 1) s 0 1 0 (put 0xFFFFFFFF) && ready .ldxa s 0 1 0 (put s.X) &&
     ready .cci s 0 1 0 (s.pushed 1) && ready (.tcc 4) s 0 1 0 (s.pushed 1) && ready (.tcc 3) s 0 1 0 (s.pushed 0)) = true := by
  decide +kernel

theorem witness_index :
    (let s := onTop [0x7FFFFFFF] { base with X := 1 }
     let set := fun (t : State) (v : Word) => (t.putX v).setCC (ccWord v)
     ready (.ldxi 0) s 0 0 0 (set s 0) && ready (.ldxn 5) s 0 0 0 (set s 0xFFFFFFFB) &&
     ready (.stax false) s 1 0 0 (set s 0x7FFFFFFF) && ready (.stax true) s 1 0 1 (set (s.popped 1) 0x7FFFFFFF) &&
     ready (.adxi 255) s 0 0 0 (set s 256) && ready (.sbxi 1) s 0 0 0 (set s 0) &&
     ready (.adax false) s 1 0 0 (((s.putX 0x80000000).noteOverflow true).setCC ccL) &&
     ready (.adax true) s 1 0 1 ((((s.popped 1).putX 0x80000000).noteOverflow true).setCC ccL)) = true := by
  decide +kernel

theorem witness_tests :
    (let s := onTop [0x41, 7] base
     ready (.test false) s 1 0 0 (s.setCC ccG) && ready (.test true) s 1 0 1 ((s.popped 1).setCC ccG) &&
     ready (.tstb true) s 1 0 1 ((s.popped 1).setCC ccE) && ready (.tstd true) s 2 0 2 ((s.popped 2).setCC ccG) &&
     ready (.cmp false) s 2 0 1 ((s.popped 1).setCC ccL) && ready (.cmp true) s 2 0 2 ((s.popped 2).setCC ccL) &&
     ready (.lcmp true) s 2 0 2 ((s.popped 2).setCC ccL) && ready (.cmpi 0x41) s 1 0 1 ((s.popped 1).setCC ccE) &&
     ready (.cmpn 1) s 1 0 1 ((s.popped 1).setCC ccG) && short (bare s) 2 0 2) = true := by
  decide +kernel

theorem witness_byte_classes :
    ccByte 0x30 = ccG ∧ ccByte 0x39 = ccG ∧ ccByte 0x41 = ccE ∧ ccByte 0x5A = ccE ∧ ccByte 0x61 = ccE ∧ ccByte 0x7A = ccE ∧
      ccByte 0 = ccL ∧ ccByte 0x2F = ccL ∧ ccByte 0x3A = ccL ∧ ccByte 0x40 = ccL ∧ ccByte 0x5B = ccL ∧ ccByte 0x60 = ccL ∧
      ccByte 0x7B = ccL ∧ ccByte 0xFF = ccL := by
  decide +kernel

theorem witness_stack_growth :
    (let s := { base with X := 2 }
     let v := s.top 0
     let up := fun (t : State) => (((t.pushed v).pushed v).putX 0).setCC (ccWord v)
     s.privileged && s.hasStack 1 2 && done (.adds 0) { s with S := s.S - 4#32 } &&
     done (.adds 255) { s with S := s.S + 1020#32 } && decide ({ s with SL := s.S }.SL.toNat < s.S.toNat + 4) &&
     s.popsOk 1 && done (.pshn false) (up s) && done (.pshn true) (up (s.popped 1)) &&
     ready (.pshn true) base 1 0 1 (base.popped 1) && ready (.pshn false) base 1 0 0 base) = true := by
  decide +kernel

/-! ## Hypotheses of the statements about arithmetic -/

theorem witness_add_subtract :
    (let s := (onTop [1, 0x7FFFFFFF] base).setCarry true
     let left := fun (v : Word) (o : Bool) => (((s.putTop 1 v).popped 1).noteOverflow o)
     ready (.add false) s 2 0 1 ((left 0x80000000 true).setCC ccL) && ready (.add true) s 2 0 1 ((left 0x80000001 true).setCC ccL) &&
     ready (.sub false) s 2 0 1 ((left 0x7FFFFFFE false).setCC ccG) &&
     ready (.sub true) s 2 0 1 ((left 0x7FFFFFFE false).setCC ccG) &&
     ready (.ladd true) s 2 0 1 ((((s.putTop 1 0x80000001).popped 1).setCarry false).setCC ccG) &&
     ready (.lsub false) s 2 0 1 ((((s.putTop 1 0x7FFFFFFE).popped 1).setCarry true).setCC ccG) &&
     short (bare s) 2 0 1) = true := by
  decide +kernel

theorem witness_top_word :
    (let s := onTop [0x80000000] { base with X := 0xFFFFFFFF }
     let left := fun (v : Word) (o : Bool) => ((s.putTop 0 v).noteOverflow o).setCC (ccWord v)
     ready .neg s 1 0 0 (left 0x80000000 true) && ready (.addi 255) s 1 0 0 (left 0x800000FF false) &&
     ready (.subi 1) s 1 0 0 (left 0x7FFFFFFF true) && ready (.mpyi 2) s 1 0 0 (left 0 true) &&
     ready .adxa s 1 0 0 (left 0x7FFFFFFF true) && ready .isc s 1 0 0 ((s.noteOverflow true).setCC ccL)) = true := by
  decide +kernel

theorem witness_multiply :
    (let s := onTop [0xFFFFFFFF, 2] base
     ready (.mpy false) s 2 0 1 (((s.putTop 1 0xFFFFFFFE).popped 1).setCC ccL) &&
     ready (.mpy true) s 2 0 0 (((s.putTop 1 0xFFFFFFFF).putTop 0 0xFFFFFFFE).setCC ccL) &&
     ready .lmpy s 2 0 0 (((s.putTop 1 1).putTop 0 0xFFFFFFFE).setCC ccG)) = true := by
  decide +kernel

/-- -7 by 2: -3 and -1, or with bit 3 -4 and 1; the hypotheses on q and r beside those on the state. -/
theorem witness_divide :
    (let s := onTop [2, 0xFFFFFFF9, 0xFFFFFFFF] base
     decide ((-7 : Int) = -3 * 2 + -1 ∧ |(-1 : Int)| < |2| ∧ 0 ≤ (-1 : Int) * -7) &&
     decide ((-7 : Int) = -4 * 2 + 1 ∧ |(1 : Int)| < |2| ∧ (0 : Int) ≤ 1) &&
     decide ((s.top 2 ++ s.top 1).toInt = -7 ∧ (s.top 1).toInt = -7 ∧ (s.top 0).toInt = 2) &&
     ready (.div false) s 3 0 0 ((((s.putTop 2 0xFFFFFFFF).putTop 1 0xFFFFFFFD).putTop 0 0xFFFFFFFF).setCC ccL) &&
     ready (.div true) s 3 0 0 ((((s.putTop 2 0xFFFFFFFF).putTop 1 0xFFFFFFFC).putTop 0 1).setCC ccL) &&
     ready (.divs false) s 2 0 0 (((s.putTop 1 0xFFFFFFFD).putTop 0 0xFFFFFFFF).setCC ccL) &&
     ready (.divs true) s 2 0 0 (((s.putTop 1 0xFFFFFFFC).putTop 0 1).setCC ccL) &&
     ready (.divi 2) s 1 0 0 ((s.putTop 0 1).setCC ccG) && ready (.divi 0) s 1 0 0 (s.setO true) &&
     ready (.div false) (s.putTop 0 0) 3 0 0 ((s.putTop 0 0).setO true)) = true := by
  decide +kernel

theorem witness_logic :
    (let s := onTop [0xFF00FF00, 0xF0F0F0F0] base
     let two := fun v : Word => ((s.putTop 1 v).popped 1).setCC (ccWord v)
     let one := fun v : Word => (s.putTop 0 v).setCC (ccWord v)
     ready .and s 2 0 1 (two 0xF000F000) && ready .or s 2 0 1 (two 0xFFF0FFF0) && ready .xor s 2 0 1 (two 0x0FF00FF0) &&
     ready .not s 1 0 0 (one 0x00FF00FF) && ready (.andi 0xFF) s 1 0 0 (one 0) && ready (.ori 1) s 1 0 0 (one 0xFF00FF01) &&
     ready (.xori 1) s 1 0 0 (one 0xFF00FF01) && short (bare s) 2 0 1) = true := by
  decide +kernel

theorem witness_shifts :
    (let s := onTop [0x80000001, 0xFFFFFFFF] { base with X := 63 }
     let one := fun v : Word => (s.putTop 0 v).setCC (ccWord v)
     ready (.asl false 1) s 1 0 0 (((s.noteOverflow true).putTop 0 2).setCC ccG) && ready (.asr true 1) s 1 0 0 (one 0x80000001) &&
     ready (.lsl false 63) s 1 0 0 (one 0) && ready (.lsr false 32) s 1 0 0 (one 0) && ready (.csl false 33) s 1 0 0 (one 3) &&
     ready (.csr true 2) s 1 0 0 (one 0xC0000000) && ready (.lsxl false 1) s 0 0 0 ((s.putX 126).setCC ccG)) = true := by
  decide +kernel

/-- EXF of the byte at bit 8, DPF of a byte to the same place, bit by bit as the statement asks, and the bit counts. -/
theorem witness_fields :
    (let s := onTop [0x12FF5678, 0x11111111] base
     let a := s.top 0
     let b := s.top 1
     let src := fun m : Nat => decide (m < 32) && bit a m
     (List.range 32).all (fun m => bit 0x000000FF#32 m == if m < 24 then false else src (8 + (m - 24))) &&
     (List.range 32).all (fun m => bit 0x11781111#32 m == if 8 ≤ m ∧ m < 16 then bit a (m - 8 + 24) else bit b m) &&
     ready (.exf false false 24 8) s 1 0 0 ((s.putTop 0 0xFF).setCC ccG) &&
     ready (.dpf false 24 8) s 2 0 1 (((s.putTop 1 0x11781111).popped 1).setCC ccG) &&
     (List.range 3).all (fun j => !bit a j) && bit a 3 && ready (.flmo false) s 1 1 0 (s.putTop 0 3) &&
     ready (.flmo true) (s.putTop 0 0) 1 1 0 ((s.putTop 0 0).pushed 32) && ready (.cnto true) s 1 1 0 (s.pushed 18)) = true := by
  decide +kernel

/-! ## Hypotheses of the statements about loads and stores -/

/-- `base` with a data segment 801 (hexadecimal) of 256 bytes at 0x22000 and a pointer to its second word at DB+8. -/
def segmented : State :=
  withWords [(0x6000, 0x10), (0x6010, 0x10), (0x6014, 0xFF), (0x6018, 0x22000), (0x22004, 0x11223344), (0x20008, 0x40080004)]
    { base with DST := 0x6000 }

theorem witness_loads :
    (let s := segmented
     let put := fun (t : State) (v : Word) => (t.pushed v).setCC (ccWord v)
     let ok := fun (e : Effective) (t : State) =>
       t.hasStack 0 2 && t.hasWord e.addr && t.hasHalf e.addr && t.hasByte e.addr && t.hasWord (e.addr + 4#32) &&
       done (.ld true false .dbPlus 8) (put t (t.word e.addr)) && done (.lds true false .dbPlus 2) (put t (t.word e.addr)) &&
       done (.ldh true false .dbPlus 8) (put t ((t.mem.half (halfAlign e.addr).toNat).signExtend 32)) &&
       done (.ldb true false .dbPlus 8) ((t.pushed ((t.byte e.addr.toNat).setWidth 32)).setCC (ccByte (t.byte e.addr.toNat))) &&
       done (.ldx true false .dbPlus 8) ((t.putX (t.word e.addr)).setCC (ccWord (t.word e.addr))) &&
       done (.ldd true false .dbPlus 8)
         (((t.pushed (t.word e.addr)).pushed ((t.pushed (t.word e.addr)).word (e.addr + 4#32))).setCC ccG) &&
       done (.ldds true false .dbPlus 2) (((t.pushed (t.word e.addr)).pushed (t.word (e.addr + 4#32))).setCC ccG)
     endsWith (effective .dbPlus 8 true false false 0) s ok && endsWith (effective .dbPlus 8 true false false 4) s ok &&
     endsWith (effective .dbPlus 8 true false false 0) s (fun e t => e.addr == 0x22004 && t.word e.addr == 0x11223344 &&
       t.word 0x6010 == 0x14) &&
     trapsIn (effective .dbPlus 8 true false false 0) { s with DL := s.DB }) = true := by
  decide +kernel

theorem witness_indirect_loads :
    (let s := onTop [0x40080004] segmented
     let p := s.top 0
     let put := fun (t : State) (v : Word) => (t.putTop 0 v).setCC (ccWord v)
     s.hasStack 2 0 && s.canPop 2 &&
     endsWith (evalPopped p false false 0 1) s (fun l t => t.hasStack 1 0 && t.hasWord l.addr && t.hasHalf l.addr &&
       t.hasByte l.addr && done (.lsi false) (put t (t.word l.addr)) &&
       done (.lhsi false) (put t ((t.mem.half (halfAlign l.addr).toNat).signExtend 32)) &&
       done (.lbsi false) ((t.putTop 0 ((t.byte l.addr.toNat).setWidth 32)).setCC (ccByte (t.byte l.addr.toNat)))) &&
     endsWith (evalPopped p false false 4 1) s (fun l t => t.hasStack 1 1 && t.hasWord l.addr && t.hasWord (l.addr + 4#32) &&
       done (.ldsi false) (((t.putTop 0 (t.word l.addr)).pushed (t.word (l.addr + 4#32))).setCC ccG)) &&
     (let b := onTop [9, 0x40080004] segmented
      b.hasStack 2 0 && b.canPop 2 &&
      endsWith (evalPopped (b.top 1) true false 0 2) (b.putX ((b.top 0).sshiftRight 3)) (fun l t =>
        (t.popped 2).hasStack 0 1 && t.hasByte l.addr && l.addr == 0x22005 && done (.lbit true) (((t.popped 2).pushed 0).setCC ccE))) &&
     !(bare s).canPop 1) = true := by
  decide +kernel

theorem witness_pointers :
    (let s := withWords [(0x10020, 0xFFFFFFF0), (0x20010, 0x80000004), (0x12FFC, 8), (0x12FF8, 0x40), (0x12FF4, 0x80004002)]
       { base with X := 4 }
     s.hasStack 0 1 && done (.lra false true .pPlus 16) (s.pushed 0x24) && done (.lras false false .pMinus 16) (s.pushed 0) &&
     done (.lra false true .dbPlus 0) (s.pushed 0x80000004) && done (.lras false false .qPlus 0) (s.pushed 0xC0000033) &&
     decide (s.baseAddr .sbPlus 0 - s.SB.toNat + 0 = 0) && decide (s.baseAddr .dbPlus 4 - s.DB.toNat - 8 < 0) &&
     s.hasAddr 0x10020 && done (.lra true false .pPlus 16) (s.pushed 0x10) && s.hasAddr 0x20010 &&
     decide (s.baseLow .dbPlus ≤ s.baseAddr .dbPlus 16 ∧ s.baseAddr .dbPlus 16 ≤ s.baseHigh .dbPlus) &&
     done (.lra true true .dbPlus 16) (s.pushed 0x80000008) &&
     decide (s.baseHigh .dlMinus < s.baseAddr .dbPlus 4096) &&
     s.hasWord s.PL && (field (s.word s.PL) 13 19).toNat == 8 && s.hasWord (s.PL - 4) &&
     done (.lpp 4) (s.pushed 0x80004001) && done (.lpps 2) (s.pushed 0x80004002) && done (.lpp 8) (s.pushed 0x80004002)) = true := by
  decide +kernel

theorem witness_absolute :
    (let s := onTop [0x21000, 0x21004] { base with X := 4 }
     let a : Word := 0x21004
     let put := fun (t : State) (v : Word) => (t.putTop 0 v).setCC (ccWord v)
     s.privileged && s.hasStack 2 0 && s.canPop 2 && !(bare s).canPop 2 && (bare s).hasStack 2 0 && s.offStack a &&
     decide ((s.top 0).toNat < 2 ^ 29 ∧ ((s.top 0).toNat : Int) + s.X.toInt < 2 ^ 29 ∧ (s.top 1).toNat < 2 ^ 29) &&
     s.offStack 0x21008 && s.hasWord a && s.hasHalf a && s.hasByte a && done (.plda true) (put s 0) &&
     done (.psla true) (put (s.putWord a 0xFFFFFFFF) 0) && done (.plha true) (put s 0) &&
     done (.plba true) ((s.putTop 0 0).setCC (ccByte 0)) && done (.psta true) ((s.putWord 0x21008 0x21000).popped 2) &&
     done (.psha true) ((s.putHalf 0x21008 0x1000).popped 2) && done (.psba true) ((s.putByte 0x21008 0).popped 2)) = true := by
  decide +kernel

theorem witness_stores :
    (let s := onTop [0xAABBCCDD, 0x01020304] segmented
     let ok := fun (e : Effective) (t : State) => !t.tv && t.hasStack 2 0 && t.canPop 2 && t.hasWord e.addr && t.hasHalf e.addr &&
       t.hasByte e.addr && t.hasWord (e.addr + 4#32) && done (.st true false .dbPlus 8) ((t.putWord e.addr (t.top 0)).popped 1) &&
       done (.sts true false .dbPlus 2) ((t.putWord e.addr (t.top 0)).popped 1) &&
       done (.sth true false .dbPlus 8) ((t.putHalf e.addr 0xCCDD).popped 1) &&
       done (.stb true false .dbPlus 8) ((t.putByte e.addr 0xDD).popped 1) &&
       done (.std true false .dbPlus 8)
         ((((t.putWord e.addr (t.top 1))).putWord (e.addr + 4#32) ((t.putWord e.addr (t.top 1)).top 0)).popped 2)
     endsWith (effective .dbPlus 8 true false true 0) s ok && endsWith (effective .dbPlus 8 true false true 4) s ok &&
     endsWith (effective .dbPlus 8 true false true 0) s (fun _ t => t.word 0x6010 == 0x1C) &&
     trapsIn (effective .dbPlus 8 true false true 0) (s.putWord 0x6010 0) && s.mem.wf) = true := by
  decide +kernel

/-- The same with TV = 1, where the store ends in the Variable Trace trap. -/
theorem witness_traced_store :
    (let s := { onTop [0xAABBCCDD] base with STATUS := 0x80020001 }
     endsWith (effective .dbPlus 4 false false true 0) s (fun e t => t.tv && t.hasStack 1 0 && t.canPop 1 && t.hasWord e.addr &&
       trapping (.st false false .dbPlus 4) ((t.putWord e.addr (t.top 0)).popped 1))) = true := by
  decide +kernel

theorem witness_indirect_stores :
    (let s := onTop [0xAABBCCDD, 0x40080004, 0x40080008] segmented
     s.hasStack 3 0 && s.canPop 3 && !(bare s).canPop 2 && !(bare s).canPop 3 &&
     endsWith (evalPopped (s.top 1) false true 0 2) s (fun l t => !t.tv && t.hasWord l.addr && t.hasHalf l.addr &&
       t.hasByte l.addr && done (.ssi false) ((t.putWord l.addr (s.top 0)).popped 2) &&
       done (.shsi false) ((t.putHalf l.addr 0xCCDD).popped 2) && done (.sbsi false) ((t.putByte l.addr 0xDD).popped 2)) &&
     endsWith (evalPopped (s.top 2) false true 4 3) s (fun l t => !t.tv && t.hasWord l.addr && t.hasWord (l.addr + 4#32) &&
       done (.sdsi false) (((t.putWord l.addr (s.top 1)).putWord (l.addr + 4#32) (s.top 0)).popped 3)) &&
     (let b := onTop [1, 9, 0x40080004] segmented
      b.hasStack 3 0 && b.canPop 3 &&
      endsWith (evalPopped (b.top 2) true true 0 3) (b.putX ((b.top 1).sshiftRight 3)) (fun l t => !t.tv && t.hasByte l.addr &&
        t.byte l.addr.toNat == 0x22 &&
        (List.range 8).all (fun m => bit 0x62#8 m == if m = 1 then bit (b.top 0) 31 else bit 0x22#8 m) &&
        done (.sbit true) ((t.putByte l.addr 0x62).popped 3)))) = true := by
  decide +kernel

theorem witness_memory_operands :
    (let s := onTop [5] segmented
     let v := fun (e : Effective) (t : State) => t.word e.addr
     let sum := fun (e : Effective) (t : State) (k : Int) =>
       ((t.putWord e.addr (wordOf ((v e t).toInt + k))).noteOverflow (inexactWord ((v e t).toInt + k))).setCC ccG
     endsWith (effective .dbPlus 8 true false false 0) s (fun e t => t.hasStack 1 0 && t.canPop 1 && t.hasWord e.addr &&
       done (.cmpm true false .dbPlus 8) ((t.popped 1).setCC ccL)) &&
     endsWith (effective .dbPlus 8 true false true 0) s (fun e t => !t.tv && t.hasStack 0 1 && t.hasWord e.addr &&
       done (.incm true false .dbPlus 8) (sum e t 1) && done (.decm true false .dbPlus 8) (sum e t (-1)) &&
       done (.incf true false .dbPlus 8) (sum e t 4) && done (.decf true false .dbPlus 8) (sum e t (-4)) &&
       done (.seml true false .dbPlus 8) (((t.putWord e.addr 0xFFFFFFFF).pushed (v e t)).setCC ccG))) = true := by
  decide +kernel

/-! ## Hypotheses of the statements about numbers -/

/-- The hypotheses of `EndsWithResult`, with whether it is to end in the Result Trap. -/
def delivers (i : Instr) (u : State) (f : FloatFormat) (d : Delivered) (trap : Bool) : Bool :=
  (d.trap.isSome == trap) && (if trap then trapping i (u.noteResult f d) else done i (u.noteResult f d))

theorem rat_double_one : double.rat (double.unpack 0x3FF0000000000000) = 1 := by
  rw [show double.unpack 0x3FF0000000000000 = ⟨false, 1023, 0⟩ by decide +kernel]
  norm_num [FloatFormat.rat, FloatFormat.bias, double]

theorem rat_double_ten : double.rat (double.unpack 0x4024000000000000) = 10 := by
  rw [show double.unpack 0x4024000000000000 = ⟨false, 1026, 2 ^ 50⟩ by decide +kernel]
  norm_num [FloatFormat.rat, FloatFormat.bias, double]

theorem rat_double_half : double.rat (double.unpack 0x3FE0000000000000) = 1 / 2 := by
  rw [show double.unpack 0x3FE0000000000000 = ⟨false, 1022, 0⟩ by decide +kernel]
  norm_num [FloatFormat.rat, FloatFormat.bias, double]

theorem rat_double_zero : double.rat (double.unpack 0) = 0 := by
  rw [show double.unpack 0 = ⟨false, 0, 0⟩ by decide +kernel]
  norm_num [FloatFormat.rat, FloatFormat.bias, double]

theorem rat_single_one : single.rat (single.unpack 0x3F800000) = 1 := by
  rw [show single.unpack 0x3F800000 = ⟨false, 127, 0⟩ by decide +kernel]
  norm_num [FloatFormat.rat, FloatFormat.bias, single]

theorem witness_delivered :
    single.usable (single.unpack 0x3F800000) = true ∧ single.rat (single.unpack 0x3F800000) ≠ 0 ∧
    (single.deliverDyadic 192 0 ⟨1, 0⟩ false).trap = none ∧
    (single.quotient 192 0 (single.unpack 0x3F800000) (single.unpack 0x3F800000)).trap = none ∧
    single.minNormal ≤ |((1 : Int) : ℚ) * (2 : ℚ) ^ (0 : Int)| ∧ |((1 : Int) : ℚ) * (2 : ℚ) ^ (0 : Int)| ≤ single.maxFinite := by
  refine ⟨by decide +kernel, by rw [rat_single_one]; norm_num, by decide +kernel, by decide +kernel, ?_, ?_⟩
  · norm_num [FloatFormat.minNormal, FloatFormat.bias, single]
  · norm_num [FloatFormat.maxFinite, FloatFormat.bias, FloatFormat.top, single]

/-- 1 and 2, the largest double with itself, 1 and a NaN, and 1 and 0. -/
theorem witness_double_arithmetic :
    (let s := onTop [0, 0x40000000, 0, 0x3FF00000] base
     let big := onTop [0xFFFFFFFF, 0x7FEFFFFF, 0xFFFFFFFF, 0x7FEFFFFF] base
     let x := double.unpack (s.topDouble 1).toNat
     let y := double.unpack (s.topDouble 0).toNat
     let z := double.unpack (big.topDouble 0).toNat
     let put := fun (s : State) (d : Delivered) =>
       ((s.putTop 3 (hiWord (BitVec.ofNat 64 d.bits))).putTop 2 (loWord (BitVec.ofNat 64 d.bits))).popped 2
     s.hasStack 4 0 && s.canPop 2 && double.usable x && double.usable y &&
     delivers .fadd (put s (double.addition 1536 0 x y)) double (double.addition 1536 0 x y) false &&
     delivers .fsub (put s (double.subtraction 1536 0 x y)) double (double.subtraction 1536 0 x y) false &&
     delivers .fmpy (put s (double.product 1536 0 x y)) double (double.product 1536 0 x y) false &&
     delivers .fdiv (put s (double.quotient 1536 0 x y)) double (double.quotient 1536 0 x y) false &&
     delivers .fmpy (put big (double.product 1536 0 z z)) double (double.product 1536 0 z z) true &&
     big.hasStack 4 0 && big.canPop 2 && !(bare s).canPop 2 && !double.usable (double.unpack 0x7FF8000000000000) &&
     trapping .fadd (onTop [0, 0x7FF80000] s) && decide (double.classify (double.unpack 0) = .zero) && trapping .fdiv s) = true := by
  decide +kernel

theorem witness_single_arithmetic :
    (let s := onTop [0x40000000, 0x3F800000] base
     let x := single.unpack 0x3F800000
     let y := single.unpack 0x40000000
     let put := fun (d : Delivered) => (s.putTop 1 (BitVec.ofNat 32 d.bits)).popped 1
     s.hasStack 2 0 && s.canPop 1 && single.usable x && single.usable y &&
     delivers .fads (put (single.addition 192 0 x y)) single (single.addition 192 0 x y) false &&
     delivers .fsbs (put (single.subtraction 192 0 x y)) single (single.subtraction 192 0 x y) false &&
     delivers .fmps (put (single.product 192 0 x y)) single (single.product 192 0 x y) false &&
     delivers .fdvs (put (single.quotient 192 0 x y)) single (single.quotient 192 0 x y) false &&
     !(bare s).canPop 1 && (bare s).hasStack 2 0 && !single.usable (single.unpack 0x7F800000) && trapping .fads s) = true := by
  decide +kernel

theorem witness_negate_compare_test :
    (let s := onTop [0, 0x3FF00000, 0, 0x40000000] base
     let t := onTop [0x3F800000, 0x40000000] base
     let nan := onTop [0, 0x7FF80000, 0, 0x40000000] base
     s.hasStack 4 0 && s.canPop 4 && nan.hasStack 4 0 && nan.canPop 4 && double.usable (double.unpack (s.topDouble 0).toNat) &&
     double.usable (double.unpack (s.topDouble 1).toNat) && single.usable (single.unpack (t.top 0).toNat) &&
     single.usable (single.unpack (t.top 1).toNat) && done .fneg (((s.putTop 1 0xBFF00000).putTop 0 0).setCC ccL) &&
     done .fngs ((t.putTop 0 0xBF800000).setCC ccL) && ready (.ftst true) s 2 0 2 ((s.popped 2).setCC ccG) &&
     ready (.ftss true) t 1 0 1 ((t.popped 1).setCC ccG) && ready (.fcmp true) s 4 0 4 ((s.popped 4).setCC ccG) &&
     ready (.fcmp false) s 4 0 2 ((s.popped 2).setCC ccG) && ready (.fcps false) t 2 0 1 ((t.popped 1).setCC ccG) &&
     !double.usable (double.unpack (nan.topDouble 0).toNat) && trapping .fneg nan && trapping (.ftst true) nan &&
     trapping (.fcmp false) nan && !single.usable (single.unpack 1) && trapping .fngs t && trapping (.fcps true) t) = true := by
  decide +kernel

theorem witness_conversions :
    (let s := onTop [1] base
     let d := single.deliverDyadic 0 0 { mant := 1, exp := 0 } false
     let q := onTop [0x3F800000] base
     let y := onTop [0, 0x3FF00000] base
     s.hasStack 1 1 && done .flts ((s.putTop 0 (BitVec.ofNat 32 d.bits)).noteResult single d) &&
     ready .fltd s 1 1 0 (((s.putTop 0 0x3FF00000).pushed 0).setCC ccG) && single.usable (single.unpack (q.top 0).toNat) &&
     done (.fixs true) ((q.putTop 0 1).setCC ccG) && y.hasStack 2 0 && y.canPop 1 &&
     double.usable (double.unpack (y.topDouble 0).toNat) && ready (.fixd false) y 2 0 1 (((y.putTop 1 1).popped 1).setCC ccG) && short (bare y) 2 0 1 &&
     !single.usable (single.unpack 0x7F800000) && trapping (.fixs false) s && trapping (.fixd false) y &&
     q.hasStack 1 1 && done .csdf ((((q.pushed 0).putTop 1 0x3FF00000).putTop 0 0).setCC ccG) && trapping .csdf (q.pushed 0) &&
     (single.deliverDyadic 0 0 (double.value (double.unpack 0x3FF0000000000000)) false).trap.isNone &&
     (single.deliverDyadic 0 0 (double.value (double.unpack 0x7FEFFFFFFFFFFFFF)) false).trap.isSome && trapping .cdsf y &&
     ready .cdsf y 2 0 1 (((y.putTop 1 0x3F800000).popped 1).noteResult single d) && done (.srm false 3) (base.setRM 3) &&
     ready (.srm true 0) s 1 0 1 ((s.popped 1).setRM 1)) = true := by
  decide +kernel

/-- The numbers that FLTD and CSDF must leave: 1 as a double, for the integer 1 and for the single 1. -/
theorem witness_conversion_values :
    double.rat (double.unpack (0x3FF0000000000000#64).toNat) = ((1#32).toInt : ℚ) ∧
      double.rat (double.unpack (0x3FF0000000000000#64).toNat) = single.rat (single.unpack (0x3F800000#32).toNat) := by
  constructor
  · rw [show (0x3FF0000000000000#64).toNat = 0x3FF0000000000000 from rfl, rat_double_one]; norm_num
  · rw [show (0x3FF0000000000000#64).toNat = 0x3FF0000000000000 from rfl, rat_double_one,
      show (0x3F800000#32).toNat = 0x3F800000 from rfl, rat_single_one]

theorem digits_intro (k v n : Nat)
    (h : (decide (n < 10 ^ k) && (List.range k).all fun j => v / 16 ^ j % 16 == n / 10 ^ j % 10) = true) : Digits k v n := by
  simp only [Bool.and_eq_true, decide_eq_true_eq, List.all_eq_true, List.mem_range, beq_iff_eq] at h
  exact ⟨h.1, h.2⟩

/-- 99999999 + 1 = 0 with a carry, 0 - 1 = 99999999 with a borrow. -/
theorem witness_decimal_digits :
    Digits 8 0x99999999 99999999 ∧ Digits 8 0x1 1 ∧ Digits 8 0 0 ∧ ((0 : Nat) : Int) = (99999999 + 1 + 0) % 100000000 ∧
      ((99999999 : Nat) : Int) = (0 - 1 - 0) % 100000000 := by
  refine ⟨digits_intro _ _ _ (by decide +kernel), digits_intro _ _ _ (by decide +kernel),
    digits_intro _ _ _ (by decide +kernel), by decide, by decide⟩

theorem witness_decimal_states :
    (let s := onTop [1, 0x99999999] base
     let z := onTop [1, 0] base
     ready (.dlad false) s 2 0 1 ((((s.putTop 1 0).popped 1).setCarry true).setCC ccE) &&
     ready (.dlsb false) z 2 0 1 ((((z.putTop 1 0x99999999).popped 1).setCarry false).setCC ccG) &&
     (let w := onTop [0xA0000000, 1] base
      w.hasStack 2 0 && w.canPop 1 && decide (9 < (w.top 0).toNat / 16 ^ 7 % 16))) = true := by
  decide +kernel

/-- The bounds of the exponent range of DTB and POT, a BCD number of DTB, and the numbers 0, 1/2, 1 and 10 of BTD. -/
theorem witness_decimal_conversions :
    (let s := onTop [307] base
     let n := onTop [0x56000, 0x12345678, 0x18001] base
     let d := double.deliverDyadic 0 0 { mant := -80011234567800056, exp := 0 } false
     let one := onTop [0, 0x3FF00000, 5] base
     let pair := fun (s : State) (ab : DWord × DWord) =>
       ((((s.putTop 0 (hiWord ab.1)).pushed (loWord ab.1)).pushed (hiWord ab.2)).pushed (loWord ab.2)).setCC 0b00#2
     s.hasStack 1 3 && decide ((field (onTop [0x4CC00000] base |>.top 0) 0 10).toInt = 307) &&
     decide ((field (onTop [0x4D000000] base |>.top 0) 0 10).toInt = 308) && decide ((s.top 0).toInt = 307) &&
     done .pot (pair s (Config.powerPair s.cfg 307)) && done (.dtb true) (pair s (Config.powerPair s.cfg 291)) &&
     d.trap.isNone && ready (.dtb false) n 3 0 1 ((((n.popped 1).putTop 1 0).putTop 0 0).noteResult double d) &&
     one.hasStack 3 0 && one.canPop 2 && double.usable (double.unpack (one.topDouble 0).toNat) &&
     decide (-512 < (one.top 2).toInt ∧ (one.top 2).toInt < 511) && ready (.btd true) one 2 0 1 (((one.putTop 1 0).popped 1).setCC ccE) &&
     ready (.btd false) one 3 0 2 (((one.popped 2).putTop 0 4).setCC ccL) &&
     ready (.btd false) one 3 0 2 (((one.popped 2).putTop 0 6).setCC ccG) &&
     done (.btd false) ((((one.putTop 2 0).putTop 1 0).putTop 0 0).setCC ccE) &&
     done (.btd false) ((((one.putTop 2 0x01401000).putTop 1 0).putTop 0 0).setCC ccE) &&
     decide (field 0x01401000#32 0 10 = field 5#32 22 10) && decide (field 0x01401000#32 10 5 = 0) &&
     !bit 0x01401000#32 15 && !double.usable (double.unpack 0x7FF8000000000000) && trapping (.btd true) one &&
     decide (9 < (field 0x800A#32 16 16 ++ 0#32 ++ field 0#32 0 20).toNat / 16 ^ 13 % 16)) = true := by
  decide +kernel

theorem witness_btd_values :
    Digits 17 (field 0x01401000#32 16 16 ++ 0#32 ++ field 0#32 0 20).toNat ⌊|double.rat (double.unpack 0x3FF0000000000000)| * 10 ^ 16⌋.toNat ∧
    1 ≤ |double.rat (double.unpack 0x3FF0000000000000)| ∧ |double.rat (double.unpack 0x3FF0000000000000)| < 10 ∧
    (10 : ℚ) ^ ((0 : Int) - 0) ≤ |double.rat (double.unpack 0x3FF0000000000000)| ∧
    |double.rat (double.unpack 0x3FF0000000000000)| < (10 : ℚ) ^ ((0 : Int) - 0 + 1) ∧
    10 ≤ |double.rat (double.unpack 0x4024000000000000)| ∧ double.rat (double.unpack 0x3FE0000000000000) ≠ 0 ∧
    |double.rat (double.unpack 0x3FE0000000000000)| < 1 ∧ double.rat (double.unpack 0) = 0 := by
  rw [rat_double_one, rat_double_ten, rat_double_half, rat_double_zero]
  refine ⟨?_, by norm_num, by norm_num, by norm_num, by norm_num, by norm_num, by norm_num, ?_, rfl⟩
  · rw [show ⌊|(1 : ℚ)| * 10 ^ 16⌋.toNat = 10 ^ 16 by norm_num; rfl]
    exact digits_intro _ _ _ (by decide +kernel)
  · rw [abs_of_pos] <;> norm_num

/-- The default power pairs for 2, -1 and -308: 100 and 1, 1 and 10, 1 and the double nearest to 10^308. -/
theorem witness_default_powers :
    base.cfg.powers = [] ∧ Config.powerPair base.cfg 2 = (0x4059000000000000, 0x3FF0000000000000) ∧
      Config.powerPair base.cfg (-1) = (0x3FF0000000000000, 0x4024000000000000) ∧
      Config.powerPair base.cfg (-308) = (0x3FF0000000000000, 0x7FE1CCF385EBC8A0) := by
  decide +kernel

/-- The 17 digits of DTB's number. -/
theorem witness_dtb_digits :
    Digits 17 (field 0x18001#32 16 16 ++ 0x12345678#32 ++ field 0x56000#32 0 20).toNat 80011234567800056 :=
  digits_intro _ _ _ (by decide +kernel)

/-! ## Hypotheses of the statements about control -/

/-- The hypotheses of `BranchesIf` on the side that branches or completes. -/
def branches (i : Instr) (s u : State) (take : Bool) (disp : Int) (ind : Bool) : Bool :=
  let loc : Int := s.P.toNat + disp
  if !take then done i u
  else if !ind then lands u (wordOf loc)
  else decide ((s.PB.toNat : Int) ≤ loc ∧ loc ≤ s.PL.toNat + 3) && s.hasWord (wordOf loc) &&
    lands u (wordOf (loc + (s.word (wordOf loc)).toInt))

/-- The hypotheses of `TransfersThrough` on the side that transfers. -/
def transfers (s : State) (p : Word) (kind : TransferKind) (v : State → State) : Bool :=
  endsWith (planTransfer p kind) s fun g t => endsWith (commitTransfer g) (v t) fun _ u => lands u g.target

/-- The computation ends in a transfer and nothing else. -/
def jumps (m : M End) (s : State) : Bool :=
  endsWith m s fun e u => match e with
    | { jump := some a, own := none, trace := none, user := none, stay := false } => lands u a
    | _ => false

/-- `base` with a code segment table of segments 1 and 2, and the STTs of both. -/
def linked : State :=
  withWords [(0, 0x1000), (0x1000, 0x50), (0x1010, 0x80000), (0x1014, 0x2FFF), (0x1018, 0x10000), (0x1020, 0x00100000),
    (0x1024, 0x7FF), (0x1028, 0xA000), (0xA7FC, 0x10), (0xA7F8, 0x40), (0x12FFC, 0x10), (0x12FF8, 0x40),
    (0x12FF4, 0x80004002)] base

theorem witness_conditional_branches :
    (let s := (withWords [(0x1000C, 0xFFFFFFF8)] base).setCarry true
     branches (.bcc true 4 true 4) s s true (-4) true && branches (.bcc false 3 false 0x7FFFF) s s false 0x7FFFF false &&
     branches (.bccs true 4 true 2) s s true (-4) true && branches (.bcy false false 63) s (s.setCarry false) true 126 false &&
     branches (.bnc false false 1) s (s.setCarry false) false 2 false && branches (.bov true false 1) s (s.setO false) false 2 true &&
     branches (.bno false true 1) s (s.setO false) true (-2) false && branches (.bun false true 1) s s false (-2) false &&
     decide ((s.P.toNat : Int) - 0x12 < s.PB.toNat) && s.hasAddr (s.P.toNat - 4)) = true := by
  decide +kernel

theorem witness_stack_branches :
    (let s := onTop [0, 3, 5] base
     let in3 := onTop [9, 3, 5] base
     s.hasStack 3 0 && s.canPop 2 && !(bare s).canPop 2 && !(bare s).canPop 1 && (bare s).hasStack 3 0 &&
     branches (.brz false false 1) s (s.popped 1) true 2 false && branches (.bre false false 1) s (s.popped 1) true 2 false &&
     branches (.bro false false 1) s (s.popped 1) false 2 false && trapping (.crb false false 0) (s.setCC 0b10) &&
     branches (.crb false false 1) s ((s.popped 2).setCC 0b00) true 2 false && in3.hasStack 3 0 && in3.canPop 2 &&
     done (.crb false false 0) ((in3.popped 2).setCC 0b10) && !s.inexact && done (.bir false false 0) s &&
     trapping (.bir false false 0) ((s.setInexact true).setInexact false) &&
     branches (.bir false false 1) (s.setInexact true) ((s.setInexact true).setInexact false) true 2 false) = true := by
  decide +kernel

theorem witness_unconditional_branches :
    (let s := onTop [0x40, 0x80004002] (withWords [(0x10010, 0x10), (0x20000, 0x80004002)] { linked with X := 0xFFFFFFFC })
     lands s 0x10020 && s.hasAddr 0x10010 &&
     decide (s.baseLow .pPlus ≤ s.baseAddr .pPlus 0 ∧ s.baseAddr .pPlus 0 ≤ s.baseHigh .pPlus) &&
     decide (s.baseAddr .dbPlus 0 - 4 < s.baseLow .dbPlus) && decide (s.baseLow .dbPlus ≤ s.baseAddr .dbPlus 0) &&
     decide (s.baseAddr .dbPlus 0 ≤ s.baseHigh .dbPlus) && s.hasAddr 0x20000 && transfers s 0x80004002 .branch id &&
     transfers s 0x40 .branch id && trapsIn (planTransfer 0x80004006 .branch) s && s.hasWord s.S && s.hasWord 0x3005F &&
     s.canPop 1 && transfers s 0x40 .branch (·.popped 1) && transfers s 0x80004002 .branch (·.popped 1) &&
     decide ({ s with SB := s.S + 1 }.S.toNat < { s with SB := s.S + 1 }.SB.toNat) && !(bare s).canPop 1) = true := by
  decide +kernel

/-- A transfer from segment 1 to segment 2, a call in segment 2, one from segment 0, and each test that can fail. -/
theorem witness_external_pointer :
    (let s := linked
     let p : Word := 0x80004002
     let user : State := { s with STATUS := 1 }
     let zero : State := { s with STATUS := 0x00020000 }
     let two : State := { s with STATUS := 0x00020002 }
     let w0 := s.word 0x1020
     let plan := planTransfer p .branch
     let callUser := planTransfer p .call
     s.mem.wf && s.hasCst 2 && namesEntry 2 && s.cstWithin 2 && (s.cstOf 2 == 0x1020) && decide (s.limitAt 0x1020 = 0xA7FC) &&
     decide ((s.word 0x1028).toNat < 2 ^ 29) &&
     s.hasAddr 0xA7FC && s.hasAddr 0xA7F8 && !bit w0 0 && s.canLeave 1 2 && transfers s p .branch id && transfers two p .call id &&
     transfers zero p .branch id && transfers s 0x80000002 .branch id && s.hasCst 1024 && !namesEntry 1024 &&
     fails (planTransfer 0x80000400 .branch) s .externalProgramPointer none && s.hasCst 6 && !s.cstWithin 6 &&
     fails (planTransfer 0x80000006 .branch) s .cstViolation none &&
     fails plan (s.putWord 0x1020 (w0 ||| 1)) .absentCodeSegment (some 2) &&
     fails plan (user.putWord 0x1020 (w0 ||| 2)) .privilegedMode (some 2) &&
     fails (planTransfer 0x80011002 .branch) s .sttViolation (some 1) &&
     fails plan (s.putWord 0xA7F8 0x80000000) .sttViolation (some 2) &&
     fails callUser (user.putWord 0xA7F8 0x40000040) .uncallableProcedure none &&
     fails plan (s.putWord 0x1020 0x7FF80000) .systemError (some 1) && fails plan (s.putWord 0x1010 0) .systemError (some 1) &&
     fails plan (zero.putWord 0x1020 0x7FF80000) .systemError (some 1)) = true := by
  decide +kernel

theorem witness_debug_aids :
    (let s := onTop [5] base
     let all : State := { s with STATUS := 0x78020001, FLAGS := 0xFF }
     let solc := s.putWord 0x30004 1
     done .nop s && !s.startLine && done (.sol 1) s && all.startLine && trapping (.sol 1) all &&
     done (.sop 1) { s with STATUS := s.STATUS &&& 0x07FFFFFF } && all.overallDebug &&
     trapping (.sop 1) { all with STATUS := 0x00020001 } && done .eop s && all.endProc && trapping .eop all && done (.sos 1) s &&
     all.startSub && trapping (.sos 1) all && done .eos s && all.endSub && trapping .eos all && decide (s.Q ≠ s.S) &&
     s.hasWord 0x30037 && s.hasWord 0x30004 && done (.solc 1) (s.putWord (s.Q + 4) 0x10) &&
     ((solc.putWord (solc.Q + 4) 0x10).word 0x30004 != 0) && trapping (.solc 1) (solc.putWord (solc.Q + 4) 0x10) &&
     s.hasStack 1 0 && done (.chek 5 5) s && trapping (.chek 6 9) s && trapping (.chek 0 4) s) = true := by
  decide +kernel

/-- STOP and WAIT, the sleeping CPU asleep and awake, with a table entry to give back and without. -/
theorem witness_stop_and_wait :
    (let s := onTop [0] { base with SB := 0x30000 }
     let up : State := { s with MSG := 0x00080000 }
     let held : State := { up with owned := [(0x1010, 5)] }
     let awake := fun t : State => (t.MSG &&& ~~~ t.MASK &&& 0xE3FFFFFF) != 0
     let woken := fun t : State =>
       { t.regained with MASK := 0x04000000, STATUS := 0x00020001, run := .running, P := s.P + 2, prevDup := false }
     s.privileged && s.hasWord (s.SB - 4) && s.hasStack 1 0 && s.canPop 1 && !awake s && awake up && awake held && s.owned.isEmpty &&
     (woken up).quiet && (woken held).quiet && nextIs (cpuStep { held with run := .sleeping 0x04000000 0x00020001 })
       (fun t => (t.word 0x1010 == 5) && t.owned.isEmpty && (t.P == s.P + 2)) &&
     s.poll.isNone && done (.wait true) ((({ s with debugPad5 := true }).putTop 0 0).setPending false)) = true := by
  decide +kernel

theorem witness_calls :
    (let s := onTop [0x80004002] linked
     let here := fun (len : Word) (t : State) => t.marked (s.P + len)
     s.hasStack 1 4 && s.canPop 1 && s.hasWord s.PL && (field (s.word s.PL) 13 19 == 16) && s.hasWord (s.PL - 4) &&
     s.hasWord (s.PL - 8) && transfers s (s.word (s.PL - 4)) .call (here 4) && transfers s (s.word (s.PL - 8)) .call (here 2) &&
     transfers s (s.top 0) .call (fun t => here 4 (t.popped 1)) && transfers s (s.top 0) .call (fun t => here 2 (t.popped 1)) &&
     decide ((field (s.word s.PL) 13 19).toNat < (20 : BitVec 19).toNat) &&
     trapsIn (planTransfer 0x80004006 .call) s) = true := by
  decide +kernel

theorem witness_exits :
    (let s := onTop [0x40] (withWords [(0x30030, 0x20), (0x3002C, 0x00020001), (0x30028, 0x40), (0x30024, 5)] base)
     let user : State := { s with STATUS := 1 }
     [s.Q, s.Q - 4, s.Q - 8, s.Q - 12].all (fun a => s.hasWord a) && (field (s.word (s.Q - 4)) 20 12 == s.csn) &&
     decide (((s.Q - 0x20).toNat : Int) ≤ s.Q.toNat - 16 - 16) && decide ((s.Q.toNat : Int) - 16 - 20 < (s.Q - 0x20).toNat) &&
     lands { s with Q := s.Q - 0x20, STATUS := 0x00020001, X := 5, S := s.Q - 16 - 4 * 4 } 0x10040 &&
     !user.privileged && bit (s.word (s.Q - 4)) 14 && bit 0x00040001#32 13 && !bit 0x00040001#32 14 && !user.interruptEnable &&
     bit 0x00400001#32 9 && s.hasStack 1 0 && s.canPop 12 && !s.canPop 13 && lands (s.popped 12) 0x10040) = true := by
  decide +kernel

/-- EXIT from segment 1 to segment 2, to segment 0, from segment 0 to segment 2, and each test that can fail. -/
theorem witness_exit_to_segment :
    (let m : Word := base.Q
     let s := withWords [(m, 0x20), (m - 4, 0x00020002), (m - 8, 0x40), (m - 12, 5)] linked
     let zero := s.putWord (m - 4) 0x00020000
     let user : State := { s.putWord (m - 4) 0 with STATUS := 1 }
     let from0 : State := { s with STATUS := 0x00020000 }
     let plan := planSegment 2 false
     let leave := fun (u : State) (c : BitVec 12) => endsWith (planSegment c false) u fun g t =>
       endsWith (commitSegment g) t fun _ v =>
         lands { v with Q := m - 0x20, STATUS := s.word (m - 4), X := 5, S := m - 16 } (v.PB + 0x40)
     s.mem.wf && (List.range 4).all (fun k => s.hasWord (m - BitVec.ofNat 32 (4 * k))) && s.privileged && (s.csn == 1) &&
     s.hasCst 2 && s.cstWithin 2 && !bit (s.word 0x1020) 0 && decide (s.limitAt 0x1020 = 0xA7FC) && s.canLeave 1 2 &&
     decide ((s.word 0x1028).toNat < 2 ^ 29) &&
     zero.isCounted 1 && leave s 2 && leave zero 0 && leave from0 2 && decide ((m - 0x20).toNat ≤ m.toNat - 16) &&
     decide ((m.toNat : Int) - 16 - 4 * 255 < (m - 0x20).toNat) && !user.privileged && !user.interruptEnable &&
     fails (planSegment 0 true) user .externalProgramPointer none && fails (planSegment 1024 false) s .externalProgramPointer none &&
     fails (planSegment 6 false) s .cstViolation none && fails plan (s.putWord 0x1020 1) .absentCodeSegment (some 2) &&
     fails plan (s.putWord 0x1010 0) .systemError (some 1) && fails plan (s.putWord 0x1020 0x7FF80000) .systemError (some 1) &&
     fails plan (from0.putWord 0x1020 0x7FF80000) .systemError (some 1) &&
     fails (planSegment 0 false) (s.putWord 0x1010 0) .systemError (some 1)) = true := by
  decide +kernel

/-- `linked` with the block of CPU channel 1, an interrupt stack at 0x500A3, and a task at 0x7000. -/
def tasked : State :=
  withWords [(0x10, 0), (0x14, 0x7000), (0x18, 0x500A3), (0x1C, 0x50FFF), (0x50090, 1), (0x500A0, 0x80000000),
    (0x500A4, 0x80020000), (0x5009C, 0x00020001), (0x50094, 7), (0x50098, 0x40), (0x7004, 0x6000), (0x7008, 0x08010802),
    (0x6000, 0x30), (0x6010, 0x10), (0x6014, 0xCF), (0x6018, 0x22000), (0x6020, 0x00080010), (0x6024, 0x1FF), (0x6028, 0x23000),
    (0x22000, 0x10), (0x22004, 0xCF), (0x2200C, 0x3F), (0x2204C, 0x20), (0x22048, 0x00020001), (0x22044, 0x100), (0x22040, 7)]
    { linked with DST := 0x6000 }

theorem witness_dispatcher :
    (let s := tasked
     let t := s.putWord 0x50093 0
     let start := fun (u : State) (deep : Bool) =>
       let m := (u.setCC 0b10).marked (u.P + 2)
       decide (deep = decide (u.SL.toNat < m.S.toNat)) && endsWith loadIcs (m.putWord (u.SB - 4) (m.S - u.SB)) fun _ d =>
         if deep then d.hasWord (d.Q + 8) && endsWith overflowFrame (d.putWord (d.Q + 8) d.MASK) fun _ d' =>
           jumps (startDispatcher true) d' else jumps (startDispatcher false) d
     s.privileged && decide ((s.word 0x18).toNat < 2 ^ 29) && s.mem.wf && s.hasWord 0x18 && s.hasWord 0x50093 && s.hasWord 0x500A3 && (s.word 0x50093 == 1) &&
     (wordAlign 0x18 != wordAlign 0x50093) && bit (s.word 0x500A3) 0 && bit (t.word 0x500A3) 0 && done .psdb (s.putWord 0x50093 2) &&
     done .disp ((s.putWord 0x500A3 (setBit (s.word 0x500A3) 0 true)).setCC 0b00) && (t.word 0x50093 == 0) &&
     done .pseb ((s.putWord 0x50093 1).setCC 0b01) && done .pseb ((t.putWord 0x500A3 0x80000000).setCC 0b00) &&
     jumps (startDispatcher false) { t with dispFlag := true, icsFlag := true, SB := 0x4FFA0, SL := 0x50FFF } && !t.icsFlag &&
     t.hasStack 0 4 && t.hasWord (t.SB - 4) && start t false && start { t with SL := t.S } true) = true := by
  decide +kernel

/-- A stack, a global and an external pointer for DB and DL, and the dispatcher's frame of `tasked`. -/
theorem witness_dispatcher_context :
    (let s := tasked
     let qi : Word := 0x500A3
     let above : State := { s with Q := 0x500BF }
     let started := fun (s t : State) => endsWith (setDbDl (t.word (qi + 4))) t (fun _ v =>
       let v' := v.putWord s.SB (t.word (qi + 4))
       endsWith (planSegment (field (v'.word (qi - 4)) 20 12) false) v' (fun c w => endsWith (commitSegment c) w (fun _ _ => true)))
     s.hasWord 0x18 && s.hasWord 0x1C && decide (259 ≤ qi.toNat ∧ qi.toNat < 2 ^ 29 ∧ (s.word 0x1C).toNat < 2 ^ 29) && (field 0xC0025000#32 30 2 == 0) &&
     decide (0x25000 + 4096 < 2 ^ 29) && endsWith (setDbDl 0xC0025000) s (fun _ t => (t.DB == 0x25000) && (t.DL == 0x26000)) &&
     endsWith (setDbDl 0x80025000) s (fun _ t => (t.DB == 0x25000) && (t.DL == 0x1FFFFFFF)) && (field 0x40100000#32 1 12 == 0x802) &&
     s.hasWord 0x6000 && decide (32 ≤ (s.word 0x6000).toNat) && [(0x6020 : Word), 0x6024, 0x6028].all (fun a => s.hasWord a) &&
     !bit (s.word 0x6020) 31 && !bit (s.word 0x6020) 26 && endsWith (setDbDl 0x40100000) s (fun _ t => t.DL == 0x231FF) &&
     [qi, qi + 4, qi - 4, qi - 8, qi - 12, s.SB].all (fun a => s.hasWord a) &&
     started s { s.putWord qi 0 with Q := qi } && started above (above.putWord qi 0) &&
     endsWith (startDispatcher true) above (fun _ t => (t.Q == 0x500BF) && !t.dispFlag && (t.S == 0x500CB))) = true := by
  decide +kernel

/-- The task of `tasked`, and the same with a stack whose SL is not 3 modulo 4. -/
theorem witness_return_to_process :
    (let s := tasked
     let i : State := { s.putWord 0x22004 0xCC with icsFlag := true, dispFlag := true, Q := 0x500A3, S := 0x500AF, SB := 0x4FFA0, SL := 0x50FFF }
     let usable := fun (e : Word) => [e, e + 4, e + 8].all (fun a => s.hasWord a) && !bit (s.word e) 31 && !bit (s.word e) 26
     [(0x10 : Word), 0x14, 0x7000, 0x7004, 0x7008, 0x22000, 0x22004, 0x6000].all (fun a => s.hasWord a) &&
     (field (s.word 0x7008) 20 12 == 0x802) && (field (s.word 0x7008) 4 12 == 0x801) && decide (32 ≤ (s.word 0x6000).toNat) &&
     usable 0x6010 && usable 0x6020 && (s.word 0x22000 == 0x10) && (s.word 0x22004 == 0xCF) && (s.word 0x2200C == 0x3F) &&
     decide (0x22010 % 4 = 0 ∧ (0x22010 + 0x3F) % 4 = 3 ∧ (0x22010 + 0xCF) % 4 = 3 ∧ (0x22010 + 0xCC) % 4 ≠ 3) && s.hasAddr (0x22010 - 4) &&
     i.privileged && decide (i.cfg.rev = .fixed) && fails returnToProcess { i with dispFlag := false } .inconsistentRegisters (some i.CIR) &&
     jumps returnToProcess { s with icsFlag := true }) = true := by
  decide +kernel

/-- IXIT to the process of the task, to the dispatcher, and to a lower frame of the interrupt stack at 0x500D3. -/
theorem witness_interrupt_exit :
    (let s := withWords [(0x500AC, 0x04000000), (0x500A8, 0x04000000), (0x500D0, 0x30), (0x500CC, 0x00020001), (0x500C8, 0x40),
         (0x500C4, 3), (0x500D4, 0x80020000), (0x500D8, 0x04000000), (0x50090, 0), (0x500A0, 0)]
       { tasked with icsFlag := true, Q := 0x500A3, S := 0x500AF, SB := 0x4FFA0, SL := 0x50FFF }
     let f : State := { s with Q := 0x500D3, S := 0x500DF }
     let asked := (s.putWord 0x500A3 0x80000000)
     s.privileged && decide (s.cfg.rev = .fixed) && [(0x18 : Word), 0x500AB, 0x500A3, 0x500D3, 0x500DB, 0x50093].all (fun a => s.hasWord a) &&
     bit (asked.word asked.Q) 0 && decide ((s.word 0x18).toNat < 2 ^ 29) && !bit (f.word f.Q) 0 &&
     jumps returnToProcess { s with dispFlag := false } && (field (s.word s.Q) 1 31 == 0) &&
     (bit (asked.word 0x500A3) 0 && asked.word 0x50093 == 0) && jumps (startDispatcher false) { asked with MASK := 0x04000000 } &&
     (field (f.word f.Q) 1 31 != 0) && f.hasWord f.SB && f.hasWord (f.Q + 4) &&
     (let t := { f with MASK := 0x04000000 }.putWord f.Q (setBit (f.word f.Q) 0 false)
      endsWith (setDbDl (t.word (f.Q + 4))) t (fun _ v => jumps (exitCore 0 false) (v.putWord f.SB (t.word (f.Q + 4)))))) = true := by
  decide +kernel

/-! ## Hypotheses of the statements about moves and strings -/

/-- `areaIn` as a computation. -/
def areaInB (s : State) (code : Bool) (p : Word) (d : Bool) (n : Nat) : Bool :=
  (bit p 0 == !code) && (List.range (max n 1)).all fun k => decide (
    (if code then s.PB else if bit p 1 then s.SB else s.DB).toNat ≤ s.areaAt code p d k ∧
    s.areaAt code p d k ≤ (if code then (s.PL.toNat : Int) + 3 else if bit p 1 then (s.S.toNat : Int) else (s.DL.toNat : Int)) ∧
    (code = true → s.areaAt code p d k < 2 ^ 29) ∧
    (k < n → s.freeByte (wordOf (s.areaAt code p d k)) = true))

theorem areaIn_intro {s : State} {code : Bool} {p : Word} {d : Bool} {n : Nat} (h : areaInB s code p d n = true) :
    s.areaIn code p d n := by
  unfold areaInB at h
  simp only [Bool.and_eq_true, List.all_eq_true, List.mem_range, decide_eq_true_eq, beq_iff_eq] at h
  exact ⟨h.1, fun k hk => h.2 k (by omega)⟩

/-- Three bytes of the globals to the third byte after them, parameters on top of the stack. -/
def moving : State := onTop [3, 0x80000003, 0x80000000] (withWords [(0x20000, 0x41424344)] { base with S := 0x30083 })

theorem witness_move_bytes :
    ∃ u, MoveResult moving false false 3 u ∧ moving.tv = false ∧ done (.mvb false true 3) u = true := by
  refine ⟨_, ⟨by decide +kernel, by decide +kernel, areaIn_intro (by decide +kernel), areaIn_intro (by decide +kernel), rfl⟩, ?_, ?_⟩ <;>
    decide +kernel

/-- A move down from the code segment with nothing to move, and one whose count is negative. -/
theorem witness_move_nothing :
    ∃ u, MoveResult (onTop [0xFFFFFFFF, 0x80000003, 0] moving) true true 0 u ∧ done (.mvb true false 0) u = true := by
  refine ⟨_, ⟨by decide +kernel, by decide +kernel, areaIn_intro (by decide +kernel), areaIn_intro (by decide +kernel), rfl⟩, ?_⟩
  decide +kernel

theorem witness_absolute_move :
    (let s := onTop [3, 0x20008, 0x20000] moving
     s.fresh && s.canPop 3 && s.privileged && (List.range 3).all (fun k => s.freeByte (0x20000 + BitVec.ofNat 32 k) &&
       s.offStack (0x20000 + BitVec.ofNat 32 k) && s.freeByte (0x20008 + BitVec.ofNat 32 k) && s.offStack (0x20008 + BitVec.ofNat 32 k)) &&
     done (.pmva false 3) (s.moved false 3 3)) = true := by
  decide +kernel

theorem witness_translate_and_fill :
    (onTop [2, 0x80000000, 0x80000100] moving).areaIn false 0x80000100 false 256 ∧
    (onTop [2, 0x80000000, 0x80000100] moving).areaIn false 0x80000000 false 2 ∧
    (onTop [2, 0x80000000, 0x41] moving).areaIn false 0x80000000 false 2 ∧
    (let s := onTop [2, 0x80000000, 0x80000100] moving
     s.fresh && s.canPop 3 && !s.tv && done (.tran false true 3) (s.moved false 3 2) && done (.filb 3) (s.moved false 3 2) &&
     done (.filb 3) (((s.putX 0).popped 3).setPending false) && decide ((0xFFFFFFFF#32).toInt ≤ 0)) = true := by
  refine ⟨areaIn_intro (by decide +kernel), areaIn_intro (by decide +kernel), areaIn_intro (by decide +kernel), by decide +kernel⟩

/-- The second of the bytes ABCD differs from A; C and D are looked for; AB is compared with AC. -/
theorem witness_scans :
    moving.areaIn false 0x80000000 false 3 ∧ moving.areaIn false 0x80000003 false 3 ∧
    (let s := moving
     let src := fun k : Nat => s.byte (s.areaByte false 0x80000000 false k)
     s.fresh && s.canPop 3 && s.mem.wf && (src 0 == 0x41) && (src 1 != 0x41) && (src 0 != 0x43) && (src 1 != 0x44) && (src 2 == 0x43) &&
     (src 0 != s.byte (s.areaByte false 0x80000003 false 0)) && done (.scw false true 3) (((s.putTop 1 0).setCC ccE).moved false 3 1) &&
     done (.scu false true 3) (((s.putTop 1 0).setCC ccE).moved false 3 2) && done (.cmpb false true 3) ((s.setCC 0b01).moved false 3 0)) = true := by
  refine ⟨areaIn_intro (by decide +kernel), areaIn_intro (by decide +kernel), by decide +kernel⟩

/-- A string of 3 bytes at most 8 long at the start of the globals, and its descriptor on the stack. -/
def described : State := onTop [0xFFFFFFFF, 1, 0x80000000, 8] (withWords [(0x20000, 3), (0x20004, 0x41424344)] { base with S := 0x30083 })

theorem witness_string_validation :
    (described.putTop 2 0x80000000).areaIn false 0x80000000 false 0 ∧ described.areaIn false 0x80000000 false 0 ∧
    (described.hasStack 4 0 && (field described.S 30 2 == 3) && described.hasWord 0x20000 &&
     done (.sval true true true) ((described.putTop 2 0x80000000).putTop 0 3) &&
     done (.sval true false true) (described.putTop 2 0x80000000)) = true ∧
    StringOperand.error { maxLen := 8, ptr := 0x80000000, first := 1, len := -1, adr := 0x20000, curLen := 3, narrow := false } true = none ∧
    StringOperand.error { maxLen := 8, ptr := 0x80000000, first := 1, len := -1, adr := 0x20000, curLen := 3, narrow := false } false = some 2 := by
  refine ⟨areaIn_intro (by decide +kernel), areaIn_intro (by decide +kernel), by decide +kernel, by decide, by decide⟩

/-- The part of the hypotheses of `MoveResult` that computes. -/
def movable (w : State) (d code : Bool) : Bool :=
  w.fresh && w.canPop 3 && areaInB w code (w.top 2) d (w.top 0).toInt.toNat && areaInB w false (w.top 1) d (w.top 0).toInt.toNat && !w.tv

/-- The three words a string instruction pushes for its move. -/
def pushMove (v : State) (src tgt : Word) (len : Int) : State := ((v.pushed src).pushed tgt).pushed (wordOf len)

/-- The string temp and its descriptor. -/
def temp (v : State) (adr : Word) (words len : Int) (ptr first : Word) : State :=
  (((((v.putWord adr (wordOf len)).putTop 4 (wordOf words)).putTop 3 (wordOf len)).putTop 2 ptr).putTop 1 first).putTop 0 0xFFFFFFFF

theorem witness_string_load :
    endsWith (sourceOperand true true) described (fun o t =>
      let adr := described.S - 15
      let newS : Int := adr.toNat + 4 * ((o.actualLen + 3) / 4 + 1) + 19
      let v := { t with S := wordOf newS }
      let w := pushMove (temp v adr ((o.actualLen + 3) / 4 + 1) o.actualLen (0xC0000000 ||| (adr - described.SB)) 1)
        (o.ptr + wordOf (o.first + 3)) (0xC0000000 ||| (adr + 4 - described.SB)) o.actualLen
      !described.pending && (field (o.ptr + wordOf (o.first + 3)) 0 2 == field o.ptr 0 2) && !o.narrow &&
      decide (newS ≤ described.SL.toNat) && v.hasWord adr && v.hasStack 5 3 && movable w false false && (o.actualLen == 3) &&
      done (.sld true true) (w.moved false 3 3) && decide (0x30080 < newS)) = true := by
  decide +kernel

theorem witness_string_assign :
    (let s := onTop [0xFFFFFFFF, 1, 0x80000000, 8, 0xFFFFFFFF, 1, 0x80000010, 8] described
     endsWith (planAssign true false true true false) s (fun p t =>
      let v := (t.setCC (if p.backward then 0b01 else 0b00)).popped 8
      let w := pushMove (v.putWord p.target (wordOf p.curLen)) p.src p.tgt p.moveLen
      v.hasWord p.target && v.hasStack 5 6 && movable w p.backward false && (p.moveLen == 3) &&
      done (.sas true false true true false) (w.moved p.backward 3 3))) = true := by
  decide +kernel

/-- The target of SCON is the string of 3 bytes 64 bytes below the top of the stack. -/
theorem witness_string_append :
    (let s := onTop [0xFFFFFFFF, 1, 0x80000000, 8, 0xFFFFFFFF, 1, 0xC0000044, 8] (described.putWord 0x30044 3)
     endsWith (sourceOperand true true) s (fun o t' => endsWith (targetOperand o false true) t' (fun g t =>
      let cur := if 0 ≤ g.len then min g.curLen (g.first + g.len - 1) else g.curLen
      let words := (cur + o.actualLen + 3) / 4 + 1
      let newS : Int := g.adr.toNat + 4 * words + 19
      let keep := decide (newS < s.S.toNat)
      let v := if keep then t else { t with S := wordOf newS }
      let w := pushMove (temp v g.adr (if keep then ((s.S.toNat : Int) - g.adr.toNat - 19) / 4 else words) (cur + o.actualLen)
        g.ptr (wordOf g.first)) (o.ptr + wordOf (o.first + 3)) (g.ptr + wordOf (cur + 4)) o.actualLen
      decide (s.Q.toNat ≤ g.adr.toNat ∧ g.adr.toNat + 16 ≤ s.S.toNat) && keep && !o.narrow && !g.narrow &&
      (field (o.ptr + wordOf (o.first + 3)) 0 2 == field o.ptr 0 2) && (field (g.ptr + wordOf (cur + 4)) 0 2 == field g.ptr 0 2) &&
      v.hasWord g.adr && v.hasStack 5 3 && movable w false false && done (.scon true true true false) (w.moved false 3 3)))) = true := by
  decide +kernel

/-! ## Hypotheses of the statements about loops, operands and suspensions -/

/-- The loop of `LoopsFrom` from w ends so, in a state that satisfies `p`. -/
def loops {α : Type} (w : State) (d : Bool) (sdec : Nat) (first : M α) (body : α → M Bool) (e : LoopEnd) (p : State → Bool) : Bool :=
  endsWith first (if w.pending then w else w.putX 0) fun a v =>
    v.hasWord v.S && v.canPop sdec &&
      endsWith (iterate (body a) ((v.top 0).toInt - (if d then -1 else 1) * v.X.toInt).toNat 0) v fun r u => (r == e) && p u

/-- `suspend` enters something and the instruction stays where it is. -/
def suspends (s : State) : Bool :=
  endsWith suspend s fun e _ => match e with
    | { jump := none, own := none, trace := none, user := none, stay := true } => true
    | _ => false

/-- The areas of a byte move, evaluated. -/
def moveAreas (data : Bool) : M (Word × Word) := do
  let _ ← srcAddr data
  targetAt true

/-- `moving` from its second byte on. -/
def resumed : State := (moving.putX 1).setPending true

/-- `moving` with memory for a trap and an interrupt, T = 0, I = 1 and the moves made before the byte 2. -/
def polled (l : List Move) : State :=
  onTop [3, 0x80000003, 0x80000000] { tasked with S := 0x30083, STATUS := 0x00060001, poll := some { iteration := 2, moves := l } }

/-- The first entry of `segmented` as the source of `moving`. -/
def movingExternal : State := onTop [3, 0x80000003, 0x40080000] { segmented with S := 0x30083 }

theorem witness_loop_of_move :
    (let go := fun (w : State) (d data : Bool) (e : LoopEnd) (p : State → Bool) =>
       loops w d 3 (moveAreas data) (fun _ => moveByte d data) e p
     let ends := fun (i : Instr) (d : Bool) (u : State) => u.hasStack 2 0 && !u.tv && done i (u.ended d 3)
     go moving false true .counted (fun u => ends (.mvb false true 3) false u && (u.X == 3)) &&
     go resumed false true .counted (fun u => ends (.mvb false true 3) false u && (u.word 0x20004 == 0x42430000)) &&
     go movingExternal false true .counted (fun u => ends (.mvb false true 3) false u && (u.word 0x6010 == 0x14)) &&
     go (onTop [2, 0x80000003, 0x80000001] moving) true true .counted (fun u => ends (.mvb true true 3) true u && (u.X == 0xFFFFFFFE)) &&
     go (onTop [2, 0x80000003, 0] moving) false false .counted (ends (.mvb false false 3) false) &&
     go (polled [.setMsg 0x00080000]) false true .suspended (fun u => suspends u && (u.X == 2)) &&
     go (polled [.reset]) false true .aborted (fun _ => true) &&
     trapsIn (moveAreas true) (moving.putX 0xFFFFFFFF) && trapsIn (moveAreas true) (onTop [3, 0x80000003, 0x40080000] moving) &&
     !(bare moving).canPop 3 && endsWith (moveAreas true) (bare moving) (fun _ _ => true) &&
     (let far := onTop [3, 0x80000000, 0x80000FFE] moving
      endsWith (moveAreas true) far fun _ v => trapsIn (iterate (moveByte false true) 3 0) v)) = true := by
  decide +kernel

/-- Bytes of the kinds of area: the globals, an external segment, the code segment inside and outside, absolute ones. -/
theorem witness_one_byte :
    (let s := moving
     let code := onTop [3, 0x80000003, 4] s
     let free := fun (a : Word) (u : State) => u.freeByte a
     let out := { onTop [3, 0x80000003, 0x2FFF] s with X := 1 }
     let abs := onTop [3, 0x1FFFFFFF, 0x20000] s
     s.hasStack 3 0 && endsWith (sourceAt true 0) s (fun r _ => r.1 == 0x20000) && endsWith (sourceAt true 0) movingExternal (fun r _ => r.1 == 0x22000) &&
     trapsIn (sourceAt true 0xFFFFFFFF) s && bit (s.top 2) 0 && !bit (code.top 2) 0 && endsWith (sourceAt false 0) code (fun r _ => r.1 == 0x10004) &&
     trapsIn (srcAddr false) out && endsWith (sourceAt false 0) out (fun r _ => (r.1 == 0x12FFF) && (r.2 == 0)) && trapsIn (tgtAddr true) { s with X := 0xFFFFFFF0 } &&
     endsWith (srcAddr true) s (fun a t => free a t && endsWith (tgtAddr true) t (fun b u => free a u && free b u && t.hasStack 2 0)) &&
     endsWith (tgtAddr true) s (fun a t => free a t && ((t.byte a.toNat).toNat == 0x44) && t.freeByte (0x20000 + 0x44)) &&
     (s.byte 0x20000 == s.byte 0x20000) && (s.byte 0x20000 != s.byte 0x20003) &&
     [(0x20000 : Word), 0x1FFFFFFF].all (fun a => abs.freeByte a && abs.offStack a && decide (a.toNat < 2 ^ 29)) && s.mem.wf) = true := by
  decide +kernel

/-- Nothing at a poll, another iteration, an interrupt, a reset, nothing unmasked; a message, a device, both, and
devices that are all serviced. -/
theorem witness_poll_and_suspend :
    (let s := polled [.setMsg 0x00080000]
     let dev : State := { polled [] with MSG := 0x00001000 }
     let listed : State := withWords [(0x418, 0x90), (0x41C, 0x90), (0x90, 0), (0x94, 0x80025000), (0x98, 0x80004002)] dev
     let msg : State := { listed with MSG := 0x00080000 }
     let both : State := { listed with MSG := 0x00081000 }
     let told := fun t : State => ({ t.setPending true with MSG := t.MSG &&& ~~~ (t.MSG &&& ~~~ t.MASK &&& 0xE3FF0000) } : State)
     let poll := fun (t : State) (r : PollEnd) => endsWith (pollBefore 2) t fun e _ => e == r
     poll s .interrupt && poll (polled [.reset]) .reset && poll (polled [.setMsg 0x00080000, .reset]) .reset && poll (polled []) .quiet &&
     poll { s with STATUS := 0x00020001 } .quiet && poll { s with poll := none } .quiet && endsWith (pollBefore 1) s (fun e t => (e == .quiet) && decide (t = s)) &&
     endsWith (moveByte false true) s (fun b _ => b) && trapsIn (moveByte false true) { s with X := 0xFFFFFFF0 } && endsWith (scanByte false true fun _ _ => false) s (fun b _ => !b) &&
     (msg.MSG &&& ~~~ msg.MASK &&& 0xE3FF0000 != 0) && (msg.levelBits == 0) && suspends msg &&
     endsWith (icsTrapEntry .message (some 0x00080000) msg.P : M Unit) (told msg) (fun _ t => endsWith (postEntryTests postEntryFuel false : M Unit) t fun _ _ => true) &&
     (both.levelBits != 0) && suspends both && endsWith (icsTrapEntry .message (some 0x00080000) both.P : M Unit) (told both) (fun _ t =>
       endsWith (interruptEntry t.P) t fun b u => b && endsWith (postEntryTests postEntryFuel false : M Unit) u fun _ _ => true) &&
     suspends listed && endsWith (interruptEntry listed.P) (listed.setPending true) (fun b t => b &&
       endsWith (postEntryTests postEntryFuel false : M Unit) t fun _ _ => true) &&
     suspends dev && endsWith (interruptEntry dev.P) (dev.setPending true) (fun b t => !b && (t.MSG == 0)) &&
     endsWith (suspend) dev (fun _ t => t.pending && (t.P == dev.P)) &&
     (let w : State := { onTop [5] s with debugPad5 := true }
      decide (2 < (w.top 0).toNat) && endsWith (pollBefore 2) (w.putTop 0 (w.top 0 - 2)) fun r t => (r == .interrupt) && (t.top 0 == 3) && suspends t)) = true := by
  decide +kernel

/-- The loops of PMVA, TRAN and FILB to their end, resumed, suspended, and their traps. -/
theorem witness_loops_of_tran_and_fill :
    (let fillFirst : M Unit := do
       let left ← remaining false
       if 0 < left then do
         let _ ← tgtAddr true
     let tranFirst : M ((Word × Int) × Word) := do
       let table ← sourceAt true 0
       let target ← targetAt true
       pure (table, target.1)
     let ends := fun (i : Instr) (u : State) => u.hasStack 2 0 && !u.tv && done i (u.ended false 3)
     let absolute := fun (t : State) => onTop [3, 0x20008, 0x20000] t
     let tran := fun (t : State) => onTop [3, 0x80000000, 0x80000100] t
     let fill := fun (t : State) => onTop [3, 0x80000000, 0x41] t
     let plain := fun (w : State) => loops w false 3 (pure () : M Unit) fun _ => moveAbsolute false
     let table := fun (w : State) => loops w false 3 tranFirst fun r => translateByte false r.1
     let filling := fun (w : State) => loops w false 3 fillFirst fun _ => fillByte 0x41
     let stops := fun (u : State) => suspends u
     moving.privileged && moving.hasStack 3 0 && plain (absolute moving) .counted (ends (.pmva false 3)) && plain (absolute resumed) .counted (ends (.pmva false 3)) &&
     plain (absolute (polled [.setMsg 0x00080000])) .suspended stops && plain (absolute (polled [.reset])) .aborted (fun _ => true) && !(bare moving).canPop 3 &&
     table (tran moving) .counted (ends (.tran false true 3)) && table (tran resumed) .counted (ends (.tran false true 3)) &&
     table (tran (polled [.setMsg 0x00080000])) .suspended stops && table (tran (polled [.reset])) .aborted (fun _ => true) && trapsIn tranFirst (onTop [3, 0x80001000, 0x80000100] moving) &&
     endsWith tranFirst (onTop [3, 0x80000FFE, 0x80000100] moving) (fun r v => trapsIn (iterate (translateByte false r.1) 3 0) v) &&
     decide (0 < ((fill moving).top 0).toInt) && filling (fill moving) .counted (fun u => ends (.filb 3) u && (u.word 0x20000 == 0x41414144)) &&
     filling (fill resumed) .counted (fun u => ends (.filb 3) u && (u.word 0x20000 == 0x41414144)) && filling (fill (polled [.setMsg 0x00080000])) .suspended stops &&
     trapsIn fillFirst (onTop [3, 0x80001000, 0x41] moving) && filling ((fill resumed).putX 3) .counted (ends (.filb 3))) = true := by
  decide +kernel

/-- The loops of SCW, SCU and CMPB: all bytes, stopped at one, resumed, suspended, and their traps. -/
theorem witness_loops_of_scans :
    (let both : M Word := do
       let _ ← srcAddr true
       tgtAddr false
     let same := fun (b : Byte) (w : Word) => b == field w 24 8
     let other := fun (b : Byte) (w : Word) => b != field w 24 8 && b != field w 16 8
     let scw := fun (w : State) => loops w false 3 (srcAddr true) fun _ => scanByte false true same
     let scu := fun (w : State) => loops w false 3 (srcAddr true) fun _ => scanByte false true other
     let cmp := fun (w : State) => loops w false 3 both fun _ => compareByte false true
     let scanned := fun (i : Instr) (u : State) => u.hasStack 2 0 && done i ((u.setCC (ccByte (field (u.top 1) 0 8))).ended false 3)
     let equal := fun (t : State) => onTop [3, 0x80000000, 0x80000000] t
     let a := fun (w : Word) (t : State) => onTop [3, w] t
     moving.hasStack 3 0 && scw (a 0x41 moving) .stopped (scanned (.scw false true 3)) && scw (a 0x44 (moving.putWord 0x20000 0x44444444)) .counted (scanned (.scw false true 3)) &&
     scw (a 0x42 resumed) .stopped (fun u => scanned (.scw false true 3) u && (u.X == 2)) && scu (a 0x5A59 moving) .counted (scanned (.scu false true 3)) &&
     scu (a 0x4359 moving) .stopped (fun u => scanned (.scu false true 3) u && (u.X == 2)) && scu (a 0x5A59 (polled [.setMsg 0x00080000])) .suspended suspends &&
     scu (a 0x5A59 (polled [.reset])) .aborted (fun _ => true) && trapsIn (srcAddr true) (onTop [3, 0, 0x80001000] moving) && !(bare moving).canPop 3 &&
     endsWith (srcAddr true) (onTop [3, 0x5A59, 0x80000FFE] moving) (fun _ v => trapsIn (iterate (scanByte false true other) 3 0) v) &&
     cmp (equal moving) .counted (fun u => u.hasStack 1 0 && done (.cmpb false true 3) ((u.setCC 0b10).ended false 3)) &&
     cmp moving .stopped (fun u => u.hasStack 1 0 && done (.cmpb false true 3) (u.ended false 3)) && cmp (equal resumed) .counted (fun u => u.X == 3) &&
     cmp (equal (polled [.setMsg 0x00080000])) .suspended suspends && trapsIn both (onTop [3, 0x80001000] moving)) = true := by
  decide +kernel

/-- Operands in the globals, in the code segment inside and outside, in an external segment, a target under a temp at
the limits of its place, and each kind of trap. -/
theorem witness_string_operands :
    (let s := described
     let target := onTop [0xFFFFFFFF, 1, 0x80000000, 8, 0xFFFFFFFF, 1, 0x80000010, 8] s
     let o := fun adr : Word => ({ maxLen := 8, ptr := 0x80000000, first := 1, len := -1, adr := adr, curLen := 3, narrow := false } : StringOperand)
     let code := fun p : Word => onTop [0xFFFFFFFF, 1, p, 8] s
     let ext := onTop [0xFFFFFFFF, 1, 0x40080000, 8] ({ segmented with S := 0x30083 }.putWord 0x22000 3)
     let found := fun (t : State) (data : Bool) => endsWith (sourceOperand data true) t fun r u => u.hasWord r.adr
     s.mem.wf && s.hasStack 4 0 && (field s.S 30 2 == 3) && found s true && found ext true && endsWith (sourceOperand true true) ext (fun r u =>
       (r.adr == 0x22000) && (u.word 0x6010 == 0x14)) && trapsIn (sourceOperand true true) (onTop [0xFFFFFFFF, 1, 0x80001000, 8] s) &&
     trapsIn (sourceOperand false true) s && trapsIn (sourceOperand false true) (code 0x3000) && s.hasAddr 0x10004 && found ((code 4).putWord 0x10004 3) false &&
     fails (sourceOperand true false) s .string (some (s.stringParam false 2)) &&
     fails (targetOperand (o (s.Q + 15)) true true) s .boundsViolation none && fails (targetOperand (o (s.S - 8)) true true) s .boundsViolation none &&
     [s.Q.toNat, s.S.toNat - 28].all (fun n => (List.range 4).all fun k => s.hasWord (BitVec.ofNat 32 (n + 4 * k))) &&
     endsWith (targetOperand (o 0) false true) target (fun g t => (g.adr == 0x20010) && t.hasWord 0x20010) &&
     fails (targetOperand (o 0) false false) target .string (some (s.stringParam true 2)) && trapsIn (targetOperand (o 0) false true) (target.putTop 6 0x80001000) &&
     endsWith (targetOperand (o (target.S - 12)) true true) target (fun g _ => g.ptr == 0x80000010)) = true := by
  decide +kernel

/-- SAS: a move forward, one backward in one string, a fill, and each of its traps. -/
theorem witness_string_assignment :
    (let s := onTop [0xFFFFFFFF, 1, 0x80000000, 8, 0xFFFFFFFF, 1, 0x80000010, 8] described
     let plan := fun (fill : Bool) (t : State) => planAssign true fill true true false t
     let error := fun (fill : Bool) (t : State) (target : Bool) (n : Nat) => fails (planAssign true fill true true false) t .string (some (t.stringParam target n))
     let later := (s.putTop 6 0x80000000).putTop 5 2
     let far := fun (first : Word) => withWords [(0x20010, 0x7FFFFFFF)] (onTop [0xFFFFFFFF, 1, 0x80000000, 8, 4, first, 0x80000010, 0x7FFFFFFF] s)
     let ext := onTop [0xFFFFFFFF, 0x80000, 0x40080000, 0x7FFFFFFF] (withWords [(0x6010, 0x10), (0x6000, 0x10), (0x6014, 0xFF), (0x6018, 0x22000), (0x22000, 0x90000)] { s with DST := 0x6000 })
     !s.pending && s.mem.wf && endsWith (plan false) s (fun p _ => !p.backward && (p.moveLen == 3) && (p.curLen == 3) && p.fill.isNone) &&
     endsWith (plan false) later (fun p _ => p.backward && (p.moveLen == 3) && (p.curLen == 4)) &&
     endsWith (plan true) (s.putTop 4 6) (fun p _ => p.fill.isSome && (p.fillLen == 3) && (p.curLen == 6)) &&
     endsWith (plan true) (s.putTop 4 3) (fun p _ => p.fill.isNone && (p.moveLen == 3)) && error false (s.putTop 7 2) true 9 &&
     error false (((onTop [0xFFFFFFFF, 0x40000000, 0x80000000, 0x7FFFFFFF] s).putTop 4 3).putWord 0x20000 0x7FFFFFFF) false 8 && error true (far 0x3FFFFFF0) true 8 &&
     error true (far 0x3FFFFFEA) true 8 && endsWith (plan false) (far 0x3FFFFFEA) (fun _ _ => true) &&
     endsWith (sourceOperand true true) ext (fun o _ => o.narrow && (field (o.ptr + wordOf (o.first + 3)) 0 13 != field o.ptr 0 13)) &&
     fails (planAssign true false true true false) (bare s) .stackUnderflow none && trapsIn (sourceOperand true true) (s.putTop 2 0x80001000)) = true := by
  decide +kernel

/-- SLD, SAS and SCON resumed, and the traps of SLD and SCON before they write. -/
theorem witness_string_traps :
    (let s := described
     let long := withWords [(0x20000, 0x7FFFFFFF)] (onTop [0xFFFFFFFF, 0x40000000, 0x80000000, 0x7FFFFFFF] s)
     let join := onTop [0xFFFFFFFF, 1, 0x80000000, 8, 0xFFFFFFFF, 1, 0xC0000044, 8] (s.putWord 0x30044 3)
     let outside := join.putTop 6 0x80000010
     let operands := fun (t : State) (p : StringOperand → StringOperand → Bool) =>
       endsWith (sourceOperand true true) t fun o u => endsWith (targetOperand o false true) u fun g _ => p o g
     let grown := fun (g o : StringOperand) => (g.adr.toNat : Int) + 4 * ((g.curLen + o.bytes + 3) / 4 + 1) + 19
     let deep := withWords [(0x30044, 0x40)] (onTop [0xFFFFFFFF, 1, 0x80000000, 8, 0xFFFFFFFF, 1, 0xC0000044, 0x80] s)
     resumed.pending && (resumed.cc != 0b01) && ((resumed.setCC 0b01).cc == 0b01) && !s.pending && trapsIn (sourceOperand true true) (s.putTop 2 0x80001000) &&
     endsWith (sourceOperand true true) long (fun o _ => field (o.ptr + wordOf (o.first + 3)) 0 2 != field o.ptr 0 2) &&
     endsWith (sourceOperand true true) s (fun o _ => decide (({ s with SL := s.S } : State).SL.toNat < (s.S - 15).toNat + 4 * ((o.bytes + 3) / 4 + 1) + 19)) &&
     trapsIn (fun t => (do
       let o ← sourceOperand true true
       targetOperand o false true) t) (join.putTop 6 0x80001000) &&
     operands outside (fun _ g => decide (g.adr.toNat < outside.Q.toNat)) && operands join (fun o g => decide (join.Q.toNat ≤ g.adr.toNat ∧ g.adr.toNat + 16 ≤ join.S.toNat) &&
       decide (grown g o < join.S.toNat)) && operands deep (fun o g => decide (deep.S.toNat ≤ grown g o) && decide (grown g o ≤ deep.SL.toNat) &&
       decide (({ deep with SL := deep.S } : State).SL.toNat < grown g o))) = true := by
  decide +kernel
/-! ## Hypotheses of the statements about special instructions -/

theorem witness_register_pushes :
    (let s := onTop [7, 0xFFFF0000, 0x1C00FFFF] base
     s.hasStack 3 13 && s.privileged && done (.pshr true 63) { s with S := s.S + 52 } && done (.pshr false 1) (s.pushed (s.S - s.SB)) &&
     done (.pmpb 7) (((s.pushed s.MASK).pushed s.MSG).pushed 1) && done (.int true) (s.setI true) && done (.int false) (s.setI false) &&
     (field (s.top 0) 29 3 != 0) && s.canPop 3 && !(bare s).canPop 1 && (bare s).hasStack 3 0 &&
     done (.smpb 7) { s.popped 3 with MASK := 0x1C00FFFF, MSG := s.MSG &&& 0x0000FFFF }) = true := by
  decide +kernel

/-- SETR of Q and S in the words 4 and 5, in order and not; SETR of FLAGS and STATUS from user mode. -/
theorem witness_set_registers :
    (let s := onTop [0x55, 0xFFFFFFFF, 0x6000, 0x00020001, 0x23, 0x53] base
     let u : State := { s with FLAGS := 0x55, DST := 0x6000 }
     s.privileged && s.hasStack 6 0 && s.canPop 5 && done (.setr 63) { u with Q := 0x30023, S := 0x30053 } &&
     decide (s.SB.toNat < 0x30023 ∧ 0x30053 < s.SL.toNat) && done (.setr 1) { s with S := 0x30058 } &&
     !(bare s).canPop 1 && done (.setr 36) { u with S := s.S - 8 } && decide (¬ (0x30000 + 0x1FFF < s.SL.toNat)) &&
     (onTop [0x1FFF] s).hasStack 6 0 && !({ s with STATUS := 1 } : State).privileged &&
     !(bit 36#6 1 || bit 36#6 2 || bit 36#6 5) && (bit 9#6 1 || bit 9#6 2 || bit 9#6 5)) = true := by
  decide +kernel

/-- The global segment 801 is exchanged for 802, and with itself; and each test that can fail. -/
theorem witness_exchange_global :
    (let s := onTop [0x40100000] (withWords [(0x14, 0x7000), (0x7008, 0x08010801), (0x6000, 0x30), (0x6010, 0x00080010), (0x6014, 0xFF),
         (0x6018, 0x22000), (0x6020, 0x00080010), (0x6024, 0x1FF), (0x6028, 0x23000)] { base with DST := 0x6000 })
     let q := s.taken 0x6020
     let t := ((s.putWord 0x6020 0x00100010).putWord 0x7008 0x08010802).putTop 0 0x40080000
     let user : State := { s with STATUS := 1 }
     let entry := fun w : Word => s.putWord 0x6020 w
     s.mem.wf && s.hasStack 1 0 && s.hasWord 0x14 && s.hasWord 0x7008 && (field (s.top 0) 1 12 == 0x802) && (q.word 0x14 == 0x7000) &&
     (field (q.word 0x7008) 20 12 == 0x801) && s.hasWord 0x6000 && decide (32 ≤ (s.word 0x6000).toNat) &&
     (List.range 3).all (fun k => s.hasWord (0x6020 + BitVec.ofNat 32 (4 * k))) && s.hasWord 0x6010 && !bit (s.word 0x6020) 0 &&
     !bit (q.word 0x6010) 0 && bit (s.word 0x6020) 27 && s.privileged && !bit (s.word 0x6020) 31 && !bit (s.word 0x6020) 26 &&
     (useCount (s.word 0x6020) != 4095) && (useCount (q.word 0x6010) != 0) && (t.word 0x6010 == 0x00080010) &&
     decide ((q.word 0x6028).toNat + (q.word 0x6024).toNat < 2 ^ 29) &&
     done .xgds { t.putWord 0x6010 0x10 with DB := 0x23000, DL := 0x231FF } &&
     nextIs (exec .xgds s) (fun u => (u.DB == 0x23000) && (u.DL == 0x231FF) && (u.word 0x6010 == 0x10) && (u.word 0x6020 == 0x00100010)) &&
     nextIs (exec .xgds (s.putTop 0 0x40080000)) (fun u => (u.DB == 0x22000) && (u.word 0x6010 == 0x00080010)) &&
     (field (0x40000000#32) 2 11 == 0) && decide ((s.word 0x6000).toNat < 16 * (field 0x40200000#32 2 11).toNat) &&
     (match exec .xgds (entry 0x00080030) with | .refused r => decide (r = .pagedGlobalSegment) | _ => false) && !bit ((entry 0).word 0x6020) 27 && !user.privileged &&
     bit 0x12#32 30 && bit 0x11#32 31 && (useCount 0x7FF80010 == 4095) && (useCount ((s.putWord 0x6010 0x10).word 0x6010) == 0)) = true := by
  decide +kernel

theorem witness_channel_instructions :
    (let good : MpbReply := ⟨false, false, false, 9⟩
     let s := onTop [0x25, 0x25] { base with mpb := [good] }
     let late : State := { s with mpb := [⟨false, false, true, 0⟩] }
     let bad : State := { s with mpb := [⟨true, true, false, 0⟩] }
     let wait := s.putTop 1 0x80000025
     let stuck : State := { s with MSG := 0x40000000 }
     let set : State := { wait with MSG := 0x00080000 }
     s.privileged && s.mpbReady && !stuck.mpbReady && s.hasStack 2 1 && s.hasStack 0 2 && s.canPop 2 && (field (s.top 0) 0 22 == 0) &&
     (field (s.top 1) 0 22 == 0) && !s.reply.addrErr && !s.reply.dataErr && !s.reply.timeout && late.reply.timeout && bad.reply.addrErr &&
     done (.iow 1) ((s.asked (.channelRead 5 false)).popped 2) && done (.ioc 1) ((s.asked (.channelRead 5 false)).popped 1) &&
     done (.ior 1) (({ s with secondary := false }.asked (.channelRead 5 false)).putTop 0 9) && done (.smsg true) (s.popped 1) &&
     done (.rfc true) ((s.pushed 9).setCC 0b10) && done (.rfc true) ((bad.pushed 0).setCC 0b01) && !bit (s.top 1) 0 &&
     done (.wtc true) ((s.setCC 0b10).popped 2) && bit (wait.top 1) 0 && wait.mpbReady && !bit wait.MSG 12 && bit set.MSG 12 &&
     set.mpbReady && decide (set.run = .running) && done (.wtc false) ((({ set with MSG := 0 } : State).setCC 0b10).popped 2) &&
     !bit s.MSG 6 && done .rsc ((s.pushed s.SAR).pushed s.SDR) && done (.alm true) { s with lockout := true }) = true := by
  decide +kernel

/-- A list of two elements at the start of the globals whose links are at offset 0 and whose keys are at offset 8. -/
theorem witness_list_search :
    (let s := onTop [0x20000, 5, 8] (withWords [(0x20000, 0x20010), (0x20008, 5), (0x20018, 6)] { base with X := 2 })
     let last := s.putTop 0 0x1FFFFFF0
     decide ((s.top 0).toNat < 2 ^ 29) && s.hasAddr 0x20008 && last.hasStack 1 0 && last.hasAddr 0x1FFFFFF8 && !last.hasAddr 0x20000000 &&
     s.privileged && s.hasStack 3 0 && endsWith (walkList 2 5 8 2) s (fun cc t => done (.llsh 2) (t.setCC cc) && (t.top 0 == 0x20010)) &&
     s.offStack 0x20008 && s.hasWord 0x20008 && s.offStack 0x20000 && s.hasWord 0x20000 &&
     (decide ((s.word 0x20008).toInt = 5) && bit 2#3 1) && !(decide ((5 : Int) < 5) && bit 4#3 0) &&
     ready .rcs { s with X := 5 } 0 2 0 { s with S := s.S + 8 }) = true := by
  decide +kernel

/-- A new element at 0x20020 before the first of the ring at 0x20000; offset 4 of the backward link. -/
theorem witness_list_update :
    (let s := onTop [0x20000, 0x20020, 4] (withWords [(0x20000, 0x20000), (0x20004, 0x20004)] base)
     let d := onTop [0x20000, 4] s
     let good := fun a : Word => s.offStack a && s.hasWord a
     let near := fun (a : Word) (o : Int) => decide (a.toNat < 2 ^ 29 ∧ 0 ≤ a.toNat + o ∧ a.toNat + o < 2 ^ 29) && good (a + wordOf o)
     s.privileged && s.hasStack 3 0 && good 0x20020 && good 0x20000 && good 0x20004 && good 0x20024 &&
     near 0x20000 4 && near 0x20020 4 && near (s.word 0x20004) (-4) && near (d.word 0x20000) 4 && near (d.word 0x20004) (-4) &&
     near 0x1FFFFFF8 4 && !near 0x1FFFFFFC 4 && near 4 (-4) && !near 0 (-4) && done .lins (onTop [0, 0x20020, 4] base) &&
     done .lins (onTop [0x20000, 0, 4] base) && done .ldel ((onTop [0, 4] base).setCC 0b10) &&
     ((s.putWord 0x20020 0x20000).word 0x20004 == 0x20004) && done .lins s && (s.word 0x20004 - 4 == 0x20000) && d.hasStack 3 0 &&
     done .ldel (d.setCC 0b10) && done .ldel (d.setCC 0b00)) = true := by
  decide +kernel

theorem witness_pointer_conversion :
    (let s := onTop [0x40080004] (withWords [(0x14, 0x7000), (0x7008, 0x08010802)] segmented)
     let m := onTop [0x80000004, 0, 16] s
     s.privileged && s.hasStack 3 0 && s.canPop 1 && endsWith (evalPopped (s.top 0) false false 0 1) s (fun l t => t.hasStack 1 0 &&
       (l.addr == 0x22004) && done (.cpaa false) (t.putTop 0 l.addr)) && !s.icsFlag && done (.cpep false) s &&
     endsWith (evalDsp (s.top 0) (s.access (some s.X) false) 0) s (fun l t => t.hasStack 1 0 && decide (l.offset < 2 ^ 19) &&
       done (.cpep true) (t.putTop 0 l.ptr)) && s.hasWord 0x14 && s.hasWord 0x7008 &&
     done (.cpep false) (m.putTop 0 0x40100004) && s.mem.wf && s.hasWord 0x6010 && s.hasWord 0x6018 && !bit (s.word 0x6010) 0 &&
     decide ((s.word 0x14).toNat + 8 < 2 ^ 29) && (field (s.word 0x7008) 4 12 == 0x801) &&
     decide ((4 + (0x30000 - s.word 0x6018)).toNat < 2 ^ 19) && decide (2 ^ 19 ≤ (0x7FFFF + (s.SB - s.word 0x6018)).toNat) &&
     done (.cptr false) (((m.putX 4).putTop 1 4).popped 1) && m.hasStack 3 0 && (bare m).hasStack 2 0 && !(bare m).canPop 1 &&
     decide (2 ^ 30 ≤ (0x3FFFFFFF#32 + 1#32).toNat) &&
     endsWith (evalDsp 0x40080004 (s.access (some 4) false) 0) s (fun l t => t.hasStack 2 0 && decide (l.offset < 2 ^ 19) &&
       done (.cptr true) (((t.putX 4).putTop 1 l.ptr).popped 1)) && bit (m.top 0) 0 &&
     done (.vptr false) ((m.popped 1).setCC 0b00) && done (.vptr false) ((m.popped 1).setCC 0b01) &&
     (let u : State := { onTop [4, 1] s with STATUS := 1 }
      bit (u.top 1) 31 && !u.privileged && u.hasStack 3 0 && u.canPop 1 && done (.vptr true) ((u.popped 1).setCC 0b01)) &&
     endsWith (externalCC (s.top 0) { index := none, modmem := false, unpriv := true, probe := true }) s
       (fun cc t => done (.vptr false) ((t.popped 1).setCC cc) && (cc == 0b00)) &&
     trapsIn (externalCC 0x40080004 { index := none, modmem := false, unpriv := true, probe := true }) (s.putWord 0x6010 0x31)) = true := by
  decide +kernel

theorem witness_use_counts :
    (let s := onTop [0x40080004] (withWords [(0x14, 0x7000), (0x7008, 0x08010802), (0x7004, 0x6000)] segmented)
     let task := onTop [0x7000] s
     let k : AccessKind := { index := none, modmem := false, unpriv := false, probe := true }
     s.privileged && s.hasStack 1 2 && s.canPop 1 && !bit (s.top 0) 0 && endsWith (evalEds (s.top 0) k) s (fun l t => t.hasWord l.entry &&
       t.mem.wf && !bit (t.word l.entry) 0 && (useCount (t.word l.entry) == 0) && done (.muc true) (((t.putWord l.entry 0x00080010).popped 1).setCC 0b00)) &&
     trapsIn (evalEds 0x407FF800 k) s && !(bare s).canPop 1 && (bare s).hasStack 1 2 && (useCount 0x7FF80010 == 4095) && done (.muc true) ((s.popped 1).setCC 0b01) && s.hasWord 0x14 && s.hasWord 0x7008 && s.hasWord 0x7004 && decide ((task.top 0).toNat + 8 < 2 ^ 29) &&
     done .gtsp { ((task.putTop 0 0).pushed 0).pushed 1 with DST := 0x6000 }) = true := by
  decide +kernel

theorem witness_intermediate :
    (let s := withWords [(0x30020, 0xC0000020), (0x30010, 0x40080050), (0x22000, 0x10), (0x2200C, 0x60), (0x22040, 0xC0000020)] segmented
     let start : LinkWalk := { sb := s.SB.toNat, upper := s.Q.toNat, ptr := 0xC0000000 ||| (s.Q - s.SB), foreign := none }
     bit start.ptr 0 && bit start.ptr 1 && decide (start.sb + (pointerOffset start.ptr).toNat - 16 = 0x30023) && decide (start.sb ≤ 0x30023 ∧
       0x30023 ≤ start.upper) && s.hasAddr 0x30023 && s.hasStack 0 1 &&
     endsWith (followLinks 0 start) s (fun r t => bit r.ptr 0 && r.foreign.isNone && done (.lia 0 true 4) (t.pushed 0xC000002F)) &&
     endsWith (followLinks 1 start) s (fun r t => bit r.ptr 0 && r.foreign.isNone && done (.lias 1 63) (t.pushed 0xC000005F)) &&
     endsWith (followLinks 2 start) s (fun r t => !bit r.ptr 0 && t.hasStack 0 1 && done (.lia 2 false 0) (t.pushed r.ptr)) &&
     endsWith (followLinks 3 start) s (fun r t => bit r.ptr 0 && decide (r.foreign = some (0x801, 0x10)) && t.hasStack 0 1 &&
       done (.lia 3 false 0) (t.pushed 0x40080030))) = true := by
  decide +kernel

theorem witness_try_escape :
    (let s := onTop [9] (withWords [(0x30008, 0x63), (0x30010, 1), (0x30060, 0x30), (0x3005C, 0x00020001), (0x30058, 0x40), (0x30054, 0)]
       { base with S := 0x30067 })
     let m : Word := 0x30063
     let out := fun t : State => ({ t.putWord 0x30008 (t.word (m - 12)) with Q := m } : State)
     s.hasStack 1 3 && s.hasWord 0x30008 && s.hasWord 0x3000C && s.hasWord 0x30010 && done (.tryMark true) { s with S := s.S + 12 } &&
     decide (s.Q.toNat + 16 ≤ m.toNat ∧ m.toNat ≤ s.S.toNat) && s.hasWord (m - 12) && done (.tryMark false) { s with S := m - 16 } &&
     decide (s.SB.toNat + 48 ≤ m.toNat ∧ m.toNat ≤ (s.S - 4).toNat) && s.canPop 1 && decide (s.cfg.rev ≠ .le33) &&
     jumps (exitCore 0 false) (out ((s.putWord 0x3000C 9).putWord 0x30010 0xFFFFFFFF)) && (s.word 0x30010 != 0) &&
     jumps (exitCore 0 false) (out (s.putWord 0x30010 0xFFFFFFFF)) && done (.escp true) (s.putWord 0x30010 0) &&
     ((s.putWord 0x30010 0).word 0x30010 == 0) && decide (¬ ({ s with Q := s.S } : State).Q.toNat + 16 ≤ m.toNat)) = true := by
  decide +kernel

/-! ## Hypotheses of the statements about waits, links, tables, traps and other agents -/

/-- Numbers too large and too small for single, and zero. -/
theorem witness_wrapped_numbers :
    (2 : ℚ) ^ (200 : Int) ≤ |((1 : Int) : ℚ) * (2 : ℚ) ^ (200 : Int)| ∧ |((1 : Int) : ℚ) * (2 : ℚ) ^ (200 : Int)| < (2 : ℚ) ^ ((200 : Int) + 1) ∧
    (2 : ℚ) ^ (-200 : Int) ≤ |((1 : Int) : ℚ) * (2 : ℚ) ^ (-200 : Int)| ∧ |((1 : Int) : ℚ) * (2 : ℚ) ^ (-200 : Int)| < (2 : ℚ) ^ ((-200 : Int) + 1) ∧
    (single.deliverDyadic 192 0 ⟨1, 200⟩ false).trap = some (2 ^ 17) ∧ (single.deliverDyadic 192 0 ⟨1, -200⟩ false).trap = some (2 ^ 16) ∧
    ((0 : Int) : ℚ) * (2 : ℚ) ^ (0 : Int) = 0 ∧ single.unpack (single.deliverDyadic 192 0 ⟨0, 0⟩ true).bits = ⟨true, 0, 0⟩ ∧
    single.usable (single.unpack 0x80000000) = true := by
  refine ⟨?_, ?_, ?_, ?_, by decide +kernel, by decide +kernel, by norm_num, by decide +kernel, by decide +kernel⟩ <;> norm_num

/-- MSG bit 12 comes, with a table entry to give back and without. -/
theorem witness_channel_wait :
    (let s := onTop [5, 5] base
     let set : State := { s with MSG := 0x00080000 }
     let held : State := { set with owned := [(0x1010, 5)] }
     let ends := fun w : State =>
       let u := ({ ({ w with run := .channelWait } : State).regained with MSG := w.MSG &&& 0xFFF7FFFF, run := .running }.setCC 0b10).popped 2
       ({ u with P := w.P + 2, prevDup := false } : State).quiet
     !bit s.MSG 12 && bit set.MSG 12 && s.owned.isEmpty && ends set && ends held &&
     nextIs (cpuStep { held with run := .channelWait }) (fun t => (t.word 0x1010 == 5) && (t.cc == 0b10) && (t.P == s.P + 2))) = true := by
  decide +kernel

/-- VPTR's pointer into an external segment: usable, absent, another trap, an absent page table. -/
theorem witness_external_cc :
    (let s := onTop [0x40080004, 1] segmented
     let k : AccessKind := { index := none, modmem := false, unpriv := true, probe := true }
     let cc := fun (t : State) (c : BitVec 2) => endsWith (externalCC 0x40080004 k) t fun r _ => r == c
     s.hasStack 3 0 && s.canPop 1 && cc s 0b00 && fails (evalEds 0x40080004 k) (s.putWord 0x6010 0x11) .absentDataSegment (some 0x801) &&
     cc (s.putWord 0x6010 0x11) 0b10 && fails (evalEds 0x40080004 k) (s.putWord 0x6010 0x12) .privilegedModeData none && cc (s.putWord 0x6010 0x12) 0b01 &&
     fails (evalEds 0x40080004 k) (s.putWord 0x6010 0x31) .absentPageTable (some 0x40080004) && trapsIn (externalCC 0x40080004 k) (s.putWord 0x6010 0x31) &&
     endsWith (evalEds 0x40080004 k) s (fun _ t => done (.vptr false) ((t.popped 1).setCC 0b00))) = true := by
  decide +kernel

/-- One static link at the limits of the stack segment, a global pointer, and one through an external segment: paged,
out of its table, and at the limits of that stack. -/
theorem witness_static_links :
    (let s := withWords [(0x30010, 0xC0000020), (0x22000, 0x10), (0x2200C, 0x60), (0x22040, 0xC0000020)] segmented
     let walk := fun (p : Word) => ({ sb := 0x30000, upper := 0x30033, ptr := p, foreign := none } : LinkWalk)
     let goes := fun (p : Word) => endsWith (followLink (walk p)) s fun _ _ => true
     fails (followLink (walk 0x80000020)) s .unexpectedPointerType none && goes 0xC0000010 && fails (followLink (walk 0xC000000F)) s .boundsViolation none &&
     goes 0xC0000043 && fails (followLink (walk 0xC0000044)) s .boundsViolation none && s.hasAddr 0x30000 && s.hasAddr 0x30033 && s.mem.wf &&
     s.hasWord 0x6000 && decide (16 ≤ (s.word 0x6000).toNat) && (List.range 4).all (fun k => s.hasWord (0x6010 + BitVec.ofNat 32 (4 * k))) &&
     !bit (s.word 0x6010) 0 && fails (followLink (walk 0x40080050)) (s.putWord 0x6010 0x30) .unexpectedEdsType none &&
     fails (followLink (walk 0x40100050)) s .dstViolation none && endsWith (followLink (walk 0x40080050)) s (fun r t => (r.ptr == 0xC0000020) &&
       (r.sb == 0x22010) && (r.upper == 0x22040) && t.hasWord 0x22000 && t.hasAddr 0x2200C && t.hasAddr 0x22040) &&
     endsWith (followLink (walk 0x40080020)) s (fun r _ => r.upper == 0x22010) && failsWith (followLink (walk 0x4008001F)) s .boundsViolation none (s.putWord 0x6010 0x14) &&
     endsWith (followLink (walk 0x40080080)) s (fun r _ => r.upper == 0x22070) && failsWith (followLink (walk 0x40080081)) s .boundsViolation none (s.putWord 0x6010 0x14) &&
     endsWith (followLinks 2 (walk 0x40080050)) s (fun r _ => r.upper == 0x22020)) = true := by
  decide +kernel

/-- A chain of segments of 256 bytes by LINK, one of equal segments by number, and each way the walk ends. -/
theorem witness_chained :
    (let s := withWords [(0x6000, 0x50), (0x6010, 0x10), (0x6014, 0xFF), (0x6018, 0x22000), (0x601C, 0x00180300), (0x6020, 0x10), (0x6024, 0xFF),
         (0x6028, 0x23000), (0x602C, 0x80180000), (0x6030, 0x10), (0x6034, 0xFF), (0x6038, 0x24000)] { base with DST := 0x6000 }
     let byLink := s.putWord 0x601C 0x40180000
     let byNumber := s.putWord 0x601C 0xC0180000
     let k := fun (m u : Bool) => ({ index := none, modmem := m, unpriv := u, probe := false } : AccessKind)
     let ends := fun (p : Word) (t : State) (entry : Word) (o : Int) => endsWith (walkChain 0x1000 p (field p 13 19).toNat false) t fun c u =>
       (c.entry.addr == entry) && (c.offset == o) && (u.word entry == 0xFFFFFFFF) && (c.entry.w0 == t.word entry)
     let stops := fun (p : Word) (t : State) => fails (walkChain 0x1000 p (field p 13 19).toNat false) t .edsBoundsViolation none
     let at3 := fun (w : Word) => byNumber.putWord 0x6030 w
     s.mem.wf && (List.range 4).all (fun n => (List.range 4).all fun j => s.hasWord (BitVec.ofNat 32 (0x6000 + 16 * n + 4 * j))) &&
     ends 0x400800FF byLink 0x6010 0xFF && ends 0x40080100 byLink 0x6030 0 && stops 0x40080200 byLink && ends 0x400801FF byNumber 0x6020 0xFF &&
     ends 0x40080200 byNumber 0x6030 0 && stops 0x40080300 byNumber && stops 0x40080100 (s.putWord 0x601C 0) && ends 0x40080200 (at3 0x30) 0x6030 0 &&
     fails (walkChain 5 0x40080000 (-1) false) s .edsBoundsViolation none && fails (evalEds 0x40080200 (k true true)) (at3 0x30) .unexpectedEdsType none &&
     fails (evalEds 0x40080200 (k true true)) (at3 0) .dataSegmentWrite none && fails (evalEds 0x40080200 (k true true)) (at3 0x12) .privilegedModeData none &&
     fails (evalEds 0x40080200 (k true true)) (at3 0x11) .absentDataSegment (some 0x803) && fails (evalEds 0x40080200 (k true true)) (at3 0x7FF80010) .systemError (some 1) &&
     endsWith (evalEds 0x40080200 (k true true)) byNumber (fun l t => (l.addr == 0x24000) && (l.room == 0xFF) && (t.word 0x6030 == 0x1C))) = true := by
  decide +kernel

/-- Two paged segments; an index within the page, into the other segment, whose entry's fourth word may have no memory,
and to each trap. -/
theorem witness_paged_with_index :
    (let s := withWords [(0x6000, 0x20), (0x6010, 0x230), (0x6014, 0xF), (0x6018, 0x8000), (0x6020, 0x230), (0x6024, 0x7), (0x6028, 0x8100),
         (0x8000, 0x10), (0x8004, 0x22000), (0x8100, 0x10), (0x8104, 0x23000)] { base with DST := 0x6000 }
     let eval := fun (p x : Word) => evalEds p { index := some x, modmem := true, unpriv := true, probe := false }
     s.mem.wf && s.hasWord 0x6000 && (List.range 8).all (fun j => s.hasWord (BitVec.ofNat 32 (0x6010 + 4 * j))) && !bit (s.word 0x6010) 0 && !bit (s.word 0x6020) 0 &&
     bit (s.word 0x6010) 26 && endsWith (eval 0x40080004 0xFB) s (fun l _ => (l.addr == 0x220FF) && (l.room == 0) && (l.offset == 0xFF)) &&
     endsWith (eval 0x40080004 0x80000) s (fun l t => (l.addr == 0x23004) && (l.ptr == 0x40100004) && (t.word 0x6020 == 0x234) && (t.word 0x6010 == 0x230)) &&
     fails (eval 0x40080004 0x40000000) s .edsBoundsViolation none && fails (eval 0x40080004 0xFFF80000) s .edsPointerViolation none &&
     fails (eval 0x40080004 0x00100000) s .dstViolation none && fails (eval 0x40080004 0x80000) (s.putWord 0x6020 0x10) .unexpectedEdsType none &&
     fails (eval 0x40080004 0x80000) (s.putWord 0x6020 0x231) .absentPageTable (some 0x40100004) &&
     endsWith (eval 0x40080004 0x80000) { s with cfg := { s.cfg with holes := [⟨0x602C, 4⟩] } } (fun l t => (l.addr == 0x23004) && (t.MSG == 0)) &&
     failsWith (eval 0x40080004 0x80100) s .pageTableViolation none (s.putWord 0x6020 0x234) && endsWith (eval 0x40080004 0x800FB) s (fun l _ => l.room == 0)) = true := by
  decide +kernel

/-- A note-2 trap from a process and on the ICS, where the number of an absent segment is negated; a stack overflow;
and the entry of segment 1 by itself, from the segments 0, 1 and 2. -/
theorem witness_note_two :
    (let s := linked
     let calm := fun (v : State) => decide (v.S.toNat ≤ v.SL.toNat ∧ v.PB.toNat ≤ v.P.toNat ∧ v.P.toNat ≤ v.PL.toNat)
     let ics : State := { tasked with icsFlag := true, Q := 0x500A3, S := 0x500AF, SB := 0x4FFA0, SL := 0x50FFF }
     let enters := fun (c : Word) => endsWith enterSegment1 { s with STATUS := c } fun _ t => (t.PB == 0x10000) && (t.csn == 1) && t.privileged
     endsWith (trapEntry .boundsViolation none s.P : M Unit) { s with prevDup := false } (fun _ v => calm v) &&
     nextIs (conclude s (takeTrap .absentDataSegment (some 0x801)) ics) (fun v => v.word (v.Q + 12) == 0xFFFFF7FF) &&
     nextIs (conclude s (takeTrap .absentDataSegment (some 0x801)) s) (fun v => v.word (v.Q + 12) == 0x801) &&
     endsWith (icsTrapEntry .stackOverflow none tasked.P : M Unit) (({ tasked with prevDup := false } : State).setPending false) (fun _ v => calm v) &&
     s.mem.wf && decide ((s.word 0).toNat + 16 < 2 ^ 29) && [(0 : Word), 0x1010, 0x1014, 0x1018].all (fun a => s.hasWord a) && s.hasCst 2 &&
     decide ((s.word 0x1018).toNat < 2 ^ 29) &&
     !bit (s.word 0x1020) 0 && !bit (s.word 0x1010) 0 && enters 0x00020000 && enters 0x00020001 && enters 0x00020002 &&
     s.hasWord (s.PL - 4 * 23) && !bit (s.word (s.PL - 4 * 23)) 0 && !s.alignmentBug 0x10000) = true := by
  decide +kernel

/-- A trap taken on the ICS, from a process and on it; a stack overflow there; the tests after an entry: nothing, S
beyond SL, P outside, and outside again. -/
theorem witness_ics_trap :
    (let s := tasked
     let ics : State := { s with icsFlag := true, Q := 0x500A3, S := 0x500AF, SB := 0x4FFA0, SL := 0x50FFF }
     let entry := fun (t : Trap) (u : State) => endsWith (switchToIcs 0x10012) u fun _ v =>
       let v := { v.putWord (v.Q + 12) 0x80020001 with S := v.Q + 12 }
       v.hasWord v.S && endsWith enterSegment1 v fun _ w => endsWith (enterHandler t) w fun _ _ => true
     let beyond : State := { ics with SL := ics.S - 4 }
     let outside : State := { s with P := s.PL + 4 }
     decide (ics.SL.toNat + 256 < 2 ^ 29) && entry .message s && entry .message ics && entry .stackOverflow { ics with SL := ics.SL + 256 } && ics.hasWord (ics.Q + 12) &&
     endsWith enterSegment1 (ics.putWord (ics.Q + 12) 0x80050001) (fun _ u => endsWith (enterHandler .stackOverflow) u fun _ v =>
       v.icsFlag && endsWith (switchToIcs v.P) v fun _ _ => true) && decide (s.S.toNat ≤ s.SL.toNat ∧ s.PB.toNat ≤ s.P.toNat ∧ s.P.toNat ≤ s.PL.toNat) &&
     decide (beyond.SL.toNat < beyond.S.toNat) && endsWith (icsTrapEntry .stackOverflow none beyond.P : M Unit) beyond (fun _ v => v.SL == beyond.SL + 256) &&
     decide (outside.PL.toNat < outside.P.toNat ∧ outside.S.toNat ≤ outside.SL.toNat) && endsWith (trapEntry .sequencing none outside.P : M Unit) outside (fun _ v =>
       endsWith (postEntryTests 3 true : M Unit) v fun _ _ => true)) = true := by
  decide +kernel

/-- A device on no list, with its level's list empty and not; one that is on a list; the dedicated locations and the
bytes beside them; and the steps that make these moves. -/
theorem witness_other_agents :
    (let s := tasked
     let ask := fun (t : State) (p : State → Bool) => endsWith (deliver (.interrupt 3 0 1)) t fun _ u => p u
     let one := withWords [(0x418, 0xB0), (0x41C, 0xB0)] s
     let listed := withWords [(0x418, 0x90), (0x41C, 0x90)] s
     s.hasWord 0x418 && s.hasWord 0x41C && (s.word 0x418 == 0) && ask s (fun u => (u.word 0x418 == 0x90) && (u.word 0x41C == 0x90) && bit u.MSG 19) &&
     one.hasHalf 0xB0 && ask one (fun u => (u.word 0x418 == 0x90) && (u.word 0x41C == 0xB0) && (u.word 0xB0 == 0x00900000) && bit u.MSG 19) &&
     ask listed (fun u => decide (u = listed)) && s.hasByte 15 && s.hasByte 0x480 &&
     endsWith (deliver (.writeByte 15 7)) s (fun _ u => u.byte 15 == 7) && endsWith (deliver (.writeByte 16 7)) s (fun _ u => decide (u = s)) &&
     endsWith (deliver (.writeByte 0x47F 7)) s (fun _ u => decide (u = s)) && endsWith (deliver (.writeByte 0x480 7)) s (fun _ u => u.byte 0x480 == 7) &&
     nextIs (step { s with inputs := [.move (.slaveWrite 5 6)] }) (fun t => (t.SAR == 5) && (t.SDR == 6) && bit t.MSG 6 && t.inputs.isEmpty && (t.P == s.P)) &&
     nextIs (step { s.putWord 0x10010 0x00200020 with inputs := [.pass] }) (fun t => t.P == s.P + 2) &&
     nextIs (step { s with inputs := [.move .reset] }) (fun t => t.privileged && t.lockout && (t.word 0x500AF == 0x80020001)) &&
     nextIs (step { s with inputs := [.pollInside 2 []] }) (fun t => t.poll.isSome && (t.P == s.P))) = true := by
  decide +kernel
/-! ## Hypotheses of the statements about addresses, traps and the whole machine -/

/-- The first and the last byte of each segment, and the bytes beside them, by the three kinds of base. -/
theorem witness_effective_addresses :
    (let s := withWords [(0x10000, 0xFFFFFFFC), (0x20000, 0x80000000), (0x20004, 0xC0000063)] { base with X := 0xFFFFFFFF, P := 0x10000 }
     let ok := fun (b : Base) (n : Nat) (x : Bool) => endsWith (effective b n false x false 0) s (fun _ _ => true)
     let no := fun (b : Base) (n : Nat) (x : Bool) => trapsIn (effective b n false x false 0) s
     ok .pPlus 0 false && no .pMinus 0 true && ok .pPlus 0x2FFF false && no .pPlus 0x3000 false && ok .dbPlus 0 false &&
     no .dbPlus 0 true && ok .dbPlus 0xFFF false && no .dlMinus 0x1000 false && ok .sbPlus 0 false && no .sbPlus 0 true &&
     ok .sMinus 0 false && no .qPlus 0x31 false && s.hasWord 0x10000 && baseIsCode .pPlus && s.hasWord 0x20000 &&
     !baseIsCode .dbPlus && bit (s.word 0x20000) 0 && trapsIn (effective .pPlus 0 true false false 0) s &&
     s.hasAddr 0x10000 && s.hasAddr 0x20000 &&
     endsWith (effective .dbPlus 0 true false false 0) s (fun e _ => (e.addr == 0x20000) && (e.pointer == 0x80000000)) &&
     endsWith (effective .dbPlus 4 true false false 0) s (fun e _ => (e.addr == 0x30063) && (e.pointer == 0xC0000063)) &&
     trapsIn (effective .dbPlus 4 true false false 4) s && endsWith (effective .dlMinus 0xFFF false false true 0) s (fun e _ =>
       e.pointer == 0x80000000) && endsWith (effective .qPlus 4 false false true 0) s (fun e _ => e.pointer == 0xC0000037) &&
     bit 0x40080004#32 1 && endsWith (effective .dbPlus 8 true false true 4) segmented (fun e _ => e.pointer == 0x40080004) &&
     trapsIn (effective .dbPlus 8 true false true 4) (segmented.putWord 0x20008 0x400800FC) &&
     endsWith (effective .dbPlus 8 true false true 0) (segmented.putWord 0x20008 0x400800FC) (fun _ _ => true) &&
     trapsIn (effective .dbPlus 8 true false true 0) (segmented.putWord 0x6010 0) &&
     endsWith (effective .dbPlus 0xFF8 false false false 4) s (fun _ _ => true) && trapsIn (effective .dbPlus 0xFFC false false false 4) s) = true := by
  decide +kernel

/-- The first and the last byte that a popped stack pointer reaches, for each number of words popped, those that a global
one reaches whatever is popped, the last doubleword of each, and an external pointer. -/
theorem witness_popped_pointers :
    (let s := { base with X := 0xFFFFFFFF }
     let gets := fun (p : Word) (x : Bool) (span n : Nat) (a : Word) (room : Int) =>
       endsWith (evalPopped p x false span n) s (fun l t => (l.addr == a) && (l.room == room) && decide (t = s))
     let no := fun (p : Word) (x : Bool) (span n : Nat) => fails (evalPopped p x false span n) s .boundsViolation none
     let kind : AccessKind := { index := some 0xFFFFFFFF, modmem := true, unpriv := true, probe := false }
     gets 0xC0000063 false 0 0 0x30063 0 && gets 0xC000005F false 0 1 0x3005F 0 && no 0xC0000060 false 0 1 &&
     gets 0xC000005B false 0 2 0x3005B 0 && no 0xC000005C false 0 2 && gets 0xC0000057 false 0 3 0x30057 0 &&
     no 0xC0000058 false 0 3 && gets 0xC0000001 true 0 1 0x30000 0x5F && no 0xC0000000 true 0 1 &&
     gets 0xC0000053 false 4 3 0x30053 4 && no 0xC0000054 false 4 3 && gets 0x80000FFF false 0 3 0x20FFF 0 &&
     no 0x80001000 false 0 3 && gets 0x80000001 true 0 1 0x20000 0xFFF && no 0x80000000 true 0 1 &&
     gets 0x80000FFB false 4 3 0x20FFB 4 && no 0x80000FFC false 4 3 &&
     endsWith (evalDsp 0xC0000001 kind 4) s (fun l t => (l.addr == 0x30000) && (l.room == 0x5F) && decide (t = s)) &&
     fails (evalDsp 0xC0000000 kind 4) s .boundsViolation none &&
     endsWith (evalEds 0x40080004 (segmented.access none false)) segmented (fun _ _ => true) &&
     endsWith (evalPopped 0x40080004 false false 4 1) segmented (fun l _ => l.addr == 0x22004) &&
     endsWith (evalPopped 0x400800FC false false 0 1) segmented (fun l _ => l.addr == 0x220FC) &&
     trapsIn (evalPopped 0x400800FC false false 4 1) segmented &&
     trapsIn (evalEds 0x40080004 (segmented.access none false)) (segmented.putWord 0x6010 1) &&
     trapsIn (evalPopped 0x40080004 false false 0 1) (segmented.putWord 0x6010 1)) = true := by
  decide +kernel

/-- A segment of 256 bytes: its first and last byte, the byte before and the byte after, and each test that can fail. -/
theorem witness_unpaged :
    (let s := segmented
     let kind := fun (x : Option Word) (m u : Bool) => ({ index := x, modmem := m, unpriv := u, probe := false } : AccessKind)
     let ok := fun (p : Word) (x : Option Word) => endsWith (evalEds p (kind x true true)) s (fun _ _ => true)
     let no := fun (p : Word) (x : Option Word) (t : State) => trapsIn (evalEds p (kind x true true)) t
     s.mem.wf && s.hasWord 0x6000 && s.hasWord 0x6010 && s.hasWord 0x6014 && s.hasWord 0x6018 && s.hasWord 0x601C &&
     !bit (s.word 0x6010) 0 && !bit (s.word 0x6010) 26 && decide (s.DST.toNat + 16 < 2 ^ 29) && ok 0x40080000 none && ok 0x400800FF none && ok 0x40080001 (some 0xFFFFFFFF) &&
     no 0x40080000 (some 0xFFFFFFFF) s && no 0x40080100 none s && no 0x40000000 none s && no 0x40100000 none s &&
     no 0x40080000 none (s.putWord 0x6010 0) && no 0x40080000 none (s.putWord 0x6010 0x12) && no 0x40080000 none (s.putWord 0x6010 0x11) &&
     no 0x40080000 none (s.putWord 0x6010 0x7FF80010) && decide ((s.word 0x6018).toNat + 255 < 2 ^ 29) && !bit (s.word 0x601C) 0 &&
     (field (s.word 0x601C) 1 12 == 0)) = true := by
  decide +kernel

/-- A paged segment of two pages of 256 bytes: the last byte of the second page, and each test that can fail. -/
theorem witness_paged :
    (let s := withWords [(0x6000, 0x10), (0x6010, 0x230), (0x6014, 0xF), (0x6018, 0x8000), (0x8008, 0x10), (0x800C, 0x22100)]
       { base with DST := 0x6000 }
     let k : AccessKind := { index := none, modmem := true, unpriv := true, probe := false }
     let no := fun (p : Word) (t : State) => trapsIn (evalEds p k) t
     s.mem.wf && s.hasWord 0x6000 && s.hasWord 0x6010 && s.hasWord 0x6014 && s.hasWord 0x6018 && s.hasWord 0x601C &&
     !bit (s.word 0x6010) 0 && !bit ((s.taken 0x6010).word 0x8008) 0 && decide ((s.word 0x6018).toNat + 8 < 2 ^ 29) && bit (s.word 0x6010) 26 && (field (s.word 0x6010) 22 4 == 8) && s.hasWord 0x8008 && s.hasWord 0x800C && !bit (s.word 0x8008) 0 &&
     endsWith (evalEds 0x400801FF k) s (fun l t => (l.addr == 0x221FF) && (t.word 0x8008 == 0x1C) && (t.word 0x6010 == 0x234)) &&
     no 0x40080200 s && no 0x400801FF (s.putWord 0x6010 0x231) &&
     fails (evalEds 0x400801FF k) (s.putWord 0x6010 0x7FF80230) .systemError (some 1) &&
     failsWith (evalEds 0x40080200 k) s .pageTableViolation none (s.putWord 0x6010 0x234) && no 0x400801FF (s.putWord 0x8008 0) &&
     no 0x400801FF (s.putWord 0x8008 0x12) && no 0x400801FF (s.putWord 0x8008 0x11) && no 0x400801FF (s.putWord 0x8008 0x7FF80010)) = true := by
  decide +kernel

theorem witness_pointer_frame :
    (let s := segmented
     let k : AccessKind := { index := none, modmem := true, unpriv := false, probe := false }
     s.cfg.holes.isEmpty && s.mem.wf && endsWith (evalDsp 0x40080004 k 0) s (fun l t => (t.byte 0x6013 == 0x1C) && (s.byte 0x6013 == 0x10) &&
       (wordAlign l.entry == 0x6010)) && endsWith (evalDsp 0x80000004 k 0) s (fun _ t => t.byte 0x6013 == 0x10)) = true := by
  decide +kernel

theorem witness_store_bytes :
    (let s := onTop [0xAABBCCDD] base
     s.mem.wf && s.hasWord 0x20005 && s.hasHalf 0x20005 && s.hasByte 0x20005 && !s.tv &&
     endsWith (effective .dbPlus 5 false false true 0) s (fun e t => t.mem.wf && !t.tv && t.hasStack 1 1 && t.canPop 1 && t.hasWord e.addr &&
       t.hasHalf e.addr && t.hasByte e.addr && done (.st false false .dbPlus 5) ((t.putWord e.addr (t.top 0)).popped 1) &&
       done (.sth false false .dbPlus 5) ((t.putHalf e.addr 0xCCDD).popped 1) && done (.stb false false .dbPlus 5) ((t.putByte e.addr 0xDD).popped 1)) &&
     nextIs (exec (.st false false .dbPlus 5) s) (fun t => t.word 0x20004 == 0xAABBCCDD) &&
     nextIs (exec (.sth false false .dbPlus 5) s) (fun t => t.word 0x20004 == 0xCCDD0000) &&
     nextIs (exec (.stb false false .dbPlus 5) s) (fun t => t.word 0x20004 == 0x00DD0000)) = true := by
  decide +kernel

/-- The User Trap from segment 1, from the segment 0 of the reset microcode, and from segment 2, whose use count goes down. -/
theorem witness_trap_entry :
    (let entered := fun (s : State) => endsWith (trapEntry .user (some 1) 0x10012 : M Unit) s (fun _ t =>
       (t.PB == 0x10000) && (t.P == 0x10000) && (t.word t.Q == 0x40) && (t.word (t.Q + 12) == 1))
     let s := linked
     let zero : State := { s with STATUS := 0x00020000 }
     let two : State := { s with STATUS := 0x00020002 }
     let m := s.marked 0x10012
     s.mem.wf && s.hasStack 0 4 && s.hasWord 0 && decide ((m.word 0).toNat + 16 < 2 ^ 29) && decide ((m.word 0x1018).toNat < 2 ^ 29) &&
     [(0x1010 : Word), 0x1014, 0x1018].all (fun a => m.hasWord a) && (s.csn == 1) && (zero.csn == 0) && (two.csn == 2) &&
     (two.marked 0x10012).hasCst 2 && !bit (m.word 0x1020) 0 && !bit (m.word 0x1010) 0 && m.hasWord (m.Q + 12) &&
     m.hasWord (0x12FFC - 4 * 23) && !bit (m.word (0x12FFC - 4 * 23)) 0 && !m.alignmentBug 0x10000 && entered s && entered zero && entered two &&
     endsWith (trapEntry .user (some 1) 0x10012 : M Unit) two (fun _ t => useCount (t.word 0x1020) == 1)) = true := by
  decide +kernel

theorem witness_exit_from_trap :
    (let s := linked
     s.mem.wf && (s.csn == 1) && s.privileged && (field s.S 30 2 == 3) && decide (s.Q.toNat ≤ s.S.toNat ∧ s.S.toNat + 28 < 2 ^ 29) &&
     s.hasStack 0 7 && endsWith (trapEntry .user (some 1) 0x10012 : M Unit) s (fun _ u => (u.PB == s.PB) &&
       lands { u with Q := s.Q, S := s.S, X := s.X, STATUS := s.STATUS } 0x10012)) = true := by
  decide +kernel

theorem witness_end_of_instruction :
    (let s := { onTop [1, 0x7FFFFFFF] linked with STATUS := 0x00820001 }
     let v : State := { s.putWord 0x20000 0x7FFFFFFF with STATUS := 0x80820001 }
     let i : State := { base with STATUS := 0x00060001, MSG := 0x00080000 }
     let dev : State := { i with MSG := 0x00001000 }
     let n := base.advanced .nop
     s.hasStack 2 0 && s.canPop 1 && overflows32 0x80000000 && s.trapEnable && !s.interruptEnable && v.tv && v.trapEnable && !v.interruptEnable &&
     endsWith (effective .dbPlus 0 false false true 0) v (fun e t => decide (t = v) && v.hasWord e.addr && (v.word e.addr == 0x7FFFFFFF)) &&
     i.interruptEnable && (i.MSG &&& ~~~ i.MASK &&& 0xE3FF0000 != 0) && (i.levelBits == 0) && (dev.levelBits != 0) &&
     (({ i with MSG := 0x00081000 } : State).levelBits != 0) && (dev.MSG &&& ~~~ dev.MASK &&& 0xE3FF0000 == 0) && i.hasStack 1 0 &&
     decide ((i.top 0).toInt < (5 : BitVec 5).toNat) && endsWith (interruptEntry 0x10012) (dev.advanced .nop) (fun b t => !b && !t.outOfSequence &&
       !t.stackOverflowed && decide (t.P ≠ t.BRKPT) && !(t.machineTrap && t.machineTrapEnable)) && !base.overflow && !base.interruptPending &&
     !n.outOfSequence && !n.stackOverflowed && decide ({ base with BRKPT := 0x10012 }.P + 2 = 0x10012) && decide (base.P + 2 ≠ base.BRKPT) &&
     (let e : State := { base with STATUS := 0x01020001, FLAGS := 0x40 }
      (e.machineTrap && e.machineTrapEnable) || (List.range 8).any fun k =>
        let e : State := { base with STATUS := 0xFFFFFFFF, FLAGS := BitVec.ofNat 8 (2 ^ k) }
        e.machineTrap && e.machineTrapEnable) &&
     ({ base with PL := base.P }.advanced .nop).outOfSequence && ({ base with SL := base.S - 4 }.advanced .nop).stackOverflowed &&
     !({ base with SL := base.S }.advanced .nop).stackOverflowed) = true := by
  decide +kernel

/-- Levels 3 and 5 pending, 3 masked or not; the three ways into the ICS. -/
theorem witness_interrupt_stack :
    (let s := tasked
     let m := s.marked 0x10012
     let p : State := { s with MSG := 0x00001400, STATUS := 0x00060001 }
     let low : State := { s with SL := s.S }
     let ics : State := { s with icsFlag := true, dispFlag := true, Q := 0x500A3, S := 0x500AF, SB := 0x4FFA0, SL := 0x50FFF }
     !s.icsFlag && s.hasStack 0 4 && s.hasWord (s.SB - 4) && s.hasWord 0x18 && s.hasWord 0x1C && s.hasWord 0x500AB && s.hasWord 0x500AF &&
     decide ((s.word 0x18).toNat < 2 ^ 29 ∧ (s.word 0x1C).toNat < 2 ^ 29) && decide (m.S.toNat ≤ s.SL.toNat) &&
     decide (low.SL.toNat < (low.marked 0x10012).S.toNat) && endsWith (switchToIcs 0x10012) low (fun _ t => (t.word 0x500AF == 0x80050001) &&
       (t.Q == 0x500AF + 16)) && ics.hasStack 0 6 && ics.hasWord ics.SB && endsWith (switchToIcs 0x10012) ics (fun _ t => !t.dispFlag &&
       bit (t.word t.Q) 0 && (t.word (t.Q + 8) == ics.MASK)) &&
     (p.pendingLevel == some 3) && ({ p with MASK := 0x04001000 }.pendingLevel == some 5) && p.hasWord 0x418 && (p.word 0x418 == 0)) = true := by
  decide +kernel

/-- Two devices on the list of level 3; the code of the first in segment 2 or at an absolute address. -/
theorem witness_device_service :
    (let s := withWords [(0x418, 0x110), (0x41C, 0x90), (0x90, 0x01100000), (0x94, 0x80025000), (0x98, 0x80004002)]
       { tasked with MSG := 0x00001000, STATUS := 0x00060001 }
     let far := s.putWord 0x98 0x20100
     let served := fun (u : State) => endsWith (interruptEntry 0x10012) u (fun b t => b && (t.word 0x500AF == 0x90) && (t.word 0x41C == 0x110) &&
       (t.DB == 0x25000) && (t.MASK == 0x04001FFF) && t.privileged)
     let last := withWords [(0x418, 0x90), (0x90, 0)] s
     (s.pendingLevel == some 3) && s.hasWord 0x418 && s.hasWord 0x41C && s.hasHalf 0x90 && (s.word 0x418 != 0) && s.hasWord 0x500AF &&
     s.hasWord 0x94 && s.hasWord 0x98 && (lowerLevels s.cfg.level0Highest 3 == 0x1FFF) &&
     endsWith (switchToIcs 0x10012) s (fun _ v => endsWith (setDbDl 0x80025000) v (fun _ w => w.hasWord w.SB)) && served s && served far &&
     served { far with STATUS := 0x00060000 } && endsWith (interruptEntry 0x10012) s (fun _ t => (t.csn == 2) && (t.P == 0xA040)) &&
     endsWith (interruptEntry 0x10012) far (fun _ t => (t.csn == 0) && (t.P == 0x20100)) &&
     endsWith (interruptEntry 0x10012) last (fun b t => b && (t.word 0x418 == 0) && (t.MSG == 0))) = true := by
  decide +kernel

theorem witness_hardware_reset :
    (let s := tasked
     s.hasStack 0 4 && s.hasWord (s.SB - 4) && decide ((s.word 0x18).toNat < 2 ^ 29 ∧ (s.word 0x1C).toNat < 2 ^ 29 ∧ (s.word 0).toNat + 16 < 2 ^ 29) &&
     decide ((s.word 0x1018).toNat < 2 ^ 29) && [(0x18 : Word), 0x1C, 0x500AB, 0x500AF, 0, 0x1014, 0x1018, 0x12FFC - 32].all (fun a => s.hasWord a) &&
     !s.alignmentBug 0x10000 && endsWith hardwareReset { s with lockout := false } (fun _ t => (t.P == 0x10000) && (t.Q == 0x500A3) && t.lockout) &&
     endsWith hardwareReset { s with SB := 0 } (fun _ t => t.STATUS == 0x00020001)) = true := by
  decide +kernel

/-- A word of each form that CIR holds, and what the fetch of each leaves there; an ill-formed instruction has its word
too. 0x00010000 has neither form. -/
theorem witness_encodings :
    (let held := fun w : Word => field w 0 3 = 7#3 ∨ field w 0 16 = 0#16
     let fetched := fun (s : State) (w : Word) => endsWith fetch s (fun v t => (v == w) && (t.CIR == w))
     decide (held 0x20) && decide (decodeCir 0x20 = .instr .del) && decide (encode .del = 0x20) &&
     decide (held 0xE8100008) && decide (decodeCir 0xE8100008 = .instr (.ld false false .dbPlus 8)) &&
     decide (encode (.ld false false .dbPlus 8) = 0xE8100008) && WellFormed (.ld false false .dbPlus 8) &&
     decide (held 0x42) && decide (encode (.lbit false) = 0x42) && !decide (held 0x10000) &&
     fetched (base.putWord 0x10010 0x00200045) 0x20 && fetched (base.putWord 0x10010 0xE8100008) 0xE8100008 &&
     fetched { base.putWord 0x10010 0x00200045 with P := 0x10012 } 0x45) = true := by
  decide +kernel

/-- DEL at an address that is a multiple of 4, DEL two bytes on, LD, and the unassigned halfword 0x3800. -/
theorem witness_step :
    (let s := base.putWord 0x10010 0x00200020
     let h : State := { s with P := 0x10012 }
     let l := base.putWord 0x10010 0xE8100008
     s.inputs.isEmpty && decide (s.run = .running) && s.hasWord s.P && h.hasWord h.P && !(s.overflow && s.trapEnable) && !s.interruptPending &&
     nextIs (step s) (fun t => (t.S == s.S - 4) && (t.P == 0x10012)) && nextIs (step h) (fun t => t.P == 0x10014) &&
     nextIs (step l) (fun t => (t.S == s.S + 4) && (t.P == 0x10014)) && decide (decodeCir 0x0020#32 = .instr .del) &&
     decide (decodeCir 0xE8100008#32 = .instr (.ld false false .dbPlus 8)) && decide (decodeCir 0x3800#32 = .unimplemented) &&
     decide (s.cfg.rev ≠ .le33) && s.owned.isEmpty && nextIs (step { s with owned := [(0x1010, 5)] }) (fun t => t.owned.isEmpty &&
       (t.word 0x1010 == 5))) = true := by
  decide +kernel

theorem witness_user_mode :
    (let s : State := { base with STATUS := 1 }
     !s.privileged && s.poll.isNone && nextIs (exec .nop s) (fun t => t.P == s.P + 2) && nextIs (exec .zero s) (fun t => t.S == s.S + 4)) = true := by
  decide +kernel

theorem witness_invariant :
    (base.mem.wf && !bit base.P 31 && (field base.MSG 3 3 == 0) && nextIs (step (base.putWord 0x10010 0x00200020)) (fun t => t.mem.wf)) = true := by
  decide +kernel

theorem witness_special_registers :
    (base.poll.isNone && nextIs (exec (.setr 16) (onTop [0x10020] base)) (fun t => t.BRKPT == 0x10020) && nextIs (exec .nop base) (fun t => t.BRKPT == base.BRKPT)) = true := by
  decide +kernel

/-! ## Hypotheses of the clauses about traps at the end and before the effect -/

/-- `base` with T = 1. -/
def armed : State := { base with STATUS := 0x00820001 }

/-- The hypotheses of `EndsInUserTrap`. -/
def userTraps (i : Instr) (u : State) : Bool := u.trapEnable && !((u.setO false).advanced i).interruptPending

/-- The hypotheses of `OnStackSettingO` on the side that sets O. -/
def sets (i : Instr) (s : State) (n k p : Nat) (u : State) (c : Bool) : Bool :=
  s.hasStack n k && s.popsOk p && c && userTraps i u

theorem witness_user_trap_of_sums :
    (let s := onTop [0x7FFFFFFF] { armed with X := 1 }
     let sum := fun (t : State) (r : Int) => ((t.putX (wordOf r)).noteOverflow (inexactWord r)).setCC (ccWord (wordOf r))
     let adds := fun (i : Instr) (s : State) (n p : Nat) (r : Int) => sets i s n 0 p (sum (s.popped p) r) (inexactWord r)
     adds (.adxi 1) { s with X := 0x7FFFFFFF } 0 0 (0x7FFFFFFF + 1) && adds (.sbxi 1) { s with X := 0x80000000 } 0 0 (-0x80000000 - 1) &&
     adds (.adax false) s 1 0 (1 + 0x7FFFFFFF) && adds (.adax true) s 1 1 (1 + 0x7FFFFFFF) &&
     (let two := (onTop [1, 0x7FFFFFFF] armed).setCarry true
      let left := fun (t : State) (r : Int) => (((t.putTop 1 (wordOf r)).popped 1).noteOverflow (inexactWord r)).setCC (ccWord (wordOf r))
      let claim := fun (i : Instr) (t : State) (r : Int) => sets i t 2 0 1 (left t r) (inexactWord r)
      claim (.add false) two (0x7FFFFFFF + 1) && claim (.add true) two (0x7FFFFFFF + 1 + 1) &&
      claim (.sub false) (two.putTop 1 0x80000000) (-0x80000000 - 1) && claim (.sub true) (two.putTop 1 0x80000000) (-0x80000000 - 1)) &&
     (let top := onTop [0x80000000] { armed with X := 0xFFFFFFFF }
      let left := fun (r : Int) => ((top.putTop 0 (wordOf r)).noteOverflow (inexactWord r)).setCC (ccWord (wordOf r))
      let claim := fun (i : Instr) (r : Int) => sets i top 1 0 0 (left r) (inexactWord r)
      claim .neg 0x80000000 && claim (.subi 1) (-0x80000000 - 1) && claim (.mpyi 2) (-0x80000000 * 2) && claim .adxa (-0x80000000 - 1) &&
      sets .isc top 1 0 0 ((top.noteOverflow true).setCC ccL) true) &&
     (let high := onTop [0x7FFFFFFF] armed
      sets (.addi 1) high 1 0 0 (((high.putTop 0 0x80000000).noteOverflow true).setCC ccL) (inexactWord (0x7FFFFFFF + 1)))) = true := by
  decide +kernel

/-- 2 by the largest word; a divisor of 0; the most negative doubleword and word by -1. -/
theorem witness_user_trap_of_products :
    (let s := onTop [2, 0x7FFFFFFF] armed
     let long := fun q : Int => decide ((BitVec.ofInt 64 q).toInt ≠ q)
     let zero := onTop [0, 7, 0] armed
     let d := onTop [0xFFFFFFFF, 0, 0x80000000] armed
     let w := onTop [0xFFFFFFFF, 0x80000000] armed
     sets (.mpy false) s 2 0 1 ((((s.putTop 1 0xFFFFFFFE).popped 1).noteOverflow true).setCC ccL) (inexactWord (0x7FFFFFFF * 2)) &&
     [false, true].all (fun pos => sets (.div pos) zero 3 0 0 (zero.setO true) true && sets (.divs pos) zero 2 0 0 (zero.setO true) true &&
       sets (.div pos) d 3 0 0 (((((d.noteOverflow true).putTop 2 0x80000000).putTop 1 0).putTop 0 0).setCC ccL) (long (2 ^ 63)) &&
       sets (.divs pos) w 2 0 0 ((((w.noteOverflow true).putTop 1 0x80000000).putTop 0 0).setCC ccL) (inexactWord (2 ^ 31))) &&
     sets (.divi 0) s 1 0 0 (s.setO true) true && ((d.top 2 ++ d.top 1).toInt == -2 ^ 63) && ((w.top 1).toInt == -2 ^ 31) &&
     ((d.top 0).toInt == -1) && decide ((-2 ^ 63 : Int) = 2 ^ 63 * -1 + 0) && decide ((-2 ^ 31 : Int) = 2 ^ 31 * -1 + 0) &&
     (let a := onTop [0x40000000] armed
      sets (.asl false 1) a 1 0 0 (((a.noteOverflow true).putTop 0 0x80000000).setCC ccL) (inexactWord (0x40000000 * 2)))) = true := by
  decide +kernel

/-- 2^40 as a single and as a double, whose integer part does not fit in a word. -/
theorem witness_user_trap_of_conversions :
    single.rat (single.unpack 0x53800000) = 2 ^ 40 ∧ double.rat (double.unpack 0x4270000000000000) = 2 ^ 40 ∧
    ¬ ((2 ^ 40 : ℚ) < 0) ∧ ⌊|(2 ^ 40 : ℚ)| + 0⌋ = 2 ^ 40 ∧ inexactWord (2 ^ 40) = true ∧
    (let q := onTop [0x53800000] armed
     let y := onTop [0, 0x42700000] armed
     single.usable (single.unpack (q.top 0).toNat) && double.usable (double.unpack (y.topDouble 0).toNat) &&
     sets (.fixs false) q 1 0 0 (((q.putTop 0 0).noteOverflow true).setCC ccE) true &&
     sets (.fixd false) y 2 0 1 ((((y.putTop 1 0).popped 1).noteOverflow true).setCC ccE) true) = true := by
  refine ⟨?_, ?_, by norm_num, ?_, by decide +kernel, by decide +kernel⟩
  · rw [show single.unpack 0x53800000 = ⟨false, 167, 0⟩ by decide +kernel]
    norm_num [FloatFormat.rat, FloatFormat.bias, single]
  · rw [show double.unpack 0x4270000000000000 = ⟨false, 1063, 0⟩ by decide +kernel]
    norm_num [FloatFormat.rat, FloatFormat.bias, double]
  · norm_num

/-- The largest and the smallest word at DB+12 with T = 1, and TV = 1 or not; CMPM's own trap, and its pop's. -/
theorem witness_memory_operand_traps :
    (let up := armed.putWord 0x2000C 0x7FFFFFFF
     let down := armed.putWord 0x2000C 0x80000000
     let traced := fun t : State => { t with STATUS := t.STATUS ||| 0x80000000 }
     let ends := fun (j : Instr) (s : State) (k : Int) (tv : Bool) =>
       endsWith (effective .dbPlus 12 false false true 0) s fun e t =>
         let r := (t.word e.addr).toInt + k
         let u := ((t.putWord e.addr (wordOf r)).noteOverflow (inexactWord r)).setCC (ccWord (wordOf r))
         t.hasWord e.addr && inexactWord r && (u.tv == tv) && userTraps j u
     [false, true].all (fun tv =>
       let m := fun t : State => if tv then traced t else t
       ends (.incm false false .dbPlus 12) (m up) 1 tv && ends (.incf false false .dbPlus 12) (m up) 4 tv &&
       ends (.decm false false .dbPlus 12) (m down) (-1) tv && ends (.decf false false .dbPlus 12) (m down) (-4) tv) &&
     trapsIn (effective .dbPlus 8 true false true 0) (segmented.putWord 0x6010 0) && !baseIsCode .dbPlus &&
     trapsIn (effective .dbPlus 8 true false false 0) { segmented with DL := segmented.DB } &&
     endsWith (effective .dbPlus 8 true false false 0) (bare segmented) (fun e t => t.hasStack 1 0 && !t.canPop 1 && t.hasWord e.addr)) = true := by
  decide +kernel

/-- PSHN that pops the word it repeats: nothing there to pop, no room for what it pushes, and room. -/
theorem witness_repeated_push :
    (let s : State := { base with X := 2 }
     let full : State := { base with X := 0x10000000, SL := base.S }
     !(bare s).popsOk 1 && s.popsOk 1 && s.hasStack 1 0 && decide ((s.popped 1).S.toNat + 4 * s.X.toInt ≤ s.SL.toNat) &&
     (s.popped 1).hasStack 0 2 && full.popsOk 1 && full.popsOk 0 && full.hasStack 1 0 && !full.hasStack 1 full.X.toNat &&
     decide ((full.SL.toNat : Int) < (full.popped 1).S.toNat + 4 * full.X.toInt)) = true := by
  decide +kernel

/-- The traps of EA for the loads and stores, the pop of a store, and those of the instructions through a popped pointer. -/
theorem witness_traps_of_operands :
    (let s := onTop [0x40080004, 0x40080004, 0x40080004] segmented
     let shut := s.putWord 0x6010 0
     let absent : State := s.putWord 0x6010 0x11
     [0, 4].all (fun span => trapsIn (effective .dbPlus 8 true false false span) { s with DL := s.DB } &&
       trapsIn (effective .dbPlus 8 true false true span) shut && trapsIn (evalPopped (s.top 0) false false span 1) absent &&
       endsWith (effective .dbPlus 8 true false true span) (bare s) (fun _ t => t.hasStack 2 0 && !t.canPop 1 && !t.canPop 2)) &&
     trapsIn (evalPopped (s.top 1) false true 0 2) shut && trapsIn (evalPopped (s.top 2) false true 4 3) shut &&
     shut.hasStack 3 0 && shut.canPop 3 && absent.hasStack 2 0 && absent.canPop 2 &&
     trapsIn (evalPopped (s.top 1) true false 0 2) (absent.putX ((s.top 0).sshiftRight 3)) &&
     trapsIn (evalPopped (s.top 2) true true 0 3) (shut.putX ((s.top 1).sshiftRight 3)) &&
     (bare s).hasStack 3 0 && !(bare s).canPop 2 && !(bare s).canPop 3) = true := by
  decide +kernel

/-- A transfer that has passed its tests, through a local pointer and through an external one, with nothing to pop. -/
theorem witness_underflow_after_plan :
    (let at0 := fun p : Word => bare (onTop [p] linked)
     let planned := fun (p : Word) (kind : TransferKind) => endsWith (planTransfer p kind) (at0 p) fun _ t =>
       decide (t = (at0 p).taken ((at0 p).cstOf (field p 20 12)))
     [TransferKind.branch, .call].all (fun k => planned 0x80004002 k) && (at0 0x80004002).mem.wf && (at0 0x80004002).hasCst 2 &&
     !bit (0x40 : Word) 0 && (at0 0x40).hasStack 1 0 && !(at0 0x40).canPop 1 && decide ((at0 0x40).SB.toNat ≤ (at0 0x40).S.toNat) &&
     trapsIn (planTransfer 0x80004006 .call) (at0 0x80004006)) = true := by
  decide +kernel

/-- SVAL of an external string, of an absent one, of one whose length is too large; of program pointers of each kind. -/
theorem witness_string_validation_of_any_pointer :
    (let s := onTop [0xFFFFFFFF, 1, 0x40080000, 8] ({ segmented with S := 0x30083 }.putWord 0x22000 3)
     let t := s.putTop 2 0x40080000
     let eval := fun u : State => evalDsp 0x40080000 (u.access none false) 0 u
     let code := fun p : Word => onTop [0xFFFFFFFF, 1, p, 8] (s.putWord 0x10004 3)
     s.mem.wf && s.hasStack 4 0 && (field s.S 30 2 == 3) && endsWith eval t (fun l u => u.hasStack 1 0 && u.hasWord l.addr &&
       ((u.word l.addr).toInt == 3) && done (.sval true true true) (u.putTop 0 3)) &&
     endsWith eval (t.putWord 0x22000 9) (fun l u => (u.word l.addr).toInt == 9) && trapsIn eval (t.putWord 0x6010 0x11) &&
     bit 0x80004002#32 0 && !bit 0x3000#32 0 && decide ((s.PL.toNat : Int) + 3 < s.PB.toNat + 0x3000) &&
     (code 4).mem.wf && (code 4).hasAddr 0x10004 && done (.sval true false false) (code 4)) = true := by
  decide +kernel

/-- The channel instructions with nothing to pop, and RFC with one word of the stack and one above it. -/
theorem witness_channel_underflow :
    (let s := bare { base with mpb := [⟨false, false, false, 9⟩] }
     s.privileged && s.mpbReady && s.hasStack 2 0 && !s.canPop 2 && !s.canPop 1 && s.hasStack 1 1 &&
     done (.rfc true) ((s.pushed 9).setCC 0b10)) = true := by
  decide +kernel

/-- A trap of LIA's walk; ESCP with nothing to pop, with its marker below and above its place, and with a marker that a
user program may not exit through. -/
theorem witness_walk_and_escape_traps :
    (let w : LinkWalk := { sb := base.SB.toNat, upper := base.Q.toNat, ptr := 0xC0000000 ||| (base.Q - base.SB), foreign := none }
     let s := onTop [9] (withWords [(0x30008, 0x63), (0x30010, 1), (0x30060, 0x30), (0x3005C, 0x00020001), (0x30058, 0x40), (0x30054, 0)]
       { base with S := 0x30067 })
     let low := s.putWord 0x30008 8
     let high := s.putWord 0x30008 0x70
     let out := fun t : State => ({ t.putWord 0x30008 (t.word 0x30057) with Q := 0x30063 } : State)
     let user : State := { s with STATUS := 1 }
     trapsIn (followLinks 1 w) (base.putWord 0x30020 0x80000000) = false && trapsIn (followLinks 2 w) (base.putWord 0x30020 0x80000000) &&
     s.hasStack 1 3 && s.hasWord 0x30008 && s.hasWord 0x3000C && s.hasWord 0x30010 && decide (s.cfg.rev ≠ .le33) && !(bare s).canPop 1 &&
     s.canPop 1 && decide ((low.SB + low.word 0x30008).toNat < low.SB.toNat + 48) &&
     decide ((high.S - 4#32).toNat < (high.SB + high.word 0x30008).toNat ∧ high.S.toNat < (high.SB + high.word 0x30008).toNat) &&
     trapsIn (exitCore 0 (!user.privileged)) (out ((user.putWord 0x3000C 9).putWord 0x30010 0xFFFFFFFF)) &&
     trapsIn (exitCore 0 (!user.privileged)) (out (user.putWord 0x30010 0xFFFFFFFF)) && (user.word 0x30010 != 0) && user.hasWord 0x30057) = true := by
  decide +kernel

/-- A trap from segment 0, from segment 2, from a user program into an entry that is not privileged, and the machine
instruction trap and the Variable Trace with its second parameter; each handler exits. -/
theorem witness_exit_from_any_segment :
    (let zero : State := { linked with STATUS := 0x00020000, PB := 0, PL := 0x1FFFFFFC }
     let two : State := { linked with STATUS := 0x00020002, PB := 0xA000, PL := 0xA7FC, P := 0xA010 }
     let user : State := { linked.putWord 0x1010 0 with STATUS := 1 }
     let back := fun (s : State) (t : Trap) (count : Option Word) (ra : Word) (p : State → State → State → Bool) =>
       let low := if t.clearsPending then s.setPending false else s
       let kept := if t = .machineInstruction then low.setEM false else low
       s.mem.wf && decide (s.Q.toNat ≤ s.S.toNat) && s.hasStack 0 7 &&
       endsWith (trapEntry t (some 1) ra count : M Unit) s fun _ u =>
         (u.privileged || !s.interruptEnable && !kept.pending) && u.holdsMarkerOf kept ra &&
         p u kept { u with Q := s.Q, S := s.S, X := s.X, STATUS := kept.STATUS }
     let home := fun (s v : State) (ra : Word) => lands { v with PB := s.PB, PL := s.PL } ra
     back linked .machineInstruction none 0x10012 (fun u _ v => (u.PB == linked.PB) && lands v 0x10012) &&
     back linked .variableTrace (some 4) 0x10012 (fun u _ v => (u.PB == linked.PB) && lands v 0x10012) &&
     back user .user none 0x10012 (fun u _ v => !u.privileged && (u.PB == user.PB) && lands v 0x10012) &&
     back zero .user none 0x10012 (fun u _ v => u.privileged && (zero.csn == 0) && u.isCounted 1 && (useCount (u.word (u.cstOf 1)) != 0) &&
       home zero v 0x10012) &&
     back two .user none 0xA012 (fun u _ v =>
       let entry := u.cstOf 2
       let w0 := u.word entry
       (two.csn == 2) && u.hasCst 2 && namesEntry 2 && u.cstWithin 2 && !bit w0 0 && !bit w0 31 && (u.word (entry + 8#32) == two.PB) &&
       decide (u.limitAt entry = two.PL.toNat) && decide (two.PB.toNat < 2 ^ 29 ∧ two.PL.toNat < 2 ^ 29) && u.canLeave 1 2 &&
       (useCount (u.word (u.cstOf 1)) != 0) && (useCount w0 != 4095) && home two v 0xA012)) = true := by
  decide +kernel

/-- O left set with T = 1 before a NOP; states in which nothing is pending, no access meets a hole, and the CPU is on the
ICS or off it. -/
theorem witness_quiet_special_registers :
    (let s := armed.setO true
     let ics : State := { base with icsFlag := true }
     s.overflow && s.trapEnable && !s.interruptPending && (base.levelBits == 0) && (base.messageBits == 0) && base.cfg.holes.isEmpty &&
     base.poll.isNone && nextIs (exec .zero base) (fun t => (t.MSG == base.MSG) && (t.MASK == base.MASK) && !t.dispFlag) && !base.dispFlag &&
     nextIs (exec .zero ics) (fun t => t.icsFlag)) = true := by
  decide +kernel

/-- R632: a pointer that leads over a chain, directly or with an index, and one that leads into a page are reported as
popped, indexed; a store ends in the trap with that pointer and its count. -/
theorem test_trace_pointer :
    (let chain := withWords [(0x6000, 0x50), (0x6010, 0x18), (0x6014, 0xFF), (0x6018, 0x22000), (0x601C, 0x40180000), (0x6030, 0x18),
         (0x6034, 0xFF), (0x6038, 0x24000), (0x20008, 0x40080104)] { base with DST := 0x6000, X := 0x80 }
     let page := withWords [(0x6000, 0x20), (0x6010, 0x230), (0x6014, 0xF), (0x6018, 0x8000), (0x6020, 0x230), (0x6024, 0x7), (0x6028, 0x8100),
         (0x8104, 0x23000), (0x8100, 0x18)] { base with DST := 0x6000, X := 0x80000 }
     let reports := fun (p : Word) (b3 : Bool) (s : State) (addr q : Word) =>
       endsWith (evalPopped p b3 true 0 2) s fun l t => (l.addr == addr) &&
         endsWith (tracedThrough l p b3 4) t fun e _ => e.trace == some (q, 4)
     reports 0x40080104 false chain 0x24004 0x40080104 && reports 0x40080084 true chain 0x24004 0x40080104 &&
     reports 0x40080004 true page 0x23004 0x40100004 && reports 0x80000004 true chain 0x20084 0x80000084 &&
     endsWith (effective .dbPlus 8 true false true 0) chain (fun e _ => (e.addr == 0x24004) && (e.pointer == 0x40080104)) &&
     nextIs (exec (.ssi true) (onTop [7, 0x80000004] { linked with STATUS := 0x80020001, X := 0x80 }))
       (fun t => (t.word 0x20084 == 7) && (t.word (t.Q + 12) == 0x80000084) && (t.word (t.Q + 8) == 4))) = true := by
  decide +kernel

/-- R602: a trap in segment 1 enters although another agent owns the entry of segment 1, which it only reads; one in
segment 2 waits for it. -/
theorem test_enter_segment1_from_itself :
    (let owned := linked.putWord 0x1010 0xFFFFFFFF
     endsWith enterSegment1 owned (fun _ t => (t.PB == 0x10000) && (t.word 0x1010 == 0xFFFFFFFF) && t.privileged) &&
     (match enterSegment1 { owned with STATUS := 0x00020002 } with | .ok _ => false | .error _ => true)) = true := by
  decide +kernel

/-- A load through a segment whose entry another agent owns waits with its page table entry given back at the next step
(R124, R140), and goes on when the entry is free. -/
theorem test_semaphore_wait :
    (let s := withWords [(0x6000, 0x10), (0x6010, 0x230), (0x6014, 0xF), (0x6018, 0x8000), (0x8008, 0xFFFFFFFF), (0x800C, 0x22100),
       (0x20008, 0x400801FC), (0x10010, 0xEA100008)] { base with DST := 0x6000 }
     nextIs (exec (.ld true false .dbPlus 8) s) (fun t => (t.P == s.P) && (t.word 0x6010 == 0xFFFFFFFF) && (t.owned == [(0x6010, 0x234)]) &&
       (t.regained.word 0x6010 == 0x234) && nextIs (exec (.ld true false .dbPlus 8) (t.regained.putWord 0x8008 0x10)) (fun u =>
         (u.word 0x6010 == 0x234) && (u.word 0x8008 == 0x14) && (u.P == s.P + 4)))) = true := by
  decide +kernel

end Sys2Proof.Tests
end

/-! What every computation of the model keeps, said once: `Frame` relates a state to one that a computation has left,
and `Keeps` says it of a computation, whether it answers or traps. A `Licence` names the special registers that the
computation may change all the same. -/

namespace Sys2Proof.Machine

/-- The special registers that a computation may change (R40 to R54). With `agent` it may do whatever another agent may
(R545, R640, R660). -/
structure Licence where
  agent : Bool := false
  breakpoint : Bool := false
  lockout : Bool := false
  debugPad : Bool := false
  secondary : Bool := false
  dst : Bool := false
  run : Bool := false
  mask : Bool := false
  msg : Bool := false
  leaveIcs : Bool := false
  dispatch : Bool := false

/-- No unmasked bit of MSG is set, and no access can set one: MEM_MAP has no hole (R84). -/
def State.undisturbed (s : State) : Prop := s.levelBits = 0#32 ∧ s.messageBits = 0#32 ∧ s.cfg.holes = []

/-- What a computation without an agent's move leaves of the special registers, those of the licence apart. -/
structure Within (l : Licence) (s t : State) : Prop where
  poll : t.poll = none
  SAR : t.SAR = s.SAR := by rfl
  SDR : t.SDR = s.SDR := by rfl
  CIR : t.CIR = s.CIR := by rfl
  inputs : t.inputs = s.inputs := by rfl
  breakpoint : l.breakpoint = false → t.BRKPT = s.BRKPT ∧ t.FLAGS = s.FLAGS := by exact fun _ => ⟨rfl, rfl⟩
  lockout : l.lockout = false → t.lockout = s.lockout := by exact fun _ => rfl
  debugPad : l.debugPad = false → t.debugPad5 = s.debugPad5 := by exact fun _ => rfl
  secondary : l.secondary = false → t.secondary = s.secondary := by exact fun _ => rfl
  dst : l.dst = false → t.DST = s.DST := by exact fun _ => rfl
  run : l.run = false → t.run = s.run := by exact fun _ => rfl
  mask : l.mask = false → s.levelBits = 0#32 → t.MASK = s.MASK ∧ t.levelBits = 0#32 := by exact fun _ h => ⟨rfl, h⟩
  msg : l.msg = false → l.mask = false → s.undisturbed → t.MSG = s.MSG ∧ t.MASK = s.MASK := by
    exact fun _ _ _ => ⟨rfl, rfl⟩
  sent : l.msg = false → t.sent = s.sent := by exact fun _ => rfl
  icsFlag : l.leaveIcs = false → s.icsFlag = true → t.icsFlag = true := by exact fun _ h => h
  dispFlag : l.dispatch = false → s.dispFlag = false → t.dispFlag = false := by exact fun _ h => h

/-- What a computation under a licence leaves of the state s: the parameters, the canonical form of memory, an even P
and zeros in MSG bits 3 to 5, and where no poll is scheduled the special registers. -/
structure Frame (l : Licence) (s t : State) : Prop where
  cfg : t.cfg = s.cfg := by rfl
  mem : s.mem.wf = true → t.mem.wf = true := by exact fun h => h
  even : bit s.P 31 = false → bit t.P 31 = false := by exact fun h => h
  reserved : field s.MSG 3 3 = 0#3 → field t.MSG 3 3 = 0#3 := by exact fun h => h
  within : l.agent = false → s.poll = none → Within l s t

variable {l : Licence} {s t u : State}

theorem State.undisturbed_congr (hg : t.MSG = s.MSG) (hk : t.MASK = s.MASK) (hc : t.cfg = s.cfg) (h : s.undisturbed) :
    t.undisturbed := by
  unfold State.undisturbed State.levelBits State.messageBits at *
  rwa [hg, hk, hc]

theorem Within.trans (hc : t.cfg = s.cfg) (h : Within l s t) (k : Within l t u) : Within l s u where
  poll := k.poll
  SAR := k.SAR.trans h.SAR
  SDR := k.SDR.trans h.SDR
  CIR := k.CIR.trans h.CIR
  inputs := k.inputs.trans h.inputs
  breakpoint e := ⟨(k.breakpoint e).1.trans (h.breakpoint e).1, (k.breakpoint e).2.trans (h.breakpoint e).2⟩
  lockout e := (k.lockout e).trans (h.lockout e)
  debugPad e := (k.debugPad e).trans (h.debugPad e)
  secondary e := (k.secondary e).trans (h.secondary e)
  dst e := (k.dst e).trans (h.dst e)
  run e := (k.run e).trans (h.run e)
  mask e z := by
    obtain ⟨h1, h2⟩ := h.mask e z
    obtain ⟨k1, k2⟩ := k.mask e h2
    exact ⟨k1.trans h1, k2⟩
  msg e e' z := by
    obtain ⟨h1, h2⟩ := h.msg e e' z
    obtain ⟨k1, k2⟩ := k.msg e e' (State.undisturbed_congr h1 h2 hc z)
    exact ⟨k1.trans h1, k2.trans h2⟩
  sent e := (k.sent e).trans (h.sent e)
  icsFlag e z := k.icsFlag e (h.icsFlag e z)
  dispFlag e z := k.dispFlag e (h.dispFlag e z)

theorem Frame.trans (h : Frame l s t) (k : Frame l t u) : Frame l s u where
  cfg := k.cfg.trans h.cfg
  mem w := k.mem (h.mem w)
  even e := k.even (h.even e)
  reserved r := k.reserved (h.reserved r)
  within a p := (h.within a p).trans h.cfg (k.within a (h.within a p).poll)

theorem Frame.refl (s : State) : Frame l s s where
  within _ p := { poll := p }

/-! ## Updates -/

/-- The state with every register blotted out that is not special: two states that agree in it differ in the registers
alone that any computation may change. -/
def State.special (s : State) : State :=
  { s with PB := 0, PL := 0, SB := 0, SL := 0, S := 0, Q := 0, DB := 0, DL := 0, X := 0, STATUS := 0, freeCtr := 0,
           prevDup := false, mpb := [], owned := [] }

@[simp] theorem State.special_eq (s : State) :
    s.special = { s with PB := 0, PL := 0, SB := 0, SL := 0, S := 0, Q := 0, DB := 0, DL := 0, X := 0, STATUS := 0,
                         freeCtr := 0, prevDup := false, mpb := [], owned := [] } := (rfl)

/-- An update of ordinary registers. -/
theorem Frame.of_special (h : t.special = s.special) : Frame l s t := by
  cases s
  cases t
  simp only [State.special, State.mk.injEq, true_and, and_true] at h
  obtain ⟨rfl, rfl, rfl, rfl, rfl, rfl, rfl, rfl, rfl, rfl, rfl, rfl, rfl, rfl, rfl, rfl, rfl, rfl, rfl, rfl⟩ := h
  exact { within := fun _ p => { poll := p } }

/-- A store that keeps the canonical form. -/
theorem Frame.of_mem {m : Memory} (h : s.mem.wf = true → m.wf = true) : Frame l s { s with mem := m } where
  mem := h
  within _ p := { poll := p }

theorem wordAlign_toNat_mod (a : Word) : (wordAlign a).toNat % 4 = 0 := by
  have h : (a.toNat &&& 0xFFFFFFFC) % 2 ^ 2 = 0 := by rw [Nat.and_mod_two_pow]; simp
  simpa [wordAlign, BitVec.toNat_and] using h

theorem halfAlign_toNat_mod (a : Word) : (halfAlign a).toNat % 2 = 0 := by
  have h : (a.toNat &&& 0xFFFFFFFE) % 2 ^ 1 = 0 := by rw [Nat.and_mod_two_pow]; simp
  simpa [halfAlign, BitVec.toNat_and] using h

/-- A word store inside the address space keeps the canonical form. -/
theorem Memory.wf_writeWord_aligned {m : Memory} {a v : Word} (h : (wordAlign a).toNat < addressSpace)
    (w : m.wf = true) : (m.writeWord (wordAlign a).toNat v).wf = true := by
  have := wordAlign_toNat_mod a
  exact Memory.wf_writeWord _ _ (by unfold addressSpace at *; omega) w

/-- A halfword store inside the address space keeps the canonical form. -/
theorem Memory.wf_writeHalf_aligned {m : Memory} {a : Word} {v : Half} (h : (halfAlign a).toNat < addressSpace)
    (w : m.wf = true) : (m.writeHalf (halfAlign a).toNat v).wf = true := by
  have := halfAlign_toNat_mod a
  exact Memory.wf_writeHalf _ _ (by unfold addressSpace at *; omega) w

/-- An even P is what a jump leaves (R21). -/
theorem bit_halfAlign (a : Word) : bit (halfAlign a) 31 = false := by
  simp [bit, halfAlign]

/-- Advancing P by an even number of bytes. -/
theorem bit_add_even {a : Word} {n : Nat} (hn : n % 2 = 0) (h : bit a 31 = false) :
    bit (a + BitVec.ofNat 32 n) 31 = false := by
  have e (w : Word) : bit w 31 = decide (w.toNat % 2 = 1) := by simp [bit, BitVec.getLsbD, Nat.testBit_zero]
  rw [e] at h ⊢
  simp only [decide_eq_false_iff_not, BitVec.toNat_add, BitVec.toNat_ofNat] at *
  omega

theorem Frame.of_P {p : Word} (h : bit s.P 31 = false → bit p 31 = false) : Frame l s { s with P := p } where
  even := h
  within _ q := { poll := q }

/-- A new MSG with the same I/O level bits, which sets no bit where MEM_MAP has no hole. -/
theorem Frame.of_MSG {m : Word} (hr : field s.MSG 3 3 = 0#3 → field m 3 3 = 0#3)
    (hv : l.mask = false → s.levelBits = 0#32 → ({ s with MSG := m } : State).levelBits = 0#32)
    (hm : l.msg = false → l.mask = false → s.undisturbed → m = s.MSG) : Frame l s { s with MSG := m } where
  reserved := hr
  within _ p := { poll := p, mask := fun e z => ⟨rfl, hv e z⟩, msg := fun e e' z => ⟨hm e e' z, rfl⟩ }

end Sys2Proof.Machine

/-! `Keeps` of the shared operations of Machine/Ops.lean. -/

namespace Sys2Proof.Machine

variable {α β : Type} {l : Licence}

/-- The computation leaves a state that its licence allows, when it answers and when it traps. -/
structure Keeps (l : Licence) (m : M α) : Prop where
  ok : ∀ {s a t}, m s = .ok (a, t) → Frame l s t
  trap : ∀ {s tr p t}, m s = .error (.trap tr p t) → Frame l s t

theorem Keeps.bind {m : M α} {f : α → M β} (hm : Keeps l m) (hf : ∀ a, Keeps l (f a)) : Keeps l (m >>= f) where
  ok h := by
    obtain ⟨a, t, h1, h2⟩ := M.bind_eq_ok h
    exact (hm.ok h1).trans ((hf a).ok h2)
  trap {s _ _ _} h := by
    cases h1 : m s with
    | error e =>
      rw [M.bind_error h1] at h
      cases h
      exact hm.trap h1
    | ok p =>
      rw [M.bind_ok (a := p.1) (t := p.2) h1] at h
      exact (hm.ok h1).trans ((hf p.1).trap h)

/-- A computation that leaves the state as it is. -/
theorem Keeps.of_unchanged {m : M α} (ok : ∀ {s a t}, m s = .ok (a, t) → t = s)
    (trap : ∀ {s tr p t}, m s = .error (.trap tr p t) → t = s) : Keeps l m where
  ok h := by rw [ok h]; exact Frame.refl _
  trap h := by rw [trap h]; exact Frame.refl _

@[simp] theorem keeps_pure {a : α} : Keeps l (pure a : M α) :=
  .of_unchanged (fun h => by cases h; rfl) (fun h => by cases h)

@[simp] theorem keeps_map {f : α → β} {m : M α} (h : Keeps l m) : Keeps l (f <$> m) := h.bind fun _ => keeps_pure

@[simp] theorem keeps_get : Keeps l (get : M State) := .of_unchanged (fun h => by cases h; rfl) (fun h => by cases h)

theorem keeps_modify {g : State → State} (h : ∀ s, Frame l s (g s)) : Keeps l (modify g : M PUnit) where
  ok e := by cases e; exact h _
  trap e := by cases e

@[simp] theorem keeps_modify_ordinary {g : State → State} (h : ∀ s, (g s).special = s.special) :
    Keeps l (modify g : M PUnit) := keeps_modify fun s => Frame.of_special (h s)

@[simp] theorem keeps_error {e : Stop} (h : ∀ t p s, e ≠ .trap t p s) : Keeps l (fun _ => .error e : M α) where
  ok e := by cases e
  trap e := by cases e; exact absurd rfl (h _ _ _)

@[simp] theorem keeps_raise {t : Trap} {p : Option Word} : Keeps l (raise t p : M α) :=
  .of_unchanged (fun h => by cases h) (fun h => by cases h; rfl)

@[simp] theorem keeps_refuse {r : Refusal} : Keeps l (refuse r : M α) :=
  .of_unchanged (fun h => by cases h) (fun h => by cases h)

@[simp] theorem keeps_stuck {f : Fault} : Keeps l (stuck f : M α) :=
  .of_unchanged (fun h => by cases h) (fun h => by cases h)

@[simp] theorem keeps_require {c : Bool} {t : Trap} {p : Option Word} : Keeps l (require c t p) :=
  .of_unchanged (fun h => ((require_ok_iff _ _ _ _ _ _).1 h).2) (fun h => by cases c <;> cases h; rfl)

@[simp] theorem keeps_insist {c : Bool} {r : Refusal} : Keeps l (insist c r) :=
  .of_unchanged (fun h => ((insist_ok_iff _ _ _ _ _).1 h).2) (fun h => by cases c <;> cases h)

@[simp] theorem keeps_drawFree : Keeps l drawFree where
  ok e := by cases e; exact Frame.of_special rfl
  trap e := by cases e

@[simp] theorem keeps_checkPop {k : Nat} : Keeps l (checkPop k) :=
  .of_unchanged (fun h => ((checkPop_ok_iff _ _ _ _).1 h).2) (fun {s _ _ _} h => by
    cases hc : s.canPop k
    · rw [checkPop_cannot hc] at h; cases h; rfl
    · rw [checkPop_can hc] at h; cases h)

@[simp] theorem keeps_dropWords {k : Nat} : Keeps l (dropWords k) where
  ok e := by cases e; exact Frame.of_special rfl
  trap e := by cases e

@[simp] theorem keeps_requirePrivileged : Keeps l requirePrivileged :=
  .of_unchanged (fun h => ((requirePrivileged_ok_iff _ _ _).1 h).2) (fun {s _ _ _} h => by
    unfold requirePrivileged at h
    split at h <;> cases h
    rfl)

@[simp] theorem keeps_checkAbsolute {a : Word} : Keeps l (checkAbsolute a) :=
  .of_unchanged (fun h => ((checkAbsolute_ok_iff _ _ _ _).1 h).2) (fun {s _ _ _} h => by
    unfold checkAbsolute at h
    split at h <;> cases h)

/-! ## Memory access -/

/-- The MSG bits of an access to no memory (R84): bits 1 and 2, which are no reserved and no level bits. -/
theorem Frame.of_busError {s : State} (h : s.cfg.holes ≠ []) : Frame l s s.busError :=
  Frame.of_MSG
    (fun r => by rw [← r]; ext i hi; interval_cases i <;> simp [field])
    (fun _ z => by
      rw [← z]
      show (s.MSG ||| 0x60000000#32) &&& ~~~ s.MASK &&& 0x0000FFFF#32 = s.MSG &&& ~~~ s.MASK &&& 0x0000FFFF#32
      ext i hi
      interval_cases i <;> simp)
    (fun _ _ z => absurd z.2.2 h)

theorem holes_ne_nil {c : Config} {n : Nat} (h : Config.isHole c n = true) : c.holes ≠ [] := by
  intro e
  simp [Config.isHole, e] at h

@[simp] theorem keeps_load {n : Nat} {get : Memory → α} {ofFree : Word → α} : Keeps l (load n get ofFree) where
  ok h := by
    obtain ⟨-, ⟨-, -, rfl⟩ | ⟨hh, -, rfl⟩⟩ := load_ok h
    · exact Frame.refl _
    · exact (Frame.of_busError (holes_ne_nil hh)).trans (Frame.of_special rfl)
  trap {s _ _ _} h := by
    unfold load at h
    split at h
    · cases h
    · split at h <;> cases h

theorem keeps_store {n : Nat} {put : Memory → Memory}
    (hp : ∀ m : Memory, n < addressSpace → m.wf = true → (put m).wf = true) : Keeps l (store n put) where
  ok h := by
    obtain ⟨hn, ⟨-, rfl⟩ | ⟨hh, rfl⟩⟩ := store_ok h
    · exact Frame.of_mem (hp _ hn)
    · exact Frame.of_busError (holes_ne_nil hh)
  trap {s _ _ _} h := by
    unfold store at h
    split at h
    · cases h
    · split at h <;> cases h

@[simp] theorem keeps_readWord {a : Word} : Keeps l (readWord a) := keeps_load
@[simp] theorem keeps_readHalf {a : Word} : Keeps l (readHalf a) := keeps_load
@[simp] theorem keeps_readByte {a : Word} : Keeps l (readByte a) := keeps_load
@[simp] theorem keeps_writeWord {a v : Word} : Keeps l (writeWord a v) :=
  keeps_store fun _ => Memory.wf_writeWord_aligned
@[simp] theorem keeps_writeHalf {a : Word} {v : Half} : Keeps l (writeHalf a v) :=
  keeps_store fun _ => Memory.wf_writeHalf_aligned
@[simp] theorem keeps_writeByte {a : Word} {v : Byte} : Keeps l (writeByte a v) :=
  keeps_store fun _ => Memory.wf_write _ _

theorem Frame.of_withWord (s : State) (a v : Word) : Frame l s (s.withWord a v) := by
  unfold State.withWord
  split
  · exact Frame.refl s
  · rename_i h
    rw [not_or, not_le] at h
    exact Frame.of_mem (Memory.wf_writeWord_aligned h.1)

/-! ## Computations around another one -/

@[simp] theorem keeps_owning {ent w : Word} {m : M α} (h : Keeps l m) : Keeps l (owning ent w m) where
  ok e := h.ok ((owning_ok_iff _ _ _ _ _ _).1 e)
  trap {s _ _ _} e := by
    cases hm : m s with
    | ok p => rw [owning_ok (a := p.1) (t := p.2) hm] at e; cases e
    | error x =>
      cases x with
      | trap t p u =>
        rw [owning_trap hm] at e
        cases e
        exact (h.trap hm).trans (Frame.of_withWord _ _ _)
      | refuse r => simp [owning, hm] at e
      | stuck f => simp [owning, hm] at e
      | spin c held => rw [owning_spin hm] at e; cases e

@[simp] theorem keeps_inHandler {m : M α} (h : Keeps l m) : Keeps l (inHandler m) where
  ok e := by
    unfold inHandler at e
    split at e
    · cases e
    · exact h.ok e
  trap e := by
    unfold inHandler at e
    split at e
    · cases e
    · exact h.trap e

/-- The registers of the start with what a trap leaves of the rest (R603). -/
theorem Frame.unwound {s t : State} (h : Frame l s t) : Frame l s (s.unwound t) where
  mem := h.mem
  even e := e
  reserved := h.reserved
  within a p :=
    { poll := p
      mask := fun e z => by
        obtain ⟨h1, h2⟩ := (h.within a p).mask e z
        refine ⟨rfl, ?_⟩
        unfold State.levelBits at *
        rwa [h1] at h2
      msg := fun e e' z => ⟨((h.within a p).msg e e' z).1, rfl⟩ }

@[simp] theorem keeps_atomic {m : M α} (h : Keeps l m) : Keeps l (atomic m) where
  ok e := by
    unfold atomic at e
    split at e
    · cases e
    · exact h.ok e
  trap e := by
    unfold atomic at e
    split at e
    · rename_i hm
      cases e
      exact (h.trap hm).unwound
    · exact h.trap e

/-- The memory of the start with the registers that a trap leaves. -/
theorem Frame.undone {s t : State} (h : Frame l s t) : Frame l s { t with mem := s.mem } where
  cfg := h.cfg
  even := h.even
  reserved := h.reserved
  within a p :=
    let k := h.within a p
    { poll := k.poll, SAR := k.SAR, SDR := k.SDR, CIR := k.CIR, inputs := k.inputs, breakpoint := k.breakpoint
      lockout := k.lockout, debugPad := k.debugPad, secondary := k.secondary, dst := k.dst, run := k.run
      mask := k.mask, msg := k.msg, sent := k.sent, icsFlag := k.icsFlag, dispFlag := k.dispFlag }

@[simp] theorem keeps_undoing {m : M α} (h : Keeps l m) : Keeps l (undoing m) where
  ok e := by
    unfold undoing at e
    split at e
    · cases e
    · exact h.ok e
  trap e := by
    unfold undoing at e
    split at e
    · rename_i hm
      cases e
      exact (h.trap hm).undone
    · exact h.trap e

@[simp] theorem keeps_probing {m : M Located} (h : Keeps l m) : Keeps l (probing m) where
  ok e := by
    unfold probing at e
    split at e
    · rename_i hm
      cases e
      exact h.ok hm
    · rename_i hm
      cases e
      exact h.trap hm
    · cases e
  trap e := by
    unfold probing at e
    split at e
    · cases e
    · cases e
    · rename_i hm
      cases e
      exact h.trap hm

/-! ## Addresses, the stack and the tables -/

@[simp] theorem keeps_absAddress {i : Int} : Keeps l (absAddress i) := by
  unfold absAddress
  repeat' (first | with_reducible refine Keeps.bind ?_ fun _ => ?_ | split | simp)

@[simp] theorem keeps_peek {k : Nat} : Keeps l (peek k) := by
  unfold peek
  repeat' (first | with_reducible refine Keeps.bind ?_ fun _ => ?_ | split | simp)

@[simp] theorem keeps_poke {k : Nat} {v : Word} : Keeps l (poke k v) := by
  unfold poke
  repeat' (first | with_reducible refine Keeps.bind ?_ fun _ => ?_ | split | simp)

@[simp] theorem keeps_push {v : Word} : Keeps l (push v) := by
  unfold push
  repeat' (first | with_reducible refine Keeps.bind ?_ fun _ => ?_ | split | simp)

@[simp] theorem keeps_peekDouble {k : Nat} : Keeps l (peekDouble k) := by
  unfold peekDouble
  repeat' (first | with_reducible refine Keeps.bind ?_ fun _ => ?_ | split | simp)

@[simp] theorem keeps_pokeDouble {k : Nat} {d : DWord} : Keeps l (pokeDouble k d) := by
  unfold pokeDouble
  repeat' (first | with_reducible refine Keeps.bind ?_ fun _ => ?_ | split | simp)

@[simp] theorem keeps_pushDouble {d : DWord} : Keeps l (pushDouble d) := by
  unfold pushDouble
  repeat' (first | with_reducible refine Keeps.bind ?_ fun _ => ?_ | split | simp)

@[simp] theorem keeps_putCC {c : BitVec 2} : Keeps l (putCC c) := by
  unfold putCC
  repeat' (first | with_reducible refine Keeps.bind ?_ fun _ => ?_ | split | simp)

@[simp] theorem keeps_acquire {ent : Word} : Keeps l (acquire ent) := by
  unfold acquire
  repeat' (first | with_reducible refine Keeps.bind ?_ fun _ => ?_ | split | simp)

@[simp] theorem keeps_release {ent w : Word} : Keeps l (release ent w) := by
  unfold release
  repeat' (first | with_reducible refine Keeps.bind ?_ fun _ => ?_ | split | simp)

@[simp] theorem keeps_cstBase {c : BitVec 12} : Keeps l (cstBase c) := by
  unfold cstBase
  repeat' (first | with_reducible refine Keeps.bind ?_ fun _ => ?_ | split | simp)

@[simp] theorem keeps_cstAddress {base : Word} {k : Nat} : Keeps l (cstAddress base k) := by
  unfold cstAddress
  repeat' (first | with_reducible refine Keeps.bind ?_ fun _ => ?_ | split | simp)

@[simp] theorem keeps_cstEntry {c : BitVec 12} : Keeps l (cstEntry c) := by
  unfold cstEntry
  repeat' (first | with_reducible refine Keeps.bind ?_ fun _ => ?_ | split | simp)

@[simp] theorem keeps_cstEntryUntested {c : BitVec 12} : Keeps l (cstEntryUntested c) := by
  unfold cstEntryUntested
  repeat' (first | with_reducible refine Keeps.bind ?_ fun _ => ?_ | split | simp)

@[simp] theorem keeps_decUse {ent : Word} : Keeps l (decUse ent) := by
  unfold decUse
  repeat' (first | with_reducible refine Keeps.bind ?_ fun _ => ?_ | split | simp)

@[simp] theorem keeps_readCount {ent : Word} : Keeps l (readCount ent) := by
  unfold readCount
  repeat' (first | with_reducible refine Keeps.bind ?_ fun _ => ?_ | split | simp)

@[simp] theorem keeps_SegmentPlan_during {g : SegmentPlan} {m : M α} (h :
    Keeps l m) : Keeps l (SegmentPlan.during g m) := by
  unfold SegmentPlan.during
  repeat' (first | with_reducible refine Keeps.bind ?_ fun _ => ?_ | split | simp [h])

@[simp] theorem keeps_checkOldCount {old : BitVec 12} : Keeps l (checkOldCount old) := by
  unfold checkOldCount
  repeat' (first | with_reducible refine Keeps.bind ?_ fun _ => ?_ | split | simp)

@[simp] theorem keeps_checkUseCounts {c : BitVec 12} {w : Word} : Keeps l (checkUseCounts c w) := by
  unfold checkUseCounts
  repeat' (first | with_reducible refine Keeps.bind ?_ fun _ => ?_ | split | simp)

@[simp] theorem keeps_leaveSegment {old : BitVec 12} : Keeps l (leaveSegment old) := by
  unfold leaveSegment
  repeat' (first | with_reducible refine Keeps.bind ?_ fun _ => ?_ | split | simp)

@[simp] theorem keeps_commitUse {g : SegmentPlan} : Keeps l (commitUse g) := by
  unfold commitUse
  repeat' (first | with_reducible refine Keeps.bind ?_ fun _ => ?_ | split | simp)

@[simp] theorem keeps_TransferPlan_during {t : TransferPlan} {m : M α} (h :
    Keeps l m) : Keeps l (TransferPlan.during t m) := by
  unfold TransferPlan.during
  repeat' (first | with_reducible refine Keeps.bind ?_ fun _ => ?_ | split | simp [h])

@[simp] theorem keeps_readExtent {ent : Word} : Keeps l (readExtent ent) := by
  unfold readExtent
  repeat' (first | with_reducible refine Keeps.bind ?_ fun _ => ?_ | split | simp)

@[simp] theorem keeps_segmentLimit {loc len : Word} : Keeps l (segmentLimit loc len) := by
  unfold segmentLimit
  repeat' (first | with_reducible refine Keeps.bind ?_ fun _ => ?_ | split | simp)

@[simp] theorem keeps_raiseAbsent {t : Trap} {p : Word} : Keeps l (raiseAbsent t p : M α) := by
  unfold raiseAbsent
  repeat' (first | with_reducible refine Keeps.bind ?_ fun _ => ?_ | split | simp)

@[simp] theorem keeps_entryPoint {kind : TransferKind} {oldM : Bool} {loc pl n4 : Word} :
    Keeps l (entryPoint kind oldM loc pl n4) := by
  unfold entryPoint
  repeat' (first | with_reducible refine Keeps.bind ?_ fun _ => ?_ | split | simp)

@[simp] theorem keeps_testSegment {c : BitVec 12} {n4 ent w0 : Word} {kind : TransferKind} {oldM : Bool} :
    Keeps l (testSegment c n4 ent w0 kind oldM) := by
  unfold testSegment
  repeat' (first | with_reducible refine Keeps.bind ?_ fun _ => ?_ | split | simp)

@[simp] theorem keeps_planTransfer {p : Word} {kind : TransferKind} : Keeps l (planTransfer p kind) := by
  unfold planTransfer
  repeat' (first | with_reducible refine Keeps.bind ?_ fun _ => ?_ | split | simp)

@[simp] theorem keeps_commitTransfer {t : TransferPlan} : Keeps l (commitTransfer t) := by
  unfold commitTransfer
  repeat' (first | with_reducible refine Keeps.bind ?_ fun _ => ?_ | split | simp)

@[simp] theorem keeps_SegmentChange_during {c : SegmentChange} {m : M α} (h :
    Keeps l m) : Keeps l (SegmentChange.during c m) := by
  unfold SegmentChange.during
  repeat' (first | with_reducible refine Keeps.bind ?_ fun _ => ?_ | split | simp [h])

@[simp] theorem keeps_testReturn {c : BitVec 12} {ent w0 : Word} : Keeps l (testReturn c ent w0) := by
  unfold testReturn
  repeat' (first | with_reducible refine Keeps.bind ?_ fun _ => ?_ | split | simp)

@[simp] theorem keeps_planSegment {c : BitVec 12} {unpriv : Bool} : Keeps l (planSegment c unpriv) := by
  unfold planSegment
  repeat' (first | with_reducible refine Keeps.bind ?_ fun _ => ?_ | split | simp)

@[simp] theorem keeps_commitSegment {c : SegmentChange} : Keeps l (commitSegment c) := by
  unfold commitSegment
  repeat' (first | with_reducible refine Keeps.bind ?_ fun _ => ?_ | split | simp)

/-! ## Pointers -/

@[simp] theorem keeps_dstAddress {seg : BitVec 12} : Keeps l (dstAddress seg) := by
  unfold dstAddress
  repeat' (first | with_reducible refine Keeps.bind ?_ fun _ => ?_ | split | simp)

@[simp] theorem keeps_readDstHead {seg : BitVec 12} : Keeps l (readDstHead seg) := by
  unfold readDstHead
  repeat' (first | with_reducible refine Keeps.bind ?_ fun _ => ?_ | split | simp)

@[simp] theorem keeps_readDst {seg : BitVec 12} : Keeps l (readDst seg) := by
  unfold readDst
  repeat' (first | with_reducible refine Keeps.bind ?_ fun _ => ?_ | split | simp)

@[simp] theorem keeps_DstHead_during {e : DstHead} {m : M α} (h : Keeps l m) : Keeps l (DstHead.during e m) := by
  unfold DstHead.during
  repeat' (first | with_reducible refine Keeps.bind ?_ fun _ => ?_ | split | simp [h])

@[simp] theorem keeps_DstHead_giveBack {e : DstHead} : Keeps l (DstHead.giveBack e) := by
  unfold DstHead.giveBack
  repeat' (first | with_reducible refine Keeps.bind ?_ fun _ => ?_ | split | simp)

@[simp] theorem keeps_checkSegmentNumber {n : BitVec 11} {len : Word} : Keeps l (checkSegmentNumber n len) := by
  unfold checkSegmentNumber
  repeat' (first | with_reducible refine Keeps.bind ?_ fun _ => ?_ | split | simp)

@[simp] theorem keeps_nextLink {e : DstWords} {p : Word} {o : Int} : Keeps l (nextLink e p o) := by
  unfold nextLink
  repeat' (first | with_reducible refine Keeps.bind ?_ fun _ => ?_ | split | simp)

/-- One turn of the walk over a chain (R111, R112). -/
theorem walkChain_eq (fuel : Nat) (ptr : Word) (offset : Int) (linked : Bool) :
    walkChain fuel ptr offset linked = (do
      let e ← readDst (field ptr 1 12)
      if bit e.w0 26 then pure { entry := e, ptr := ptr, offset := offset, linked := linked }
      else do
        e.during (require (decide (0 ≤ offset)) .edsBoundsViolation)
        if offset ≤ (e.lenM1.toNat : Int) then pure { entry := e, ptr := ptr, offset := offset, linked := linked }
        else do
          e.giveBack
          let next ← nextLink e ptr offset
          match fuel with
          | 0 => raise .edsBoundsViolation
          | fuel + 1 => walkChain fuel next.1 next.2 true) := by
  cases fuel <;> rfl

@[simp] theorem keeps_walkChain {fuel : Nat} {p : Word} {o : Int} {linked : Bool} :
    Keeps l (walkChain fuel p o linked) := by
  induction fuel generalizing p o linked with
  | zero =>
    rw [walkChain_eq]
    repeat' (first | with_reducible refine Keeps.bind ?_ fun _ => ?_ | split | simp_all)
  | succ n ih =>
    rw [walkChain_eq]
    repeat' (first | with_reducible refine Keeps.bind ?_ fun _ => ?_ | split | simp_all)

@[simp] theorem keeps_checkCount {k : AccessKind} {w : Word} : Keeps l (checkCount k w) := by
  unfold checkCount
  repeat' (first | with_reducible refine Keeps.bind ?_ fun _ => ?_ | split | simp)

@[simp] theorem keeps_checkEntry {k : AccessKind} {w : Word} {m : M Unit} (h :
    Keeps l m) : Keeps l (checkEntry k w m) := by
  unfold checkEntry
  repeat' (first | with_reducible refine Keeps.bind ?_ fun _ => ?_ | split | simp [h])

@[simp] theorem keeps_physical {k : AccessKind} {a : Int} : Keeps l (physical k a) := by
  unfold physical
  repeat' (first | with_reducible refine Keeps.bind ?_ fun _ => ?_ | split | simp)

@[simp] theorem keeps_locateUnpaged {k : AccessKind} {c : ChainEnd} : Keeps l (locateUnpaged k c) := by
  unfold locateUnpaged
  repeat' (first | with_reducible refine Keeps.bind ?_ fun _ => ?_ | split | simp)

@[simp] theorem keeps_pagedEntry {k : AccessKind} {c : ChainEnd} {len : Word} : Keeps l (pagedEntry k c len) := by
  unfold pagedEntry
  repeat' (first | with_reducible refine Keeps.bind ?_ fun _ => ?_ | split | simp)

@[simp] theorem keeps_readPte {e : DstHead} {page : Nat} : Keeps l (readPte e page) := by
  unfold readPte
  repeat' (first | with_reducible refine Keeps.bind ?_ fun _ => ?_ | split | simp)

@[simp] theorem keeps_locatePaged {k : AccessKind} {c : ChainEnd} {len : Word} : Keeps l (locatePaged k c len) := by
  unfold locatePaged
  repeat' (first
    | with_reducible refine Keeps.bind ?_ fun _ => ?_
    | split
    | refine keeps_DstHead_during ?_
    | refine keeps_owning ?_
    | simp)

@[simp] theorem keeps_evalEds {p : Word} {k : AccessKind} : Keeps l (evalEds p k) := by
  unfold evalEds
  repeat' (first | with_reducible refine Keeps.bind ?_ fun _ => ?_ | split | simp)

@[simp] theorem keeps_checkBounds {lo hi a : Int} : Keeps l (checkBounds lo hi a) := by
  unfold checkBounds
  repeat' (first | with_reducible refine Keeps.bind ?_ fun _ => ?_ | split | simp)

@[simp] theorem keeps_checkBoundsSpan {lo hi a : Int} {span : Nat} : Keeps l (checkBoundsSpan lo hi a span) := by
  unfold checkBoundsSpan
  repeat' (first | with_reducible refine Keeps.bind ?_ fun _ => ?_ | split | simp)

@[simp] theorem keeps_evalDsp {p : Word} {k : AccessKind} {lower : Nat} : Keeps l (evalDsp p k lower) := by
  unfold evalDsp
  repeat' (first | with_reducible refine Keeps.bind ?_ fun _ => ?_ | split | simp)

@[simp] theorem keeps_checkSecond {c : Located} {span : Nat} : Keeps l (checkSecond c span) := by
  unfold checkSecond
  repeat' (first | with_reducible refine Keeps.bind ?_ fun _ => ?_ | split | simp)

@[simp] theorem keeps_evalLpp {p : Word} {xx : Int} : Keeps l (evalLpp p xx) := by
  unfold evalLpp
  repeat' (first | with_reducible refine Keeps.bind ?_ fun _ => ?_ | split | simp)

@[simp] theorem keeps_boundsCheck {b : Base} {a : Int} : Keeps l (boundsCheck b a) := by
  unfold boundsCheck
  repeat' (first | with_reducible refine Keeps.bind ?_ fun _ => ?_ | split | simp)

@[simp] theorem keeps_readPointer {b : Base} {a : Int} : Keeps l (readPointer b a) := by
  unfold readPointer
  repeat' (first | with_reducible refine Keeps.bind ?_ fun _ => ?_ | split | simp)

@[simp] theorem keeps_direct {b : Base} {e : Int} {span : Nat} {p : Word} : Keeps l (direct b e span p) := by
  unfold direct
  repeat' (first | with_reducible refine Keeps.bind ?_ fun _ => ?_ | split | simp)

@[simp] theorem keeps_effective {b : Base} {off : Nat} {ind idx modmem : Bool} {span : Nat} :
    Keeps l (effective b off ind idx modmem span) := by
  unfold effective
  repeat' (first | with_reducible refine Keeps.bind ?_ fun _ => ?_ | split | simp)

end Sys2Proof.Machine

namespace Sys2Proof.Machine

variable {α β : Type} {l : Licence}

/-! ## Traps and interrupts -/

theorem Frame.of_icsFlag {s : State} {q sl sb : Word} :
    Frame l s { s with Q := q, SL := sl, SB := sb, icsFlag := true } where
  within _ p := { poll := p, icsFlag := fun _ _ => rfl }

theorem Frame.of_dispFlag {s : State} : Frame l s { s with dispFlag := false } where
  within _ p := { poll := p, dispFlag := fun _ _ => rfl }

/-- A new MASK, where the licence allows one. -/
theorem Frame.of_MASK {s : State} {m : Word} (h : l.mask = true) : Frame l s { s with MASK := m } where
  within _ p := { poll := p, mask := fun e => by simp [h] at e, msg := fun _ e => by simp [h] at e }

@[simp] theorem keeps_jumpTo {a : Word} : Keeps l (jumpTo a) := by
  unfold jumpTo
  refine keeps_get.bind fun s => keeps_insist.bind fun _ => keeps_modify fun t => ?_
  exact Frame.of_P fun _ => bit_halfAlign a

@[simp] theorem keeps_pushMarker {ra : Word} : Keeps l (pushMarker ra) := by
  unfold pushMarker
  repeat' (first | with_reducible refine Keeps.bind ?_ fun _ => ?_ | split | simp)

@[simp] theorem keeps_enterSegment1 : Keeps l enterSegment1 := by
  unfold enterSegment1
  repeat' (first | with_reducible refine Keeps.bind ?_ fun _ => ?_ | split | simp)

@[simp] theorem keeps_enterHandler {t : Trap} : Keeps l (enterHandler t) := by
  unfold enterHandler
  repeat' (first | with_reducible refine Keeps.bind ?_ fun _ => ?_ | split | simp)

@[simp] theorem keeps_trapEntry {t : Trap} {p : Option Word} {ra : Word} {c : Option Word} :
    Keeps l (trapEntry t p ra c) := by
  unfold trapEntry
  repeat' (first | with_reducible refine Keeps.bind ?_ fun _ => ?_ | split | simp)

@[simp] theorem keeps_readQi : Keeps l readQi := by
  unfold readQi
  repeat' (first | with_reducible refine Keeps.bind ?_ fun _ => ?_ | split | simp)

@[simp] theorem keeps_loadIcs : Keeps l loadIcs := by
  unfold loadIcs
  repeat' (first | with_reducible refine Keeps.bind ?_ fun _ => ?_ | simp)
  exact keeps_modify fun _ => Frame.of_icsFlag

@[simp] theorem keeps_saveMask : Keeps l saveMask := by
  unfold saveMask
  repeat' (first | with_reducible refine Keeps.bind ?_ fun _ => ?_ | split | simp)

@[simp] theorem keeps_nestedFrame {ra : Word} : Keeps l (nestedFrame ra) := by
  unfold nestedFrame
  repeat' (first | with_reducible refine Keeps.bind ?_ fun _ => ?_ | split | simp)
  exact keeps_modify fun _ => Frame.of_dispFlag

@[simp] theorem keeps_overflowFrame : Keeps l overflowFrame := by
  unfold overflowFrame
  repeat' (first | with_reducible refine Keeps.bind ?_ fun _ => ?_ | split | simp)

@[simp] theorem keeps_switchToIcs {ra : Word} : Keeps l (switchToIcs ra) := by
  unfold switchToIcs
  repeat' (first | with_reducible refine Keeps.bind ?_ fun _ => ?_ | split | simp)

@[simp] theorem keeps_raiseLimit : Keeps l raiseLimit := by
  unfold raiseLimit
  repeat' (first | with_reducible refine Keeps.bind ?_ fun _ => ?_ | split | simp)

@[simp] theorem keeps_icsTrapEntry {t : Trap} {p : Option Word} {ra : Word} : Keeps l (icsTrapEntry t p ra) := by
  unfold icsTrapEntry
  repeat' (first | with_reducible refine Keeps.bind ?_ fun _ => ?_ | split | simp)

@[simp] theorem keeps_postEntryTests {fuel : Nat} {in55 : Bool} : Keeps l (postEntryTests fuel in55) := by
  induction fuel generalizing in55 with
  | zero =>
    unfold postEntryTests
    repeat' (first | with_reducible refine Keeps.bind ?_ fun _ => ?_ | split | simp_all)
  | succ n ih =>
    unfold postEntryTests
    repeat' (first | with_reducible refine Keeps.bind ?_ fun _ => ?_ | split | simp_all)

/-- Reserved bits of MSG that are 0 stay 0 when other bits are cleared. -/
theorem field_andNot_reserved {m b : Word} (r : field m 3 3 = 0#3) : field (m &&& ~~~ b) 3 3 = 0#3 := by
  have e : field (m &&& ~~~ b) 3 3 = field m 3 3 &&& ~~~ field b 3 3 := by
    ext i hi; interval_cases i <;> simp [field]
  rw [e, r]; simp

/-- Clearing some bits of MSG leaves its reserved bits 0 and its unmasked level bits 0. -/
theorem Frame.of_MSG_clear {s : State} {b : Word} (hb : s.undisturbed → b = 0#32) :
    Frame l s { s with MSG := s.MSG &&& ~~~ b } :=
  Frame.of_MSG
    field_andNot_reserved
    (fun _ z => by
      have e : ({ s with MSG := s.MSG &&& ~~~ b } : State).levelBits = s.levelBits &&& ~~~ b := by
        simp only [State.levelBits]
        ac_rfl
      rw [e, z]; simp)
    (fun _ _ z => by rw [hb z]; exact BitVec.and_allOnes)

/-- The Message Trap clears the reported bits and enters with them (R630). -/
theorem messageTrap_apply (ra : Word) (s : State) :
    messageTrap ra s =
      icsTrapEntry .message (some s.messageBits) ra { s with MSG := s.MSG &&& ~~~ s.messageBits } := (rfl)

@[simp] theorem keeps_messageTrap {ra : Word} : Keeps l (messageTrap ra) where
  ok h := (Frame.of_MSG_clear fun z => z.2.1).trans (keeps_icsTrapEntry.ok (messageTrap_apply _ _ ▸ h))
  trap h := (Frame.of_MSG_clear fun z => z.2.1).trans (keeps_icsTrapEntry.trap (messageTrap_apply _ _ ▸ h))

@[simp] theorem keeps_residentEntry {base : Word} {n : BitVec 11} : Keeps l (residentEntry base n) := by
  unfold residentEntry
  repeat' (first | with_reducible refine Keeps.bind ?_ fun _ => ?_ | split | simp)

@[simp] theorem keeps_setDbDl {d : Word} : Keeps l (setDbDl d) := by
  unfold setDbDl
  repeat' (first | with_reducible refine Keeps.bind ?_ fun _ => ?_ | split | simp)

theorem keeps_serviceDevice {n : Nat} {dev ra : Word} (h : l.mask = true) : Keeps l (serviceDevice n dev ra) := by
  have hm : Keeps l (modify fun s => { s with MASK := s.MASK ||| lowerLevels s.cfg.level0Highest n } : M PUnit) :=
    keeps_modify fun _ => Frame.of_MASK h
  unfold serviceDevice
  repeat' (first | with_reducible refine Keeps.bind ?_ fun _ => ?_ | split | simp [hm])

/-- The licence that allows a change of MASK and MSG as well. -/
def Licence.disturbed (l : Licence) : Licence := { l with mask := true }

/-- Where an unmasked level bit is set, a change of MASK and of MSG is allowed. -/
theorem Frame.of_disturbed {s t : State} (hz : s.levelBits ≠ 0#32) (h : Frame l.disturbed s t) : Frame l s t where
  cfg := h.cfg
  mem := h.mem
  even := h.even
  reserved := h.reserved
  within a p :=
    let k := h.within a p
    { poll := k.poll, SAR := k.SAR, SDR := k.SDR, CIR := k.CIR, inputs := k.inputs, breakpoint := k.breakpoint
      lockout := k.lockout, debugPad := k.debugPad, secondary := k.secondary, dst := k.dst, run := k.run
      mask := fun _ z => absurd z hz, msg := fun _ _ z => absurd z.1 hz
      sent := k.sent, icsFlag := k.icsFlag, dispFlag := k.dispFlag }

/-- No unmasked level bit is set, so no level is pending (R641). -/
theorem State.pendingLevel_none {s : State} (h : s.levelBits = 0#32) : s.pendingLevel = none := by
  unfold State.pendingLevel
  rw [h]
  simp [List.find?_eq_none, bit]

theorem interruptEntry_none {ra : Word} {s : State} (h : s.levelBits = 0#32) :
    interruptEntry ra s = .ok (false, s) := by
  unfold interruptEntry
  rw [M.get_bind, State.pendingLevel_none h]
  rfl

theorem field_setBit_reserved (m : Word) (k : Nat) (b : Bool) (h : 16 ≤ k) (h' : k < 32) :
    field (setBit m k b) 3 3 = field m 3 3 :=
  field_setField_apart _ _ _ _ _ _ (by omega) (by omega) (by omega)

theorem pendingLevel_lt {s : State} {n : Nat} (h : s.pendingLevel = some n) : n < 16 := by
  have hm := List.mem_of_find?_eq_some h
  unfold levelOrder at hm
  split at hm <;> simpa using hm

theorem keeps_interruptEntry_disturbed {ra : Word} : Keeps l.disturbed (interruptEntry ra) := by
  have hs {n : Nat} {dev : Word} : Keeps l.disturbed (serviceDevice n dev ra) := keeps_serviceDevice rfl
  have hm {n : Nat} (hn : n < 16) :
      Keeps l.disturbed (modify fun s => { s with MSG := setBit s.MSG (16 + n) false } : M PUnit) :=
    keeps_modify fun s => Frame.of_MSG (fun r => by rwa [field_setBit_reserved _ _ _ (by omega) (by omega)])
      (fun e => by simp [Licence.disturbed] at e) (fun _ e => by simp [Licence.disturbed] at e)
  unfold interruptEntry
  refine keeps_get.bind fun s => ?_
  split
  · simp
  · rename_i n hn
    have hm := hm (pendingLevel_lt hn)
    repeat' (first | with_reducible refine Keeps.bind ?_ fun _ => ?_ | split | simp [hm, hs])

@[simp] theorem keeps_interruptEntry {ra : Word} : Keeps l (interruptEntry ra) where
  ok {s _ _} h := by
    by_cases hz : s.levelBits = 0#32
    · rw [interruptEntry_none hz] at h; cases h; exact Frame.refl s
    · exact Frame.of_disturbed hz (keeps_interruptEntry_disturbed.ok h)
  trap {s _ _ _} h := by
    by_cases hz : s.levelBits = 0#32
    · rw [interruptEntry_none hz] at h; cases h
    · exact Frame.of_disturbed hz (keeps_interruptEntry_disturbed.trap h)

/-! ## The end of an instruction -/

@[simp] theorem keeps_entryItems {e : End} : Keeps l (entryItems e) := by
  unfold entryItems
  repeat' (first | with_reducible refine Keeps.bind ?_ fun _ => ?_ | split | simp)

@[simp] theorem keeps_laterItems : Keeps l laterItems := by
  unfold laterItems
  repeat' (first | with_reducible refine Keeps.bind ?_ fun _ => ?_ | split | simp)

@[simp] theorem keeps_endTests {e : End} : Keeps l (endTests e) := by
  unfold endTests
  repeat' (first | with_reducible refine Keeps.bind ?_ fun _ => ?_ | split | simp)

@[simp] theorem keeps_finish {n : Nat} {d : Bool} {e : End} (h : n % 2 = 0) : Keeps l (finish n d e) := by
  have hP : Keeps l (modify fun s => { s with P := s.P + BitVec.ofNat 32 n } : M PUnit) :=
    keeps_modify fun _ => Frame.of_P (bit_add_even h)
  unfold finish
  repeat' (first | with_reducible refine Keeps.bind ?_ fun _ => ?_ | split | simp [hP])

@[simp] theorem keeps_takeTrap {t : Trap} {p : Option Word} : Keeps l (takeTrap t p) := by
  unfold takeTrap
  repeat' (first | with_reducible refine Keeps.bind ?_ fun _ => ?_ | split | simp)

@[simp] theorem keeps_overflowIf {c : Bool} {kind type : Nat} : Keeps l (overflowIf c kind type) := by
  unfold overflowIf
  repeat' (first | with_reducible refine Keeps.bind ?_ fun _ => ?_ | split | simp)

end Sys2Proof.Machine

namespace Sys2Proof.Machine

variable {α β : Type} {l : Licence}

/-! ## Reset, the other agents and polls -/

/-- An update by another agent, which may change every register. -/
theorem Frame.of_agent {s t : State} (h : l.agent = true) (cfg : t.cfg = s.cfg := by rfl)
    (mem : s.mem.wf = true → t.mem.wf = true := by exact fun w => w)
    (even : bit s.P 31 = false → bit t.P 31 = false := by exact fun e => e)
    (reserved : field s.MSG 3 3 = 0#3 → field t.MSG 3 3 = 0#3 := by exact fun r => r) : Frame l s t where
  cfg := cfg
  mem := mem
  even := even
  reserved := reserved
  within a := by simp [h] at a

@[simp] theorem keeps_resetMarker : Keeps l resetMarker := by
  unfold resetMarker
  repeat' (first | with_reducible refine Keeps.bind ?_ fun _ => ?_ | split | simp)

theorem keeps_hardwareReset (h : l.agent = true) : Keeps l hardwareReset := by
  have hm {g : State → State} (hg : ∀ s, (g s).cfg = s.cfg ∧ (g s).mem = s.mem ∧ (g s).P = s.P ∧ (g s).MSG = s.MSG) :
      Keeps l (modify g : M PUnit) := keeps_modify fun s => by
    obtain ⟨hc, hm, hp, hg⟩ := hg s
    exact Frame.of_agent h hc (fun w => hm ▸ w) (fun e => hp ▸ e) (fun r => hg ▸ r)
  unfold hardwareReset
  repeat' (first | with_reducible refine Keeps.bind ?_ fun _ => ?_ | split | simp)
  all_goals exact hm fun _ => ⟨rfl, rfl, rfl, rfl⟩

theorem field_or_agentBits (m b : Word) : field (m ||| b &&& agentBits) 3 3 = field m 3 3 := by
  ext i hi
  interval_cases i <;> simp [field, agentBits]

theorem keeps_requestInterrupt {level : BitVec 4} {dev : Word} (h : l.agent = true) :
    Keeps l (requestInterrupt level dev) := by
  have hm : Keeps l (modify fun s => { s with MSG := setBit s.MSG (16 + level.toNat) true } : M PUnit) :=
    keeps_modify fun s => Frame.of_agent h
      (reserved := fun r => by rwa [field_setBit_reserved _ _ _ (by omega) (by omega)])
  unfold requestInterrupt
  repeat' (first | with_reducible refine Keeps.bind ?_ fun _ => ?_ | split | simp [hm])

theorem keeps_deliver {m : Move} (h : l.agent = true) : Keeps l (deliver m) := by
  unfold deliver
  split
  · exact keeps_hardwareReset h
  · exact keeps_modify fun s => Frame.of_agent h (reserved := fun r => by rwa [field_or_agentBits])
  · exact keeps_modify fun s => Frame.of_agent h
      (reserved := fun r => by rwa [setBit, field_setField_apart _ _ _ _ _ _ (by omega) (by omega) (by omega)])
  · exact keeps_requestInterrupt h
  · split <;> simp

theorem keeps_deliverAll {ms : List Move} (h : l.agent = true) : Keeps l (deliverAll ms) := by
  induction ms with
  | nil => exact keeps_pure
  | cons m rest ih =>
    unfold deliverAll
    refine (keeps_deliver h).bind fun _ => ?_
    split
    · exact keeps_pure
    · exact ih

/-- Where a poll is scheduled, another agent may move. -/
theorem Frame.of_poll {s t : State} (hp : s.poll ≠ none) (h : Frame { agent := true } s t) : Frame l s t where
  cfg := h.cfg
  mem := h.mem
  even := h.even
  reserved := h.reserved
  within _ p := absurd p hp

theorem keeps_pollBefore_agent {k : Nat} : Keeps { agent := true } (pollBefore k) := by
  have hm : Keeps { agent := true } (modify fun s => { s with poll := none } : M PUnit) :=
    keeps_modify fun s => Frame.of_agent rfl
  have hd {ms : List Move} : Keeps { agent := true } (deliverAll ms) := keeps_deliverAll rfl
  unfold pollBefore
  repeat' (first | with_reducible refine Keeps.bind ?_ fun _ => ?_ | split | simp [hm, hd])

@[simp] theorem keeps_pollBefore {k : Nat} : Keeps l (pollBefore k) where
  ok {s _ _} h := by
    by_cases hp : s.poll = none
    · rw [pollBefore_none hp] at h; cases h; exact Frame.refl s
    · exact Frame.of_poll hp (keeps_pollBefore_agent.ok h)
  trap {s _ _ _} h := by
    by_cases hp : s.poll = none
    · rw [pollBefore_none hp] at h; cases h
    · exact Frame.of_poll hp (keeps_pollBefore_agent.trap h)

@[simp] theorem keeps_suspend : Keeps l suspend := by
  unfold suspend
  repeat' (first | with_reducible refine Keeps.bind ?_ fun _ => ?_ | split | simp)

/-! ## Returning -/

@[simp] theorem keeps_exitCore {n : Nat} {r : Bool} : Keeps l (exitCore n r) := by
  unfold exitCore
  repeat' (first | with_reducible refine Keeps.bind ?_ fun _ => ?_ | split | simp)

@[simp] theorem keeps_dispatcherContext {qi : Word} : Keeps l (dispatcherContext qi) := by
  unfold dispatcherContext
  repeat' (first | with_reducible refine Keeps.bind ?_ fun _ => ?_ | split | simp)

/-- A new DISP flag, where the licence allows it to be set. -/
theorem Frame.of_dispatch {s : State} {b : Bool} {st x sp : Word} (h : b = true → l.dispatch = true) :
    Frame l s { s with dispFlag := b, STATUS := st, X := x, S := sp } where
  within _ p := { poll := p, dispFlag := fun e _ => by cases b <;> simp_all }

theorem keeps_startDispatcher {nested : Bool} (h : l.dispatch = true) : Keeps l (startDispatcher nested) := by
  have hm {nested : Bool} {c : Word × Word × Word} :
      Keeps l (modify fun s => { s with dispFlag := !nested, STATUS := c.1, X := c.2.1, S := s.Q + 12#32 } : M PUnit) :=
    keeps_modify fun _ => Frame.of_dispatch fun _ => h
  unfold startDispatcher
  repeat' (first | with_reducible refine Keeps.bind ?_ fun _ => ?_ | split | simp [hm])

@[simp] theorem keeps_processStack {base : Word} : Keeps l (processStack base) := by
  unfold processStack
  repeat' (first | with_reducible refine Keeps.bind ?_ fun _ => ?_ | split | simp)

theorem keeps_returnToProcess (hd : l.dst = true) (hi : l.leaveIcs = true) : Keeps l returnToProcess := by
  have hm {dst db dl sb sl q sp : Word} :
      Keeps l (modify fun s => { s with DST := dst, DB := db, DL := dl, SB := sb, SL := sl, Q := q, S := sp,
                                        icsFlag := false } : M PUnit) :=
    keeps_modify fun _ =>
      { within := fun _ p => { poll := p, dst := fun e => by simp [hd] at e, icsFlag := fun e => by simp [hi] at e } }
  unfold returnToProcess
  repeat' (first | with_reducible refine Keeps.bind ?_ fun _ => ?_ | simp [hm])

end Sys2Proof.Machine

namespace Sys2Proof.Machine

variable {α β : Type} {l : Licence}

/-! ## The operand forms the families share: optional indexing, shift counts, stack-indirect pointers -/

@[simp] theorem keeps_evalPopped {ptr : Word} {indexed modmem : Bool} {span pops : Nat} :
    Keeps l (evalPopped ptr indexed modmem span pops) := by
  unfold evalPopped
  repeat' (first | with_reducible refine Keeps.bind ?_ fun _ => ?_ | split | simp)

@[simp] theorem keeps_absoluteAddress {base : Word} {indexed : Bool} : Keeps l (absoluteAddress base indexed) := by
  unfold absoluteAddress
  repeat' (first | with_reducible refine Keeps.bind ?_ fun _ => ?_ | split | simp)

@[simp] theorem keeps_requireDataBase {b : Base} : Keeps l (requireDataBase b) := by
  unfold requireDataBase
  repeat' (first | with_reducible refine Keeps.bind ?_ fun _ => ?_ | split | simp)

@[simp] theorem keeps_tracedThrough {c : Located} {p : Word} {indexed : Bool} {count : Int} :
    Keeps l (tracedThrough c p indexed count) := by
  unfold tracedThrough
  repeat' (first | with_reducible refine Keeps.bind ?_ fun _ => ?_ | split | simp)

@[simp] theorem keeps_answer {v : Word} : Keeps l (answer v) := by
  unfold answer
  repeat' (first | with_reducible refine Keeps.bind ?_ fun _ => ?_ | split | simp)

@[simp] theorem keeps_pushAnswer {v : Word} : Keeps l (pushAnswer v) := by
  unfold pushAnswer
  repeat' (first | with_reducible refine Keeps.bind ?_ fun _ => ?_ | split | simp)

@[simp] theorem keeps_setXAnswer {v : Word} : Keeps l (setXAnswer v) := by
  unfold setXAnswer
  repeat' (first | with_reducible refine Keeps.bind ?_ fun _ => ?_ | split | simp)

/-! ## Integer arithmetic and logical instructions -/

@[simp] theorem keeps_replaceTwo {v : Word} : Keeps l (replaceTwo v) := by
  unfold replaceTwo
  repeat' (first | with_reducible refine Keeps.bind ?_ fun _ => ?_ | split | simp)

@[simp] theorem keeps_putCCExt {v : Word} {ext : Bool} : Keeps l (putCCExt v ext) := by
  unfold putCCExt
  repeat' (first | with_reducible refine Keeps.bind ?_ fun _ => ?_ | split | simp)

@[simp] theorem keeps_arithResult {r : Int} {ext : Bool} : Keeps l (arithResult r ext) := by
  unfold arithResult
  repeat' (first | with_reducible refine Keeps.bind ?_ fun _ => ?_ | split | simp)

@[simp] theorem keeps_arithTop {r : Int} : Keeps l (arithTop r) := by
  unfold arithTop
  repeat' (first | with_reducible refine Keeps.bind ?_ fun _ => ?_ | split | simp)

@[simp] theorem keeps_arithX {r : Int} : Keeps l (arithX r) := by
  unfold arithX
  repeat' (first | with_reducible refine Keeps.bind ?_ fun _ => ?_ | split | simp)

@[simp] theorem keeps_compareAnd {a b : Int} {k : Nat} : Keeps l (compareAnd a b k) := by
  unfold compareAnd
  repeat' (first | with_reducible refine Keeps.bind ?_ fun _ => ?_ | split | simp)

/-! ## Logical (unsigned) arithmetic on the stack -/

@[simp] theorem keeps_logicalResult {v : Word} {carry ext : Bool} : Keeps l (logicalResult v carry ext) := by
  unfold logicalResult
  repeat' (first | with_reducible refine Keeps.bind ?_ fun _ => ?_ | split | simp)

/-! ## Memory operand arithmetic -/

@[simp] theorem keeps_addToMemory {i x : Bool} {base : Base} {off : BitVec 19} {k : Int} :
    Keeps l (addToMemory i x base off k) := by
  unfold addToMemory
  repeat' (first | with_reducible refine Keeps.bind ?_ fun _ => ?_ | split | simp)

/-! ## Size check and bitwise logic -/

@[simp] theorem keeps_logicTwo {f : Word → Word → Word} : Keeps l (logicTwo f) := by
  unfold logicTwo
  repeat' (first | with_reducible refine Keeps.bind ?_ fun _ => ?_ | split | simp)

/-! ## Branch targets -/

@[simp] theorem keeps_branchTarget {b : Base} {off : Nat} {ind idx : Bool} :
    Keeps l (branchTarget b off ind idx) := by
  unfold branchTarget
  repeat' (first | with_reducible refine Keeps.bind ?_ fun _ => ?_ | split | simp)

@[simp] theorem keeps_relativeTarget {disp : Int} {ind : Bool} : Keeps l (relativeTarget disp ind) := by
  unfold relativeTarget
  repeat' (first | with_reducible refine Keeps.bind ?_ fun _ => ?_ | split | simp)

@[simp] theorem keeps_branchWhen {take : Bool} {disp : Int} {ind : Bool} : Keeps l (branchWhen take disp ind) := by
  unfold branchWhen
  repeat' (first | with_reducible refine Keeps.bind ?_ fun _ => ?_ | split | simp)

/-! ## Branches -/

@[simp] theorem keeps_branchCarry {want i sign : Bool} {off : BitVec 6} :
    Keeps l (branchCarry want i sign off) := by
  unfold branchCarry
  repeat' (first | with_reducible refine Keeps.bind ?_ fun _ => ?_ | split | simp)

@[simp] theorem keeps_branchOverflow {want i sign : Bool} {off : BitVec 6} :
    Keeps l (branchOverflow want i sign off) := by
  unfold branchOverflow
  repeat' (first | with_reducible refine Keeps.bind ?_ fun _ => ?_ | split | simp)

@[simp] theorem keeps_branchTop {test : Word → Bool} {i sign : Bool} {off : BitVec 6} :
    Keeps l (branchTop test i sign off) := by
  unfold branchTop
  repeat' (first | with_reducible refine Keeps.bind ?_ fun _ => ?_ | split | simp)

/-! ## NOP, STOP, WAIT -/

@[simp] theorem keeps_saveS : Keeps l saveS := by
  unfold saveS
  repeat' (first | with_reducible refine Keeps.bind ?_ fun _ => ?_ | split | simp)

/-! ## Procedure call and exit -/

@[simp] theorem keeps_callBody {off : BitVec 19} {ilen : Nat} : Keeps l (callBody off ilen) := by
  unfold callBody
  repeat' (first | with_reducible refine Keeps.bind ?_ fun _ => ?_ | split | simp)

/-! ## Dispatcher and interrupt exit -/

@[simp] theorem keeps_dispatchDisabled {qi : Word} : Keeps l (dispatchDisabled qi) := by
  unfold dispatchDisabled
  repeat' (first | with_reducible refine Keeps.bind ?_ fun _ => ?_ | split | simp)

theorem keeps_dispatch (h : l.dispatch = true) : Keeps l dispatch := by
  have hs {nested : Bool} : Keeps l (startDispatcher nested) := keeps_startDispatcher h
  unfold dispatch
  repeat' (first | with_reducible refine Keeps.bind ?_ fun _ => ?_ | split | simp [hs])

theorem keeps_returnWithinIcs {w : Word} (h : l.dispatch = true) : Keeps l (returnWithinIcs w) := by
  have hm : Keeps l (modify fun s => { s with dispFlag := true } : M PUnit) :=
    keeps_modify fun _ => Frame.of_dispatch fun _ => h
  unfold returnWithinIcs
  repeat' (first | with_reducible refine Keeps.bind ?_ fun _ => ?_ | split | simp [hm])

@[simp] theorem keeps_dispatchDue : Keeps l dispatchDue := by
  unfold dispatchDue
  repeat' (first | with_reducible refine Keeps.bind ?_ fun _ => ?_ | split | simp)

/-! ## Debugging aids -/

@[simp] theorem keeps_debugTrap {c : Bool} {t : Trap} {param : Option Word} : Keeps l (debugTrap c t param) := by
  unfold debugTrap
  repeat' (first | with_reducible refine Keeps.bind ?_ fun _ => ?_ | split | simp)

/-! ## The two floating-point traps -/

@[simp] theorem keeps_operandTrap {below top : Nat} : Keeps l (operandTrap below top) := by
  unfold operandTrap
  repeat' (first | with_reducible refine Keeps.bind ?_ fun _ => ?_ | split | simp)

@[simp] theorem keeps_withOperand {f : FloatFormat} {v : Nat} {k : Unpacked → M End} (h : ∀ u, Keeps l (k u)) :
    Keeps l (withOperand f v k) := by
  unfold withOperand
  repeat' (first | with_reducible refine Keeps.bind ?_ fun _ => ?_ | split | simp [h])

@[simp] theorem keeps_withOperands {f : FloatFormat} {v1 v2 : Nat} {k : Unpacked → Unpacked → M End}
    (h : ∀ u v, Keeps l (k u v)) :
    Keeps l (withOperands f v1 v2 k) := by
  unfold withOperands
  repeat' (first | with_reducible refine Keeps.bind ?_ fun _ => ?_ | split | simp [h])

@[simp] theorem keeps_concludeResult {f : FloatFormat} {d : Delivered} : Keeps l (concludeResult f d) := by
  unfold concludeResult
  repeat' (first | with_reducible refine Keeps.bind ?_ fun _ => ?_ | split | simp)

/-! ## Delete, duplicate, exchange -/

@[simp] theorem keeps_deleteWords {k : Nat} : Keeps l (deleteWords k) := by
  unfold deleteWords
  repeat' (first | with_reducible refine Keeps.bind ?_ fun _ => ?_ | split | simp)

/-! ## Tests -/

@[simp] theorem keeps_testAnd {cc : BitVec 2} {pop : Bool} {k : Nat} : Keeps l (testAnd cc pop k) := by
  unfold testAnd
  repeat' (first | with_reducible refine Keeps.bind ?_ fun _ => ?_ | split | simp)

/-! ## Register push and set -/

@[simp] theorem keeps_fillWords {v : Word} {n : Nat} {a : Word} : Keeps l (fillWords v n a) := by
  induction n generalizing a with
  | zero => exact keeps_pure
  | succ n ih =>
    unfold fillWords
    repeat' (first | with_reducible refine Keeps.bind ?_ fun _ => ?_ | split | simp [ih])

@[simp] theorem keeps_pushIf {c : Bool} {v : Word} : Keeps l (pushIf c v) := by
  unfold pushIf
  repeat' (first | with_reducible refine Keeps.bind ?_ fun _ => ?_ | split | simp)

@[simp] theorem keeps_pushBlock {block : Bool} : Keeps l (pushBlock block) := by
  unfold pushBlock
  repeat' (first | with_reducible refine Keeps.bind ?_ fun _ => ?_ | split | simp)

@[simp] theorem keeps_popWord : Keeps l popWord := by
  unfold popWord
  repeat' (first | with_reducible refine Keeps.bind ?_ fun _ => ?_ | split | simp)

@[simp] theorem keeps_dstEntryOf {n : BitVec 12} : Keeps l (dstEntryOf n) := by
  unfold dstEntryOf
  repeat' (first | with_reducible refine Keeps.bind ?_ fun _ => ?_ | split | simp)

@[simp] theorem keeps_checkGlobal {n : BitVec 12} {w0 : Word} : Keeps l (checkGlobal n w0) := by
  unfold checkGlobal
  repeat' (first | with_reducible refine Keeps.bind ?_ fun _ => ?_ | split | simp)

@[simp] theorem keeps_checkOldGlobal {old : BitVec 12} {e : DstHead} : Keeps l (checkOldGlobal old e) := by
  unfold checkOldGlobal
  repeat' (first | with_reducible refine Keeps.bind ?_ fun _ => ?_ | split | simp)

/-! ## Shifts -/

@[simp] theorem keeps_shiftTop {f : Word → Word} : Keeps l (shiftTop f) := by
  unfold shiftTop
  repeat' (first | with_reducible refine Keeps.bind ?_ fun _ => ?_ | split | simp)

/-! ## Floating-point, conversion and decimal instructions -/

@[simp] theorem keeps_doubleOp {op : Int → BitVec 2 → Unpacked → Unpacked → Delivered} {divides : Bool} :
    Keeps l (doubleOp op divides) := by
  unfold doubleOp
  repeat' (first
    | with_reducible refine Keeps.bind ?_ fun _ => ?_
    | split
    | refine keeps_withOperands fun _ _ => ?_
    | simp)

@[simp] theorem keeps_singleOp {op : Int → BitVec 2 → Unpacked → Unpacked → Delivered} {divides : Bool} :
    Keeps l (singleOp op divides) := by
  unfold singleOp
  repeat' (first
    | with_reducible refine Keeps.bind ?_ fun _ => ?_
    | split
    | refine keeps_withOperands fun _ _ => ?_
    | simp)

/-! ## Decimal -/

@[simp] theorem keeps_digits {k v : Nat} : Keeps l (digits k v) := by
  unfold digits
  repeat' (first | with_reducible refine Keeps.bind ?_ fun _ => ?_ | split | simp)

@[simp] theorem keeps_decimalLogical {f : Int → Int → Int} {carryOf : Int → Bool} {ext : Bool} :
    Keeps l (decimalLogical f carryOf ext) := by
  unfold decimalLogical
  repeat' (first | with_reducible refine Keeps.bind ?_ fun _ => ?_ | split | simp)

@[simp] theorem keeps_pushPair {ab : DWord × DWord} : Keeps l (pushPair ab) := by
  unfold pushPair
  repeat' (first | with_reducible refine Keeps.bind ?_ fun _ => ?_ | split | simp)

@[simp] theorem keeps_requireExponent {c : Bool} : Keeps l (requireExponent c) := by
  unfold requireExponent
  repeat' (first | with_reducible refine Keeps.bind ?_ fun _ => ?_ | split | simp)

@[simp] theorem keeps_decimalInteger {w0 w1 w2 : Word} : Keeps l (decimalInteger w0 w1 w2) := by
  unfold decimalInteger
  repeat' (first | with_reducible refine Keeps.bind ?_ fun _ => ?_ | split | simp)

@[simp] theorem keeps_btdGuess : Keeps l btdGuess := by
  unfold btdGuess
  repeat' (first
    | with_reducible refine Keeps.bind ?_ fun _ => ?_
    | split
    | refine keeps_withOperand fun _ => ?_
    | simp)

@[simp] theorem keeps_btdCorrect {i : Word} {cc : BitVec 2} : Keeps l (btdCorrect i cc) := by
  unfold btdCorrect
  repeat' (first | with_reducible refine Keeps.bind ?_ fun _ => ?_ | split | simp)

@[simp] theorem keeps_pokeDecimal {i : Word} {neg : Bool} {n : Nat} : Keeps l (pokeDecimal i neg n) := by
  unfold pokeDecimal
  repeat' (first | with_reducible refine Keeps.bind ?_ fun _ => ?_ | split | simp)

@[simp] theorem keeps_btdDigits : Keeps l btdDigits := by
  unfold btdDigits
  repeat' (first
    | with_reducible refine Keeps.bind ?_ fun _ => ?_
    | split
    | refine keeps_withOperand fun _ => ?_
    | simp)

/-! ## The MPB -/

@[simp] theorem keeps_preCheckMpb : Keeps l preCheckMpb := by
  unfold preCheckMpb
  repeat' (first | with_reducible refine Keeps.bind ?_ fun _ => ?_ | split | simp)

theorem keeps_mpbRequest {r : MpbRequest} (h : l.msg = true) : Keeps l (mpbRequest r) where
  ok {s _ _} e := by
    have hs {mpb : List MpbReply} {n : Nat} : Frame l s { s with sent := r :: s.sent, mpb := mpb, freeCtr := n } :=
      { within := fun _ p => { poll := p, sent := fun z => by simp [h] at z } }
    unfold mpbRequest at e
    dsimp only at e
    split at e <;> cases e <;> exact hs
  trap {s _ _ _} e := by
    unfold mpbRequest at e
    dsimp only at e
    split at e <;> cases e

/-- A bit of MSG outside bits 16 to 31 is no level bit (R641). -/
theorem State.levelBits_setBit {s : State} {k : Nat} {b : Bool} (h : k < 16) :
    ({ s with MSG := setBit s.MSG k b } : State).levelBits = s.levelBits := by
  have e (i : Nat) (hi : i < 16) : (setBit s.MSG k b).getLsbD i = s.MSG.getLsbD i := by
    have := bit_setBit_other s.MSG k (31 - i) b (by omega) (by omega) (by omega)
    simpa [bit, show 32 - (31 - i) - 1 = i by omega] using this
  simp only [State.levelBits]
  apply BitVec.eq_of_getLsbD_eq
  intro i hi
  by_cases h16 : i < 16
  · simp [e i h16]
  · have : (0xFFFF#32).getLsbD i = false := by interval_cases i <;> simp_all
    simp [this]

/-- A bit of MSG outside the reserved and the level bits, where the licence allows a change of MSG. -/
theorem Frame.of_setBit {s : State} {k : Nat} {b : Bool} (hk : k < 16) (hr : k < 3 ∨ 6 ≤ k) (h : l.msg = true) :
    Frame l s { s with MSG := setBit s.MSG k b } :=
  Frame.of_MSG
    (fun r => by rwa [setBit, field_setField_apart _ _ _ _ _ _ (by omega) (by omega) (by omega)])
    (fun _ z => by rwa [State.levelBits_setBit hk])
    (fun e => by simp [h] at e)

theorem keeps_noteMpbErrors {r : MpbReply} (h : l.msg = true) : Keeps l (noteMpbErrors r) :=
  keeps_modify fun _ =>
    (Frame.of_setBit (k := 1) (by omega) (by omega) h).trans (Frame.of_setBit (k := 2) (by omega) (by omega) h)

theorem keeps_raiseMpbError {r : MpbReply} (h : l.msg = true) : Keeps l (raiseMpbError r) := by
  have hm : Keeps l (modify fun s => { s with MSG := setBit (setBit s.MSG 1 false) 2 false } : M PUnit) :=
    keeps_modify fun _ =>
      (Frame.of_setBit (k := 1) (by omega) (by omega) h).trans (Frame.of_setBit (k := 2) (by omega) (by omega) h)
  unfold raiseMpbError
  repeat' (first | with_reducible refine Keeps.bind ?_ fun _ => ?_ | split | simp [hm, keeps_noteMpbErrors h])

@[simp] theorem keeps_checkDeviceWord {w : Word} : Keeps l (checkDeviceWord w) := by
  unfold checkDeviceWord
  repeat' (first | with_reducible refine Keeps.bind ?_ fun _ => ?_ | split | simp)

end Sys2Proof.Machine

namespace Sys2Proof.Machine

variable {α β : Type} {l : Licence}

/-! ## Loads -/

@[simp] theorem keeps_loadWord {b : Base} {off : Nat} {i x : Bool} : Keeps l (loadWord b off i x) := by
  unfold loadWord
  repeat' (first | with_reducible refine Keeps.bind ?_ fun _ => ?_ | split | simp)

@[simp] theorem keeps_loadDouble {b : Base} {off : Nat} {i x : Bool} : Keeps l (loadDouble b off i x) := by
  unfold loadDouble
  repeat' (first | with_reducible refine Keeps.bind ?_ fun _ => ?_ | split | simp)

@[simp] theorem keeps_lraIndexed {p : Word} {xx : Int} : Keeps l (lraIndexed p xx) := by
  unfold lraIndexed
  repeat' (first | with_reducible refine Keeps.bind ?_ fun _ => ?_ | split | simp)

@[simp] theorem keeps_loadRelative {b : Base} {off : Nat} {i x : Bool} : Keeps l (loadRelative b off i x) := by
  unfold loadRelative
  repeat' (first | with_reducible refine Keeps.bind ?_ fun _ => ?_ | split | simp)

@[simp] theorem keeps_loadProgramPointer {off : BitVec 19} : Keeps l (loadProgramPointer off) := by
  unfold loadProgramPointer
  repeat' (first | with_reducible refine Keeps.bind ?_ fun _ => ?_ | split | simp)

/-! ## Stores -/

@[simp] theorem keeps_storeWord {b : Base} {off : Nat} {i x : Bool} : Keeps l (storeWord b off i x) := by
  unfold storeWord
  repeat' (first | with_reducible refine Keeps.bind ?_ fun _ => ?_ | split | simp)

/-! ## The common loop -/

@[simp] theorem keeps_iterate {body : M Bool} {fuel k : Nat} (h :
    Keeps l body) : Keeps l (iterate body fuel k) := by
  induction fuel generalizing k with
  | zero => exact keeps_pure
  | succ n ih =>
    unfold iterate
    repeat' (first | with_reducible refine Keeps.bind ?_ fun _ => ?_ | split | simp [h, ih])

@[simp] theorem keeps_afterLoop {r : LoopEnd} {finish : Bool → M End} (h : ∀ b, Keeps l (finish b)) :
    Keeps l (afterLoop r finish) := by
  unfold afterLoop
  repeat' (first | with_reducible refine Keeps.bind ?_ fun _ => ?_ | split | simp [h])

@[simp] theorem keeps_advanceX {d : Bool} : Keeps l (advanceX d) := by
  unfold advanceX
  repeat' (first | with_reducible refine Keeps.bind ?_ fun _ => ?_ | split | simp)

@[simp] theorem keeps_remaining {d : Bool} : Keeps l (remaining d) := by
  unfold remaining
  repeat' (first | with_reducible refine Keeps.bind ?_ fun _ => ?_ | split | simp)

@[simp] theorem keeps_startX : Keeps l startX :=
  keeps_modify fun s => by
    split
    · exact Frame.refl s
    · exact Frame.of_special rfl

@[simp] theorem keeps_avoidParameters {a : Word} : Keeps l (avoidParameters a) := by
  unfold avoidParameters
  repeat' (first | with_reducible refine Keeps.bind ?_ fun _ => ?_ | split | simp)

@[simp] theorem keeps_sourceAt {ptrType : Bool} {x : Word} : Keeps l (sourceAt ptrType x) := by
  unfold sourceAt
  repeat' (first | with_reducible refine Keeps.bind ?_ fun _ => ?_ | split | simp)

@[simp] theorem keeps_srcAddr {ptrType : Bool} : Keeps l (srcAddr ptrType) := by
  unfold srcAddr
  repeat' (first | with_reducible refine Keeps.bind ?_ fun _ => ?_ | split | simp)

@[simp] theorem keeps_targetAt {modmem : Bool} : Keeps l (targetAt modmem) := by
  unfold targetAt
  repeat' (first | with_reducible refine Keeps.bind ?_ fun _ => ?_ | split | simp)

@[simp] theorem keeps_tgtAddr {modmem : Bool} : Keeps l (tgtAddr modmem) := by
  unfold tgtAddr
  repeat' (first | with_reducible refine Keeps.bind ?_ fun _ => ?_ | split | simp)

@[simp] theorem keeps_areaByte {a : Word} : Keeps l (areaByte a) := by
  unfold areaByte
  repeat' (first | with_reducible refine Keeps.bind ?_ fun _ => ?_ | split | simp)

@[simp] theorem keeps_setAreaByte {a : Word} {b : Byte} : Keeps l (setAreaByte a b) := by
  unfold setAreaByte
  repeat' (first | with_reducible refine Keeps.bind ?_ fun _ => ?_ | split | simp)

@[simp] theorem keeps_endMove {d : Bool} {sdec : Nat} : Keeps l (endMove d sdec) := by
  unfold endMove
  repeat' (first | with_reducible refine Keeps.bind ?_ fun _ => ?_ | split | simp)

@[simp] theorem keeps_checkMovePop {x : Word} {k : Nat} : Keeps l (checkMovePop x k) where
  ok {s _ _} h := by
    unfold checkMovePop at h
    split at h <;> cases h
    exact Frame.refl s
  trap {s _ _ _} h := by
    unfold checkMovePop at h
    split at h <;> cases h
    exact Frame.of_special rfl

@[simp] theorem keeps_moveTrace {target : Word} {always : Bool} : Keeps l (moveTrace target always) := by
  unfold moveTrace
  repeat' (first | with_reducible refine Keeps.bind ?_ fun _ => ?_ | split | simp)

/-! ## Move and scan instructions -/

@[simp] theorem keeps_moveByte {d ptrType : Bool} : Keeps l (moveByte d ptrType) := by
  unfold moveByte
  repeat' (first | with_reducible refine Keeps.bind ?_ fun _ => ?_ | split | simp)

@[simp] theorem keeps_moveBytes {d ptrType : Bool} {sdec : Nat} {traceAlways : Bool} :
    Keeps l (moveBytes d ptrType sdec traceAlways) := by
  unfold moveBytes
  repeat' (first
    | with_reducible refine Keeps.bind ?_ fun _ => ?_
    | split
    | refine keeps_afterLoop fun _ => ?_
    | simp)

@[simp] theorem keeps_moveAbsolute {d : Bool} : Keeps l (moveAbsolute d) := by
  unfold moveAbsolute
  repeat' (first | with_reducible refine Keeps.bind ?_ fun _ => ?_ | split | simp)

@[simp] theorem keeps_scanByte {d ptrType : Bool} {go : Byte → Word → Bool} : Keeps l (scanByte d ptrType go) := by
  unfold scanByte
  repeat' (first | with_reducible refine Keeps.bind ?_ fun _ => ?_ | split | simp)

@[simp] theorem keeps_scanBytes {d ptrType : Bool} {sdec : Nat} {go : Byte → Word → Bool} :
    Keeps l (scanBytes d ptrType sdec go) := by
  unfold scanBytes
  repeat' (first
    | with_reducible refine Keeps.bind ?_ fun _ => ?_
    | split
    | refine keeps_afterLoop fun _ => ?_
    | simp)

@[simp] theorem keeps_compareByte {d ptrType : Bool} : Keeps l (compareByte d ptrType) := by
  unfold compareByte
  repeat' (first | with_reducible refine Keeps.bind ?_ fun _ => ?_ | split | simp)

@[simp] theorem keeps_translateByte {d : Bool} {table : Word × Int} : Keeps l (translateByte d table) := by
  unfold translateByte
  repeat' (first | with_reducible refine Keeps.bind ?_ fun _ => ?_ | split | simp)

@[simp] theorem keeps_fillByte {fill : Byte} : Keeps l (fillByte fill) := by
  unfold fillByte
  repeat' (first | with_reducible refine Keeps.bind ?_ fun _ => ?_ | split | simp)

/-! ## String descriptors -/

@[simp] theorem keeps_stringCheck {c : Bool} {t : Bool} {e : Nat} : Keeps l (stringCheck c t e) := by
  unfold stringCheck
  repeat' (first | with_reducible refine Keeps.bind ?_ fun _ => ?_ | split | simp)

@[simp] theorem keeps_dataOperand {maxLen ptr first len : Word} {modmem : Bool} :
    Keeps l (dataOperand maxLen ptr first len modmem) := by
  unfold dataOperand
  repeat' (first | with_reducible refine Keeps.bind ?_ fun _ => ?_ | split | simp)

@[simp] theorem keeps_fetchSource {ptrType : Bool} : Keeps l (fetchSource ptrType) := by
  unfold fetchSource
  repeat' (first | with_reducible refine Keeps.bind ?_ fun _ => ?_ | split | simp)

@[simp] theorem keeps_validate {o : StringOperand} {negok t : Bool} : Keeps l (validate o negok t) := by
  unfold validate
  repeat' (first | with_reducible refine Keeps.bind ?_ fun _ => ?_ | split | simp)

@[simp] theorem keeps_ptrAdd {o : StringOperand} {n : Int} {t : Bool} : Keeps l (ptrAdd o n t) := by
  unfold ptrAdd
  repeat' (first | with_reducible refine Keeps.bind ?_ fun _ => ?_ | split | simp)

@[simp] theorem keeps_sourceOperand {ptrType negLen : Bool} : Keeps l (sourceOperand ptrType negLen) := by
  unfold sourceOperand
  repeat' (first | with_reducible refine Keeps.bind ?_ fun _ => ?_ | split | simp)

@[simp] theorem keeps_targetOperand {src : StringOperand} {srcTemp tNegLen : Bool} :
    Keeps l (targetOperand src srcTemp tNegLen) := by
  unfold targetOperand
  repeat' (first | with_reducible refine Keeps.bind ?_ fun _ => ?_ | split | simp)

@[simp] theorem keeps_pushAndMove {src tgt : Word} {len : Int} {d ptrType traceAlways : Bool} :
    Keeps l (pushAndMove src tgt len d ptrType traceAlways) := by
  unfold pushAndMove
  repeat' (first | with_reducible refine Keeps.bind ?_ fun _ => ?_ | split | simp)

@[simp] theorem keeps_resuming {d : M Bool} {ptrType : Bool} {fresh : M End} (hd :
    Keeps l d) (h : Keeps l fresh) : Keeps l (resuming d ptrType fresh) := by
  unfold resuming
  repeat' (first | with_reducible refine Keeps.bind ?_ fun _ => ?_ | split | simp [hd, h])

/-! ## String instructions -/

@[simp] theorem keeps_writeTemp {adr : Word} {words len : Int} {ptr first : Word} :
    Keeps l (writeTemp adr words len ptr first) := by
  unfold writeTemp
  repeat' (first | with_reducible refine Keeps.bind ?_ fun _ => ?_ | split | simp)

@[simp] theorem keeps_loadString {negLen ptrType : Bool} : Keeps l (loadString negLen ptrType) := by
  unfold loadString
  repeat' (first | with_reducible refine Keeps.bind ?_ fun _ => ?_ | split | simp)

@[simp] theorem keeps_assignLengths {o t : StringOperand} : Keeps l (assignLengths o t) := by
  unfold assignLengths
  repeat' (first | with_reducible refine Keeps.bind ?_ fun _ => ?_ | split | simp)

@[simp] theorem keeps_planAssign {negLen fill ptrType tNegLen srcTemp : Bool} :
    Keeps l (planAssign negLen fill ptrType tNegLen srcTemp) := by
  unfold planAssign
  repeat' (first | with_reducible refine Keeps.bind ?_ fun _ => ?_ | split | simp)

@[simp] theorem keeps_assignString {negLen fill ptrType tNegLen srcTemp : Bool} :
    Keeps l (assignString negLen fill ptrType tNegLen srcTemp) := by
  unfold assignString
  repeat' (first | with_reducible refine Keeps.bind ?_ fun _ => ?_ | split | simp)

@[simp] theorem keeps_concatString {negLen ptrType tNegLen srcTemp : Bool} :
    Keeps l (concatString negLen ptrType tNegLen srcTemp) := by
  unfold concatString
  repeat' (first | with_reducible refine Keeps.bind ?_ fun _ => ?_ | split | simp)

/-! ## Linked lists -/

@[simp] theorem keeps_absWord {a : Word} : Keeps l (absWord a) := by
  unfold absWord
  repeat' (first | with_reducible refine Keeps.bind ?_ fun _ => ?_ | split | simp)

@[simp] theorem keeps_setAbsWord {a v : Word} : Keeps l (setAbsWord a v) := by
  unfold setAbsWord
  repeat' (first | with_reducible refine Keeps.bind ?_ fun _ => ?_ | split | simp)

@[simp] theorem keeps_listAddress {base : Word} {off : Int} : Keeps l (listAddress base off) := by
  unfold listAddress
  repeat' (first | with_reducible refine Keeps.bind ?_ fun _ => ?_ | split | simp)

@[simp] theorem keeps_walkList {ccf : BitVec 3} {test off : Int} {n : Nat} : Keeps l (walkList ccf test off n) := by
  induction n with
  | zero => exact keeps_pure
  | succ n ih =>
    unfold walkList
    repeat' (first | with_reducible refine Keeps.bind ?_ fun _ => ?_ | split | simp [ih])

/-! ## Pointer conversion and validation -/

@[simp] theorem keeps_externalCC {p : Word} {k : AccessKind} : Keeps l (externalCC p k) := by
  unfold externalCC
  repeat' (first | with_reducible refine Keeps.bind ?_ fun _ => ?_ | split | simp)

@[simp] theorem keeps_convertEvaluated {p x : Word} : Keeps l (convertEvaluated p x) := by
  unfold convertEvaluated
  repeat' (first | with_reducible refine Keeps.bind ?_ fun _ => ?_ | split | simp)

@[simp] theorem keeps_dstLocation {seg : BitVec 12} : Keeps l (dstLocation seg) := by
  unfold dstLocation
  repeat' (first | with_reducible refine Keeps.bind ?_ fun _ => ?_ | split | simp)

@[simp] theorem keeps_toExternal {p : Word} {b3 : Bool} : Keeps l (toExternal p b3) := by
  unfold toExternal
  repeat' (first | with_reducible refine Keeps.bind ?_ fun _ => ?_ | split | simp)

/-! ## Static-link walk -/

@[simp] theorem keeps_wordAt {a : Int} : Keeps l (wordAt a) := by
  unfold wordAt
  repeat' (first | with_reducible refine Keeps.bind ?_ fun _ => ?_ | split | simp)

@[simp] theorem keeps_requireUnpaged {p : Word} : Keeps l (requireUnpaged p) := by
  unfold requireUnpaged
  repeat' (first | with_reducible refine Keeps.bind ?_ fun _ => ?_ | split | simp)

@[simp] theorem keeps_enterForeign {w : LinkWalk} : Keeps l (enterForeign w) := by
  unfold enterForeign
  repeat' (first | with_reducible refine Keeps.bind ?_ fun _ => ?_ | split | simp)

@[simp] theorem keeps_followLink {w : LinkWalk} : Keeps l (followLink w) := by
  unfold followLink
  repeat' (first | with_reducible refine Keeps.bind ?_ fun _ => ?_ | split | simp)

@[simp] theorem keeps_followLinks {n : Nat} {w : LinkWalk} : Keeps l (followLinks n w) := by
  induction n generalizing w with
  | zero => exact keeps_pure
  | succ n ih =>
    unfold followLinks
    repeat' (first | with_reducible refine Keeps.bind ?_ fun _ => ?_ | split | simp [ih])

@[simp] theorem keeps_externalWith {p : Word} {o : Int} : Keeps l (externalWith p o) := by
  unfold externalWith
  repeat' (first | with_reducible refine Keeps.bind ?_ fun _ => ?_ | split | simp)

@[simp] theorem keeps_loadIntermediate {level : Nat} {disp : Int} : Keeps l (loadIntermediate level disp) := by
  unfold loadIntermediate
  repeat' (first | with_reducible refine Keeps.bind ?_ fun _ => ?_ | split | simp)

/-! ## MPB channel instructions -/

theorem keeps_finishWait (h : l.msg = true) (hr : l.run = true) : Keeps l finishWait := by
  have hm : Keeps l (modify fun s => { s with MSG := setBit s.MSG 12 false, run := .running } : M PUnit) :=
    keeps_modify fun _ => (Frame.of_setBit (k := 12) (by omega) (by omega) h).trans
      { within := fun _ p => { poll := p, run := fun e => by simp [hr] at e } }
  unfold finishWait
  repeat' (first | with_reducible refine Keeps.bind ?_ fun _ => ?_ | split | simp [hm])

/-! ## Range check and bit counting -/

@[simp] theorem keeps_replaceOrPush {pushes : Bool} {v : Word} : Keeps l (replaceOrPush pushes v) := by
  unfold replaceOrPush
  repeat' (first | with_reducible refine Keeps.bind ?_ fun _ => ?_ | split | simp)

/-! ## TRY and ESCAPE -/

@[simp] theorem keeps_trySetUp : Keeps l trySetUp := by
  unfold trySetUp
  repeat' (first | with_reducible refine Keeps.bind ?_ fun _ => ?_ | split | simp)

@[simp] theorem keeps_tryRemove : Keeps l tryRemove := by
  unfold tryRemove
  repeat' (first | with_reducible refine Keeps.bind ?_ fun _ => ?_ | split | simp)

@[simp] theorem keeps_escape {code : Option Word} {nS : Word} : Keeps l (escape code nS) := by
  unfold escape
  repeat' (first | with_reducible refine Keeps.bind ?_ fun _ => ?_ | split | simp)

/-! ## Operating-system support -/

@[simp] theorem keeps_countUse {entry : Word} {up : Bool} : Keeps l (countUse entry up) := by
  unfold countUse
  repeat' (first | with_reducible refine Keeps.bind ?_ fun _ => ?_ | split | refine keeps_owning ?_ | simp)

end Sys2Proof.Machine

namespace Sys2Proof.Machine

variable {l : Licence}

/-- Every next state that x answers is one that the licence allows. -/
def Ends (l : Licence) (x : State → Host.Outcome State Fault Refusal) : Prop := ∀ s t, x s = .next t → Frame l s t

/-- What a wait for a semaphore leaves (R124, R140). -/
theorem Frame.of_waitFor (s : State) (ent : Word) (held : List (Word × Word)) : Frame l s (waitFor s ent held) := by
  have hf (es : List (Word × Word)) (t : State) (ht : Frame l s t) :
      Frame l s (es.foldl (fun u e => { u.withWord e.1 0xFFFFFFFF#32 with owned := e :: u.owned }) t) := by
    induction es generalizing t with
    | nil => exact ht
    | cons e es ih => exact ih _ ((ht.trans (Frame.of_withWord _ _ _)).trans (Frame.of_special rfl))
  unfold waitFor
  refine hf held _ ?_
  split
  · rename_i hh
    exact (Frame.of_busError (holes_ne_nil hh)).trans (Frame.of_special rfl)
  · exact Frame.of_withWord _ _ _

theorem Keeps.conclude {m : M Unit} (h : Keeps l m) {s s1 t : State} (hs : Frame l s s1)
    (e : conclude s m s1 = .next t) : Frame l s t := by
  obtain ho | ⟨ent, held, -, rfl⟩ := conclude_next e
  · exact hs.trans (h.ok ho)
  · exact Frame.of_waitFor _ _ _

theorem Ends.of_body {n : Nat} {d : Bool} {m : M End} (hn : n % 2 = 0) (h : Keeps l m) : Ends l (runBody n d m) := by
  intro s t e
  unfold runBody at e
  split at e
  · rename_i hm
    exact (keeps_finish hn).conclude (h.ok hm) e
  · rename_i hm
    exact keeps_takeTrap.conclude (h.trap hm) e
  · cases e
  · cases e
  · cases e
    exact Frame.of_waitFor _ _ _

theorem Ends.of_run16 {m : M End} (h : Keeps l m) : Ends l (run16 m) := .of_body rfl (keeps_atomic h)

theorem Ends.of_run32 {m : M End} (h : Keeps l m) : Ends l (run32 m) := .of_body rfl (keeps_atomic h)

theorem Ends.of_runKeep16 {m : M End} (h : Keeps l m) : Ends l (runKeep16 m) := .of_body rfl h

@[simp] theorem ends_twosComplementArithmeticOnTheStack :
    (∀ b3, Ends l (execAdd b3)) ∧ (∀ b3, Ends l (execSub b3)) ∧ (∀ b3, Ends l (execMpy b3)) ∧
    (∀ b3, Ends l (execDiv b3)) ∧ (∀ b3, Ends l (execDivs b3)) ∧ Ends l execNeg ∧ (∀ b3, Ends l (execCmp b3)) := by
  refine ⟨?_, ?_, ?_, ?_, ?_, ?_, ?_⟩
  all_goals intros
  all_goals refine Ends.of_run16 ?_
  all_goals repeat' (first | with_reducible refine Keeps.bind ?_ fun _ => ?_ | split | simp)

@[simp] theorem ends_logical :
    (∀ b3, Ends l (execLadd b3)) ∧ (∀ b3, Ends l (execLsub b3)) ∧ Ends l execLmpy ∧ (∀ b3, Ends l (execLcmp b3)) := by
  refine ⟨?_, ?_, ?_, ?_⟩
  all_goals intros
  all_goals refine Ends.of_run16 ?_
  all_goals repeat' (first | with_reducible refine Keeps.bind ?_ fun _ => ?_ | split | simp)

@[simp] theorem ends_immediateArithmetic :
    (∀ n, Ends l (execAddi n)) ∧ (∀ n, Ends l (execSubi n)) ∧ (∀ n, Ends l (execMpyi n)) ∧
    (∀ n, Ends l (execDivi n)) ∧ (∀ n, Ends l (execCmpi n)) ∧ (∀ n, Ends l (execCmpn n)) := by
  refine ⟨?_, ?_, ?_, ?_, ?_, ?_⟩
  all_goals intros
  all_goals refine Ends.of_run16 ?_
  all_goals repeat' (first | with_reducible refine Keeps.bind ?_ fun _ => ?_ | split | simp)

@[simp] theorem ends_indexRegisterArithmetic :
    (∀ b3, Ends l (execAdax b3)) ∧ Ends l execAdxa ∧ (∀ n, Ends l (execAdxi n)) ∧ (∀ n, Ends l (execSbxi n)) := by
  refine ⟨?_, ?_, ?_, ?_⟩
  all_goals intros
  all_goals refine Ends.of_run16 ?_
  all_goals repeat' (first | with_reducible refine Keeps.bind ?_ fun _ => ?_ | split | simp)

@[simp] theorem ends_memoryOperandArithmetic :
    (∀ ind x base off, Ends l (execCmpm ind x base off)) ∧ (∀ ind x base off, Ends l (execIncm ind x base off)) ∧
    (∀ ind x base off, Ends l (execDecm ind x base off)) ∧ (∀ ind x base off, Ends l (execIncf ind x base off)) ∧
    (∀ ind x base off, Ends l (execDecf ind x base off)) := by
  refine ⟨?_, ?_, ?_, ?_, ?_⟩
  all_goals intros
  all_goals refine Ends.of_run32 ?_
  all_goals repeat' (first | with_reducible refine Keeps.bind ?_ fun _ => ?_ | split | simp)

@[simp] theorem ends_sizeCheckAndBitwiseLogic :
    Ends l execIsc ∧ Ends l execAnd ∧ Ends l execOr ∧ Ends l execXor ∧ Ends l execNot ∧ (∀ n, Ends l (execAndi n)) ∧
    (∀ n, Ends l (execOri n)) ∧ (∀ n, Ends l (execXori n)) := by
  refine ⟨?_, ?_, ?_, ?_, ?_, ?_, ?_, ?_⟩
  all_goals intros
  all_goals refine Ends.of_run16 ?_
  all_goals repeat' (first | with_reducible refine Keeps.bind ?_ fun _ => ?_ | split | simp)

@[simp] theorem ends_branches_run16 :
    (∀ b3, Ends l (execBrsi b3)) ∧ (∀ ind ccf sign off, Ends l (execBccs ind ccf sign off)) ∧
    (∀ ind sign off, Ends l (execBcy ind sign off)) ∧ (∀ ind sign off, Ends l (execBnc ind sign off)) ∧
    (∀ ind sign off, Ends l (execBov ind sign off)) ∧ (∀ ind sign off, Ends l (execBno ind sign off)) ∧
    (∀ ind sign off, Ends l (execBrz ind sign off)) ∧ (∀ ind sign off, Ends l (execBre ind sign off)) ∧
    (∀ ind sign off, Ends l (execBro ind sign off)) ∧ (∀ ind sign off, Ends l (execCrb ind sign off)) ∧
    (∀ ind sign off, Ends l (execBir ind sign off)) ∧ (∀ ind sign off, Ends l (execBun ind sign off)) := by
  refine ⟨?_, ?_, ?_, ?_, ?_, ?_, ?_, ?_, ?_, ?_, ?_, ?_⟩
  all_goals intros
  all_goals refine Ends.of_run16 ?_
  all_goals repeat' (first | with_reducible refine Keeps.bind ?_ fun _ => ?_ | split | simp)

@[simp] theorem ends_branches_run32 :
    (∀ ind x base off, Ends l (execBr ind x base off)) ∧ (∀ ind ccf sign off, Ends l (execBcc ind ccf sign off)) := by
  refine ⟨?_, ?_⟩
  all_goals intros
  all_goals refine Ends.of_run32 ?_
  all_goals repeat' (first | with_reducible refine Keeps.bind ?_ fun _ => ?_ | split | simp)

@[simp] theorem ends_nopStopWait :
    Ends l execNop := by
  refine Ends.of_run16 ?_
  repeat' (first | with_reducible refine Keeps.bind ?_ fun _ => ?_ | split | simp)

@[simp] theorem ends_procedureCallAndExit_run16 :
    (∀ n, Ends l (execPcls n)) ∧ (∀ n, Ends l (execExit n)) ∧ (∀ n, Ends l (execSxit n)) := by
  refine ⟨?_, ?_, ?_⟩
  all_goals intros
  all_goals refine Ends.of_run16 ?_
  all_goals repeat' (first | with_reducible refine Keeps.bind ?_ fun _ => ?_ | split | simp)

@[simp] theorem ends_procedureCallAndExit_run32 :
    (∀ off, Ends l (execPcl off)) := by
  intros
  refine Ends.of_run32 ?_
  repeat' (first | with_reducible refine Keeps.bind ?_ fun _ => ?_ | split | simp)

@[simp] theorem ends_dispatcherAndInterruptExit :
    Ends l execPsdb := by
  refine Ends.of_run16 ?_
  repeat' (first | with_reducible refine Keeps.bind ?_ fun _ => ?_ | split | simp)

@[simp] theorem ends_debuggingAids :
    (∀ n, Ends l (execSol n)) ∧ (∀ n, Ends l (execSolc n)) ∧ (∀ n, Ends l (execSop n)) ∧ Ends l execEop ∧
    (∀ n, Ends l (execSos n)) ∧ Ends l execEos := by
  refine ⟨?_, ?_, ?_, ?_, ?_, ?_⟩
  all_goals intros
  all_goals intro s
  all_goals refine Ends.of_run16 ?_ s
  all_goals repeat' (first | with_reducible refine Keeps.bind ?_ fun _ => ?_ | split | simp)

@[simp] theorem ends_deleteDuplicateExchange_run16 :
    Ends l execDel ∧ Ends l execDdel ∧ Ends l execDelb ∧ Ends l execDdup ∧ Ends l execXch ∧ Ends l execDxch ∧
    Ends l execXax ∧ Ends l execCab := by
  refine ⟨?_, ?_, ?_, ?_, ?_, ?_, ?_, ?_⟩
  all_goals refine Ends.of_run16 ?_
  all_goals repeat' (first | with_reducible refine Keeps.bind ?_ fun _ => ?_ | split | simp)

@[simp] theorem ends_deleteDuplicateExchange_runBody :
    Ends l execDup := by
  refine Ends.of_body rfl (keeps_atomic ?_)
  repeat' (first | with_reducible refine Keeps.bind ?_ fun _ => ?_ | split | simp)

@[simp] theorem ends_indexRegisterLoads_run16 :
    (∀ n, Ends l (execLdxi n)) ∧ (∀ n, Ends l (execLdxn n)) := by
  refine ⟨?_, ?_⟩
  all_goals intros
  all_goals refine Ends.of_run16 ?_
  all_goals repeat' (first | with_reducible refine Keeps.bind ?_ fun _ => ?_ | split | simp)

@[simp] theorem ends_indexRegisterLoads_run32 :
    (∀ ind x base off, Ends l (execLdx ind x base off)) := by
  intros
  refine Ends.of_run32 ?_
  repeat' (first | with_reducible refine Keeps.bind ?_ fun _ => ?_ | split | simp)

@[simp] theorem ends_tests :
    (∀ b3, Ends l (execTest b3)) ∧ (∀ b3, Ends l (execTstb b3)) ∧ (∀ b3, Ends l (execTstd b3)) := by
  refine ⟨?_, ?_, ?_⟩
  all_goals intros
  all_goals refine Ends.of_run16 ?_
  all_goals repeat' (first | with_reducible refine Keeps.bind ?_ fun _ => ?_ | split | simp)

@[simp] theorem ends_movingS :
    (∀ n, Ends l (execAdds n)) ∧ (∀ b3, Ends l (execPshn b3)) ∧ (∀ n, Ends l (execSubs n)) := by
  refine ⟨?_, ?_, ?_⟩
  all_goals intros
  all_goals refine Ends.of_run16 ?_
  all_goals repeat' (first | with_reducible refine Keeps.bind ?_ fun _ => ?_ | split | simp)

@[simp] theorem ends_registerPushAndSet :
    (∀ block sel, Ends l (execPshr block sel)) ∧ Ends l execXgds := by
  refine ⟨?_, ?_⟩
  all_goals intros
  all_goals refine Ends.of_run16 ?_
  all_goals repeat' (first
    | with_reducible refine Keeps.bind ?_ fun _ => ?_
    | with_reducible refine keeps_DstHead_during ?_
    | split
    | simp)

@[simp] theorem ends_shifts :
    (∀ x cnt, Ends l (execAsl x cnt)) ∧ (∀ x cnt, Ends l (execAsr x cnt)) ∧ (∀ x cnt, Ends l (execLsl x cnt)) ∧
    (∀ x cnt, Ends l (execLsr x cnt)) ∧ (∀ x cnt, Ends l (execCsl x cnt)) ∧ (∀ x cnt, Ends l (execCsr x cnt)) ∧
    (∀ x cnt, Ends l (execLsxl x cnt)) := by
  refine ⟨?_, ?_, ?_, ?_, ?_, ?_, ?_⟩
  all_goals intros
  all_goals intro s
  all_goals refine Ends.of_run16 ?_ s
  all_goals repeat' (first | with_reducible refine Keeps.bind ?_ fun _ => ?_ | split | simp)

@[simp] theorem ends_fieldExtractAndDeposit :
    (∀ e x k j, Ends l (execExf e x k j)) ∧ (∀ x k j, Ends l (execDpf x k j)) := by
  refine ⟨?_, ?_⟩
  all_goals intros
  all_goals refine Ends.of_run32 ?_
  all_goals repeat' (first | with_reducible refine Keeps.bind ?_ fun _ => ?_ | split | simp)

@[simp] theorem ends_doublePrecision :
    Ends l execFadd ∧ Ends l execFsub ∧ Ends l execFmpy ∧ Ends l execFdiv ∧ Ends l execFneg ∧
    (∀ b3, Ends l (execFcmp b3)) ∧ (∀ b3, Ends l (execFtst b3)) := by
  refine ⟨?_, ?_, ?_, ?_, ?_, ?_, ?_⟩
  all_goals intros
  all_goals refine Ends.of_run16 ?_
  all_goals repeat' (first
    | with_reducible refine Keeps.bind ?_ fun _ => ?_
    | with_reducible refine keeps_withOperand fun _ => ?_
    | with_reducible refine keeps_withOperands fun _ _ => ?_
    | split
    | simp)

@[simp] theorem ends_singlePrecisionAndConversions :
    Ends l execFads ∧ Ends l execFsbs ∧ Ends l execFmps ∧ Ends l execFdvs ∧ Ends l execFngs ∧
    (∀ b3, Ends l (execFcps b3)) ∧ (∀ b3, Ends l (execFtss b3)) ∧ Ends l execFlts ∧ Ends l execFltd ∧
    (∀ b3, Ends l (execFixs b3)) ∧ (∀ b3, Ends l (execFixd b3)) ∧ Ends l execCsdf ∧ Ends l execCdsf ∧
    (∀ src mode, Ends l (execSrm src mode)) := by
  refine ⟨?_, ?_, ?_, ?_, ?_, ?_, ?_, ?_, ?_, ?_, ?_, ?_, ?_, ?_⟩
  all_goals intros
  all_goals refine Ends.of_run16 ?_
  all_goals repeat' (first
    | with_reducible refine Keeps.bind ?_ fun _ => ?_
    | with_reducible refine keeps_withOperand fun _ => ?_
    | with_reducible refine keeps_withOperands fun _ _ => ?_
    | split
    | simp)

@[simp] theorem ends_decimal :
    (∀ b3, Ends l (execDlad b3)) ∧ (∀ b3, Ends l (execDlsb b3)) ∧ (∀ b3, Ends l (execDtb b3)) ∧
    (∀ b3, Ends l (execBtd b3)) ∧ Ends l execPot := by
  refine ⟨?_, ?_, ?_, ?_, ?_⟩
  all_goals intros
  all_goals refine Ends.of_run16 ?_
  all_goals repeat' (first | with_reducible refine Keeps.bind ?_ fun _ => ?_ | split | simp)

@[simp] theorem ends_intAndPmpb :
    (∀ b3, Ends l (execInt b3)) ∧ (∀ sel, Ends l (execPmpb sel)) := by
  refine ⟨?_, ?_⟩
  all_goals intros
  all_goals refine Ends.of_run16 ?_
  all_goals repeat' (first | with_reducible refine Keeps.bind ?_ fun _ => ?_ | split | simp)

@[simp] theorem ends_loads_run16 :
    (∀ ind x base off, Ends l (execLds ind x base off)) ∧ (∀ b3, Ends l (execLsi b3)) ∧ (∀ b3, Ends l (execLbsi b3)) ∧
    (∀ ind x base off, Ends l (execLdds ind x base off)) ∧ (∀ b3, Ends l (execLdsi b3)) ∧
    (∀ b3, Ends l (execLhsi b3)) ∧ (∀ b3, Ends l (execLbit b3)) ∧ Ends l execLdxa ∧ Ends l execZero ∧
    Ends l execDzro ∧ (∀ n, Ends l (execLdis n)) ∧ (∀ n, Ends l (execLnis n)) ∧
    (∀ ind x base off, Ends l (execLras ind x base off)) ∧ (∀ n, Ends l (execLpps n)) := by
  refine ⟨?_, ?_, ?_, ?_, ?_, ?_, ?_, ?_, ?_, ?_, ?_, ?_, ?_, ?_⟩
  all_goals intros
  all_goals refine Ends.of_run16 ?_
  all_goals repeat' (first | with_reducible refine Keeps.bind ?_ fun _ => ?_ | split | simp)

@[simp] theorem ends_absoluteLoads :
    (∀ b3, Ends l (execPlda b3)) ∧ (∀ b3, Ends l (execPlba b3)) ∧ (∀ b3, Ends l (execPlha b3)) := by
  refine ⟨?_, ?_, ?_⟩
  all_goals intros
  all_goals refine Ends.of_run16 ?_
  all_goals repeat' (first | with_reducible refine Keeps.bind ?_ fun _ => ?_ | split | simp)

@[simp] theorem ends_loads_run32 :
    (∀ ind x base off, Ends l (execLd ind x base off)) ∧ (∀ ind x base off, Ends l (execLdb ind x base off)) ∧
    (∀ ind x base off, Ends l (execLdd ind x base off)) ∧ (∀ ind x base off, Ends l (execLdh ind x base off)) ∧
    (∀ imm, Ends l (execLdi imm)) ∧ (∀ imm, Ends l (execLni imm)) ∧
    (∀ ind x base off, Ends l (execLra ind x base off)) ∧ (∀ off, Ends l (execLpp off)) := by
  refine ⟨?_, ?_, ?_, ?_, ?_, ?_, ?_, ?_⟩
  all_goals intros
  all_goals refine Ends.of_run32 ?_
  all_goals repeat' (first | with_reducible refine Keeps.bind ?_ fun _ => ?_ | split | simp)

@[simp] theorem ends_stores_run16 :
    (∀ ind x base off, Ends l (execSts ind x base off)) ∧ (∀ b3, Ends l (execSsi b3)) ∧ (∀ b3, Ends l (execSbsi b3)) ∧
    (∀ b3, Ends l (execSdsi b3)) ∧ (∀ b3, Ends l (execShsi b3)) ∧ (∀ b3, Ends l (execSbit b3)) ∧
    (∀ b3, Ends l (execStax b3)) ∧ (∀ b3, Ends l (execPsta b3)) ∧ (∀ b3, Ends l (execPsba b3)) ∧
    (∀ b3, Ends l (execPsha b3)) := by
  refine ⟨?_, ?_, ?_, ?_, ?_, ?_, ?_, ?_, ?_, ?_⟩
  all_goals intros
  all_goals refine Ends.of_run16 ?_
  all_goals repeat' (first | with_reducible refine Keeps.bind ?_ fun _ => ?_ | split | simp)

@[simp] theorem ends_stores_run32 :
    (∀ ind x base off, Ends l (execSt ind x base off)) ∧ (∀ ind x base off, Ends l (execStb ind x base off)) ∧
    (∀ ind x base off, Ends l (execStd ind x base off)) ∧ (∀ ind x base off, Ends l (execSth ind x base off)) := by
  refine ⟨?_, ?_, ?_, ?_⟩
  all_goals intros
  all_goals refine Ends.of_run32 ?_
  all_goals repeat' (first | with_reducible refine Keeps.bind ?_ fun _ => ?_ | split | simp)

@[simp] theorem ends_moveAndScanInstructions :
    (∀ d ptrType sdec, Ends l (execMvb d ptrType sdec)) ∧ (∀ d sdec, Ends l (execPmva d sdec)) ∧
    (∀ d ptrType sdec, Ends l (execScw d ptrType sdec)) ∧ (∀ d ptrType sdec, Ends l (execScu d ptrType sdec)) ∧
    (∀ d ptrType sdec, Ends l (execCmpb d ptrType sdec)) ∧ (∀ d ptrType sdec, Ends l (execTran d ptrType sdec)) ∧
    (∀ sdec, Ends l (execFilb sdec)) := by
  refine ⟨?_, ?_, ?_, ?_, ?_, ?_, ?_⟩
  all_goals intros
  all_goals refine Ends.of_runKeep16 ?_
  all_goals repeat' (first
    | with_reducible refine Keeps.bind ?_ fun _ => ?_
    | with_reducible refine keeps_afterLoop fun _ => ?_
    | split
    | simp)

@[simp] theorem ends_stringInstructions :
    (∀ negLen retLen ptrType, Ends l (execSval negLen retLen ptrType)) ∧
    (∀ negLen ptrType, Ends l (execSld negLen ptrType)) ∧
    (∀ negLen fill ptrType tNegLen srcTemp, Ends l (execSas negLen fill ptrType tNegLen srcTemp)) ∧
    (∀ negLen ptrType tNegLen srcTemp, Ends l (execScon negLen ptrType tNegLen srcTemp)) := by
  refine ⟨?_, ?_, ?_, ?_⟩
  all_goals intros
  all_goals refine Ends.of_runKeep16 ?_
  all_goals repeat' (first | with_reducible refine Keeps.bind ?_ fun _ => ?_ | split | simp)

@[simp] theorem ends_linkedLists :
    (∀ ccf, Ends l (execLlsh ccf)) ∧ Ends l execLins ∧ Ends l execLdel := by
  refine ⟨?_, ?_, ?_⟩
  all_goals intros
  all_goals refine Ends.of_run16 ?_
  all_goals repeat' (first | with_reducible refine Keeps.bind ?_ fun _ => ?_ | split | simp)

@[simp] theorem ends_controlStoreAndSemaphores_run16 :
    Ends l execRcs ∧ (∀ b3, Ends l (execPsla b3)) := by
  refine ⟨?_, ?_⟩
  all_goals intros
  all_goals refine Ends.of_run16 ?_
  all_goals repeat' (first | with_reducible refine Keeps.bind ?_ fun _ => ?_ | split | simp)

@[simp] theorem ends_controlStoreAndSemaphores_run32 :
    (∀ ind x base off, Ends l (execSeml ind x base off)) := by
  intros
  refine Ends.of_run32 ?_
  repeat' (first | with_reducible refine Keeps.bind ?_ fun _ => ?_ | split | simp)

@[simp] theorem ends_pointerConversionAndValidation :
    (∀ b3, Ends l (execCpaa b3)) ∧ (∀ b3, Ends l (execVptr b3)) ∧ (∀ b3, Ends l (execCpep b3)) ∧
    (∀ b3, Ends l (execCptr b3)) := by
  refine ⟨?_, ?_, ?_, ?_⟩
  all_goals intros
  all_goals refine Ends.of_run16 ?_
  all_goals repeat' (first | with_reducible refine Keeps.bind ?_ fun _ => ?_ | split | simp)

@[simp] theorem ends_conditionCodeToData :
    Ends l execCci ∧ (∀ ccf, Ends l (execTcc ccf)) := by
  refine ⟨?_, ?_⟩
  all_goals intros
  all_goals refine Ends.of_run16 ?_
  all_goals repeat' (first | with_reducible refine Keeps.bind ?_ fun _ => ?_ | split | simp)

@[simp] theorem ends_staticlinkWalk_run16 :
    (∀ level off, Ends l (execLias level off)) := by
  intros
  refine Ends.of_run16 ?_
  repeat' (first | with_reducible refine Keeps.bind ?_ fun _ => ?_ | split | simp)

@[simp] theorem ends_staticlinkWalk_run32 :
    (∀ level sign off, Ends l (execLia level sign off)) := by
  intros
  refine Ends.of_run32 ?_
  repeat' (first | with_reducible refine Keeps.bind ?_ fun _ => ?_ | split | simp)

@[simp] theorem ends_mpbChannelInstructions :
    Ends l execRsc := by
  refine Ends.of_run16 ?_
  repeat' (first | with_reducible refine Keeps.bind ?_ fun _ => ?_ | split | simp)

@[simp] theorem ends_rangeCheckAndBitCounting_run16 :
    (∀ b3, Ends l (execCnto b3)) ∧ (∀ b3, Ends l (execFlmo b3)) := by
  refine ⟨?_, ?_⟩
  all_goals intros
  all_goals refine Ends.of_run16 ?_
  all_goals repeat' (first | with_reducible refine Keeps.bind ?_ fun _ => ?_ | split | simp)

@[simp] theorem ends_rangeCheckAndBitCounting_run32 :
    (∀ lo hi, Ends l (execChek lo hi)) := by
  intros
  refine Ends.of_run32 ?_
  repeat' (first | with_reducible refine Keeps.bind ?_ fun _ => ?_ | split | simp)

@[simp] theorem ends_tryAndEscape :
    (∀ b3, Ends l (execTryMark b3)) ∧ (∀ b3, Ends l (execEscp b3)) := by
  refine ⟨?_, ?_⟩
  all_goals intros
  all_goals refine Ends.of_run16 ?_
  all_goals repeat' (first | with_reducible refine Keeps.bind ?_ fun _ => ?_ | split | simp)

@[simp] theorem ends_operatingsystemSupport :
    (∀ b3, Ends l (execMuc b3)) := by
  intros
  refine Ends.of_run16 ?_
  repeat' (first | with_reducible refine Keeps.bind ?_ fun _ => ?_ | split | simp)

end Sys2Proof.Machine

namespace Sys2Proof.Machine

variable {l : Licence}

/-! ## The instructions that a licence names -/

theorem ends_wait {b : Bool} (h : l.debugPad = true) : Ends l (execWait b) := by
  have hm : Keeps l (modify fun s => { s with debugPad5 := b } : M PUnit) :=
    keeps_modify fun _ => { within := fun _ p => { poll := p, debugPad := fun e => by simp [h] at e } }
  refine Ends.of_runKeep16 ?_
  repeat' (first | with_reducible refine Keeps.bind ?_ fun _ => ?_ | split | simp [hm])

theorem ends_alm {b : Bool} (h : l.lockout = true) : Ends l (execAlm b) := by
  have hm : Keeps l (modify fun s => { s with lockout := b } : M PUnit) :=
    keeps_modify fun _ => { within := fun _ p => { poll := p, lockout := fun e => by simp [h] at e } }
  refine Ends.of_run16 ?_
  repeat' (first | with_reducible refine Keeps.bind ?_ fun _ => ?_ | simp [hm])

/-- A new DST, where the licence allows one. -/
theorem keeps_modify_DST {f : State → Word} (h : l.dst = true) :
    Keeps l (modify fun s => { s with DST := f s } : M PUnit) :=
  keeps_modify fun _ => { within := fun _ p => { poll := p, dst := fun e => by simp [h] at e } }

theorem ends_gtsp (h : l.dst = true) : Ends l execGtsp := by
  refine Ends.of_run16 ?_
  repeat' (first | with_reducible refine Keeps.bind ?_ fun _ => ?_ | simp [keeps_modify_DST h])

/-- New BRKPT and FLAGS, where the licence allows them. -/
theorem keeps_modify_breakpoint {f : State → Word} {g : State → Byte} (h : l.breakpoint = true) :
    Keeps l (modify fun s => { s with BRKPT := f s, FLAGS := g s } : M PUnit) :=
  keeps_modify fun _ => { within := fun _ p => { poll := p, breakpoint := fun e => by simp [h] at e } }

theorem ends_setr {sel : BitVec 6} (h : l.breakpoint = true) (hd : l.dst = true) : Ends l (execSetr sel) := by
  have hf {f : State → Byte} : Keeps l (modify fun s => { s with FLAGS := f s } : M PUnit) := keeps_modify_breakpoint h
  have hb {v : Word} : Keeps l (modify fun s => { s with BRKPT := v } : M PUnit) := keeps_modify_breakpoint h
  have hm {v : Word} : Keeps l (modify fun s => { s with DST := v } : M PUnit) := keeps_modify_DST hd
  refine Ends.of_runKeep16 ?_
  repeat' (first | with_reducible refine Keeps.bind ?_ fun _ => ?_ | split | simp [hf, hb, hm])

theorem ends_smpb {sel : BitVec 3} (h : l.msg = true) (hk : l.mask = true) : Ends l (execSmpb sel) := by
  have hm {v : Word} : Keeps l (modify fun s => { s with MSG := s.MSG &&& ~~~ v } : M PUnit) :=
    keeps_modify fun s => Frame.of_MSG field_andNot_reserved (fun e => by simp [hk] at e) (fun e => by simp [h] at e)
  have hf {f : State → Word} : Keeps l (modify fun s => { s with MASK := f s } : M PUnit) :=
    keeps_modify fun s => Frame.of_MASK hk
  refine Ends.of_run16 ?_
  repeat' (first | with_reducible refine Keeps.bind ?_ fun _ => ?_ | split | simp [hm, hf])

theorem ends_iow {n : BitVec 8} (h : l.msg = true) : Ends l (execIow n) ∧ Ends l (execIoc n) := by
  refine ⟨?_, ?_⟩
  all_goals refine Ends.of_runKeep16 ?_
  all_goals repeat' (first
    | with_reducible refine Keeps.bind ?_ fun _ => ?_
    | simp [keeps_mpbRequest h, keeps_raiseMpbError h])

theorem ends_smsg {b : Bool} (h : l.msg = true) : Ends l (execSmsg b) ∧ Ends l (execRfc b) := by
  refine ⟨?_, ?_⟩
  all_goals refine Ends.of_runKeep16 ?_
  all_goals repeat' (first
    | with_reducible refine Keeps.bind ?_ fun _ => ?_
    | split
    | simp [keeps_mpbRequest h, keeps_noteMpbErrors h, keeps_raiseMpbError h])

theorem ends_ior {n : BitVec 8} (h : l.msg = true) (hs : l.secondary = true) : Ends l (execIor n) := by
  have hm : Keeps l (modify fun s => { s with secondary := false } : M PUnit) :=
    keeps_modify fun _ => { within := fun _ p => { poll := p, secondary := fun e => by simp [hs] at e } }
  refine Ends.of_runKeep16 ?_
  repeat' (first
    | with_reducible refine Keeps.bind ?_ fun _ => ?_
    | split
    | simp [hm, keeps_mpbRequest h, keeps_raiseMpbError h])

theorem ends_wtc {b : Bool} (h : l.msg = true) (hr : l.run = true) : Ends l (execWtc b) := by
  have hm : Keeps l (modify fun s => { s with run := .channelWait } : M PUnit) :=
    keeps_modify fun _ => { within := fun _ p => { poll := p, run := fun e => by simp [hr] at e } }
  refine Ends.of_runKeep16 ?_
  repeat' (first
    | with_reducible refine Keeps.bind ?_ fun _ => ?_
    | split
    | simp [hm, keeps_mpbRequest h, keeps_noteMpbErrors h, keeps_finishWait h hr])

theorem ends_disp (h : l.dispatch = true) : Ends l execDisp ∧ Ends l execPseb := by
  have hs {nested : Bool} : Keeps l (startDispatcher nested) := keeps_startDispatcher h
  refine ⟨?_, ?_⟩
  all_goals refine Ends.of_run16 ?_
  all_goals repeat' (first
    | with_reducible refine Keeps.bind ?_ fun _ => ?_
    | with_reducible refine keeps_undoing ?_
    | split
    | simp [hs, keeps_dispatch h])

theorem ends_ixit (hd : l.dispatch = true) (hi : l.leaveIcs = true) (hk : l.mask = true) (ht : l.dst = true) :
    Ends l execIxit := by
  have hs {nested : Bool} : Keeps l (startDispatcher nested) := keeps_startDispatcher hd
  have hf {v : Word} : Keeps l (modify fun s => { s with MASK := v } : M PUnit) :=
    keeps_modify fun s => Frame.of_MASK hk
  have hp : Keeps l (modify fun s => { s with dispFlag := false } : M PUnit) := keeps_modify fun s => Frame.of_dispFlag
  refine Ends.of_run16 ?_
  repeat' (first
    | with_reducible refine Keeps.bind ?_ fun _ => ?_
    | with_reducible refine keeps_undoing ?_
    | split
    | simp [hs, hf, hp, keeps_returnToProcess ht hi, keeps_returnWithinIcs hd])

theorem ends_stop {b : Bool} (hr : l.run = true) (hk : l.mask = true) : Ends l (execStop b) := by
  have hm : Keeps l (modify fun s => { s with run := .halted } : M PUnit) :=
    keeps_modify fun _ => { within := fun _ p => { poll := p, run := fun e => by simp [hr] at e } }
  have hz {m : Word} {r : RunState} :
      Keeps l (modify fun s => { s with STATUS := setBit s.STATUS 13 true, MASK := m, run := r } : M PUnit) :=
    keeps_modify fun _ =>
      { within := fun _ p => { poll := p, run := fun e => by simp [hr] at e, mask := fun e => by simp [hk] at e,
                               msg := fun _ e => by simp [hk] at e } }
  refine Ends.of_run16 ?_
  repeat' (first | with_reducible refine Keeps.bind ?_ fun _ => ?_ | split | simp [hm, hz])

/-! ## STOP and MSG -/

/-- A computation whose traps leave what a licence allows, and whose answers are as R says. -/
structure KeepsUntil {α : Type} (l : Licence) (R : State → α → State → Prop) (m : M α) : Prop where
  ok : ∀ {s a t}, m s = .ok (a, t) → R s a t
  trap : ∀ {s tr p t}, m s = .error (.trap tr p t) → Frame l s t

theorem KeepsUntil.bind {α β : Type} {R : State → β → State → Prop} {m : M α} {f : α → M β}
    (hR : ∀ {s t a u}, Frame l s t → R t a u → R s a u) (hm : Keeps l m) (hf : ∀ a, KeepsUntil l R (f a)) :
    KeepsUntil l R (m >>= f) where
  ok h := by
    obtain ⟨a, t, h1, h2⟩ := M.bind_eq_ok h
    exact hR (hm.ok h1) ((hf a).ok h2)
  trap {s _ _ _} h := by
    cases h1 : m s with
    | error e =>
      rw [M.bind_error h1] at h
      cases h
      exact hm.trap h1
    | ok p =>
      rw [M.bind_ok (a := p.1) (t := p.2) h1] at h
      exact (hm.ok h1).trans ((hf p.1).trap h)

/-- The instruction has not ended, and where MSG was undisturbed it is as it was. -/
def StaysWithMSG (s : State) (e : End) (t : State) : Prop :=
  e.stay = true ∧ (s.poll = none → s.undisturbed → t.MSG = s.MSG)

theorem StaysWithMSG.of_frame {s t u : State} {e : End} (h : Frame {} s t) (k : StaysWithMSG t e u) :
    StaysWithMSG s e u := by
  refine ⟨k.1, fun p z => ?_⟩
  have w := h.within rfl p
  obtain ⟨hg, hk⟩ := w.msg rfl rfl z
  exact (k.2 w.poll (State.undisturbed_congr hg hk h.cfg z)).trans hg

/-- The last change that STOP makes: MASK, the run state and STATUS, but not MSG. -/
theorem keepsUntil_stay {g : State → State} (h : ∀ s, (g s).MSG = s.MSG) :
    KeepsUntil {} StaysWithMSG (do modify g; pure { stay := true } : M End) where
  ok e := by cases e; exact ⟨rfl, fun _ _ => h _⟩
  trap e := by cases e

/-- An instruction that has not ended, its traps being within no licence, leaves MSG undisturbed. -/
theorem KeepsUntil.run16_MSG {m : M End} (h : KeepsUntil {} StaysWithMSG m) {s t : State} (hp : s.poll = none)
    (hu : s.undisturbed) (e : run16 m s = .next t) : t.MSG = s.MSG := by
  have hf {u : State} (k : Frame {} s u) : u.MSG = s.MSG := ((k.within rfl hp).msg rfl rfl hu).1
  cases hm : m s with
  | ok p =>
    obtain ⟨hs, hg⟩ := h.ok (a := p.1) (t := p.2) hm
    rw [run16_ok (e := p.1) (t := p.2) hm, conclude_ok (u := { p.2 with prevDup := false }) (by simp [finish, hs])] at e
    cases e
    exact hg hp hu
  | error x =>
    cases x with
    | trap tr p u =>
      have k : Frame {} s t :=
        keeps_takeTrap.conclude (h.trap hm).unwound ((runBody_trap (atomic_trap hm)).symm.trans e)
      exact hf k
    | refuse r => simp [run16, runBody, atomic, hm] at e
    | stuck f => simp [run16, runBody, atomic, hm] at e
    | spin ent held =>
      simp only [run16, runBody, atomic, hm] at e
      cases e
      exact hf (Frame.of_waitFor _ _ _)

/-- STOP sleeps or halts before any test at the end of an instruction, so it leaves MSG alone. -/
theorem execStop_MSG {b : Bool} {s t : State} (hp : s.poll = none) (hu : s.undisturbed) (h : execStop b s = .next t) :
    t.MSG = s.MSG := by
  refine KeepsUntil.run16_MSG ?_ hp hu h
  repeat' (first
    | exact keepsUntil_stay fun _ => rfl
    | with_reducible refine KeepsUntil.bind StaysWithMSG.of_frame ?_ fun _ => ?_
    | split
    | simp)

/-! ## Every instruction -/

/-- What each instruction may change of the special registers (R45 to R54). -/
def licenceOf : Instr → Licence
  | .setr _ => { breakpoint := true, dst := true }
  | .alm _ => { lockout := true }
  | .wait _ => { debugPad := true }
  | .ior _ => { msg := true, secondary := true }
  | .iow _ | .ioc _ | .rfc _ | .smsg _ => { msg := true }
  | .wtc _ => { msg := true, run := true }
  | .smpb _ => { msg := true, mask := true }
  | .stop _ => { run := true, mask := true }
  | .gtsp => { dst := true }
  | .disp | .pseb => { dispatch := true }
  | .ixit => { dispatch := true, leaveIcs := true, mask := true, msg := true, dst := true }
  | _ => {}

/-- Every next state of an instruction is one that its licence allows. -/
theorem exec_frame (i : Instr) : Ends (licenceOf i) (exec i) := by
  cases i
  case setr => exact ends_setr rfl rfl
  case alm => exact ends_alm rfl
  case wait => exact ends_wait rfl
  case ior => exact ends_ior rfl rfl
  case iow => exact (ends_iow rfl).1
  case ioc => exact (ends_iow rfl).2
  case rfc => exact (ends_smsg rfl).2
  case smsg => exact (ends_smsg rfl).1
  case wtc => exact ends_wtc rfl rfl
  case smpb => exact ends_smpb rfl rfl
  case stop => exact ends_stop rfl rfl
  case gtsp => exact ends_gtsp rfl
  case disp => exact (ends_disp rfl).1
  case pseb => exact (ends_disp rfl).2
  case ixit => exact ends_ixit rfl rfl rfl rfl
  all_goals (unfold exec; simp)

end Sys2Proof.Machine

namespace Sys2Proof.Machine

variable {l : Licence}

/-! ## A step of the machine -/

/-- The licence of a step, in which another agent may move. -/
def anyone : Licence := { agent := true }

theorem Frame.to_anyone {s t : State} (h : Frame l s t) : Frame anyone s t where
  cfg := h.cfg
  mem := h.mem
  even := h.even
  reserved := h.reserved
  within a := by simp [anyone] at a

theorem Frame.of_regained (s : State) : Frame anyone s s.regained := by
  have hf (es : List (Word × Word)) (t : State) (ht : Frame anyone s t) :
      Frame anyone s (es.foldl (fun u e => u.withWord e.1 e.2) t) := by
    induction es generalizing t with
    | nil => exact ht
    | cons e es ih => exact ih _ (ht.trans (Frame.of_withWord _ _ _))
  exact hf _ _ (Frame.of_special rfl)

theorem keeps_fetch : Keeps anyone fetch := by
  have hm {w : Word} : Keeps anyone (modify fun s => { s with CIR := w } : M PUnit) :=
    keeps_modify fun _ => Frame.of_agent rfl
  unfold fetch
  repeat' (first | with_reducible refine Keeps.bind ?_ fun _ => ?_ | split | simp [hm])

theorem ends_unassigned {cir : Word} : Ends anyone (unassigned cir) := by
  intro s t h
  unfold unassigned at h
  split at h
  · cases h
  · refine Ends.of_body ?_ keeps_pure s t h
    unfold cirLength
    split <;> rfl

theorem ends_instructionStep : Ends anyone instructionStep := by
  intro s t h
  unfold instructionStep at h
  split at h
  · rename_i cir u hf
    refine (keeps_fetch.ok hf).trans ?_
    unfold runDecoded at h
    split at h
    · exact (exec_frame _ u t h).to_anyone
    · exact ends_unassigned u t h
    · cases h
    · cases h
  · obtain h1 | ⟨ent, held, -, rfl⟩ := conclude_next h
    · cases h1
    · exact Frame.of_waitFor _ _ _

theorem keeps_wakeUp {mask status : Word} : Keeps anyone (wakeUp mask status) := by
  have hm : Keeps anyone (modify fun s => { s with MASK := mask, STATUS := status, run := .running } : M PUnit) :=
    keeps_modify fun _ => Frame.of_agent rfl
  unfold wakeUp
  repeat' (first | with_reducible refine Keeps.bind ?_ fun _ => ?_ | simp [hm])

theorem ends_sleepStep {mask status : Word} : Ends anyone (sleepStep mask status) := by
  intro s t h
  unfold sleepStep at h
  split at h
  · exact Ends.of_body rfl keeps_wakeUp s t h
  · cases h
    exact Frame.refl s

/-- A WTC that has waited completes, where the move of another agent is allowed as much. -/
theorem keeps_finishWait_anyone : Keeps anyone finishWait := by
  have hm : Keeps anyone (modify fun s => { s with MSG := setBit s.MSG 12 false, run := .running } : M PUnit) :=
    keeps_modify fun _ => Frame.of_agent rfl
      (reserved := fun r => by rwa [setBit, field_setField_apart _ _ _ _ _ _ (by omega) (by omega) (by omega)])
  unfold finishWait
  repeat' (first | with_reducible refine Keeps.bind ?_ fun _ => ?_ | simp [hm])

theorem ends_channelWaitStep : Ends anyone channelWaitStep := by
  intro s t h
  unfold channelWaitStep at h
  split at h
  · exact Ends.of_body rfl keeps_finishWait_anyone s t h
  · cases h
    exact Frame.refl s

theorem ends_cpuStep : Ends anyone cpuStep := by
  intro s t h
  unfold cpuStep at h
  split at h
  · exact (Frame.of_regained s).trans (ends_instructionStep _ t h)
  · cases h
    exact Frame.refl s
  · exact (Frame.of_regained s).trans (ends_sleepStep _ t h)
  · exact (Frame.of_regained s).trans (ends_channelWaitStep _ t h)

theorem keeps_act {a : EnvAction} : Keeps anyone (act a) := by
  unfold act
  split
  · exact keeps_pure
  · exact keeps_deliver rfl
  · exact keeps_modify fun _ => Frame.of_agent rfl

/-- Every step leaves what it must of the state, whoever moves in it. -/
theorem ends_step : Ends anyone step := by
  intro s t h
  have hi {inputs : List EnvAction} : Frame anyone s { s with inputs := inputs } := Frame.of_agent rfl
  unfold step at h
  split at h
  · exact ends_cpuStep s t h
  · exact hi.trans (ends_cpuStep _ t h)
  · exact keeps_act.conclude hi h

/-- Settles O57: the frame of a step. -/
theorem everyStepKeepsTheInvariant : Obligations.EveryStepKeepsTheInvariant := by
  intro s t h hmem heven hmsg
  have f := ends_step s t h
  exact ⟨f.mem hmem, f.even heven, f.reserved hmsg, f.cfg⟩

/-! ## What each instruction is licensed to change -/

theorem licenceOf_agent (i : Instr) : (licenceOf i).agent = false := by
  unfold licenceOf; split <;> rfl

theorem licenceOf_breakpoint {i : Instr} (h : ∀ sel, i ≠ .setr sel) : (licenceOf i).breakpoint = false := by
  unfold licenceOf; split <;> simp_all

theorem licenceOf_lockout {i : Instr} (h : ∀ b, i ≠ .alm b) : (licenceOf i).lockout = false := by
  unfold licenceOf; split <;> simp_all

theorem licenceOf_debugPad {i : Instr} (h : ∀ b, i ≠ .wait b) : (licenceOf i).debugPad = false := by
  unfold licenceOf; split <;> simp_all

theorem licenceOf_secondary {i : Instr} (h : ∀ n, i ≠ .ior n) : (licenceOf i).secondary = false := by
  unfold licenceOf; split <;> simp_all

theorem licenceOf_dst {i : Instr} (h : ∀ sel, i ≠ .setr sel) (hg : i ≠ .gtsp) (hx : i ≠ .ixit) :
    (licenceOf i).dst = false := by
  unfold licenceOf; split <;> simp_all

theorem licenceOf_run {i : Instr} (h : ∀ b, i ≠ .stop b) (hw : ∀ b, i ≠ .wtc b) : (licenceOf i).run = false := by
  unfold licenceOf; split <;> simp_all

theorem licenceOf_mask {i : Instr} (h : ∀ m, i ≠ .smpb m) (hs : ∀ b, i ≠ .stop b) (hx : i ≠ .ixit) :
    (licenceOf i).mask = false := by
  unfold licenceOf; split <;> simp_all

theorem licenceOf_msg {i : Instr} (h : ∀ m, i ≠ .smpb m) (hx : i ≠ .ixit)
    (hn : ∀ n, i ≠ .iow n ∧ i ≠ .ior n ∧ i ≠ .ioc n) (hb : ∀ b, i ≠ .rfc b ∧ i ≠ .wtc b ∧ i ≠ .smsg b) :
    (licenceOf i).msg = false := by
  unfold licenceOf; split <;> simp_all

theorem licenceOf_leaveIcs {i : Instr} (hx : i ≠ .ixit) : (licenceOf i).leaveIcs = false := by
  unfold licenceOf; split <;> simp_all

theorem licenceOf_dispatch {i : Instr} (hd : i ≠ .disp) (hp : i ≠ .pseb) (hx : i ≠ .ixit) :
    (licenceOf i).dispatch = false := by
  unfold licenceOf; split <;> simp_all

/-- MSG changes only where its licence says: STOP, which changes MASK, does not change it. -/
theorem exec_MSG {i : Instr} {s t : State} (hp : s.poll = none) (h : exec i s = .next t) (hu : s.undisturbed)
    (hl : (licenceOf i).msg = false) (w : Within (licenceOf i) s t) (hm : ∀ m, i ≠ .smpb m) (hx : i ≠ .ixit) :
    t.MSG = s.MSG := by
  by_cases hs : ∃ b, i = .stop b
  · obtain ⟨b, rfl⟩ := hs
    exact execStop_MSG hp hu h
  · exact (w.msg hl (licenceOf_mask hm (fun b e => hs ⟨b, e⟩) hx) hu).1

/-- Settles O59: the frame of an instruction, with the registers that its licence names. -/
theorem specialRegistersChangeOnlyWhereNamed : Obligations.SpecialRegistersChangeOnlyWhereNamed := by
  intro i s t hp h
  have w := (exec_frame i s t h).within (licenceOf_agent i) hp
  refine ⟨w.SAR, w.SDR, w.inputs, w.CIR, fun hi => w.breakpoint (licenceOf_breakpoint hi),
    fun hi => w.lockout (licenceOf_lockout hi), fun hi => w.debugPad (licenceOf_debugPad hi),
    fun hi => w.secondary (licenceOf_secondary hi), fun hi hg hx => w.dst (licenceOf_dst hi hg hx),
    fun hi hw => w.run (licenceOf_run hi hw), fun hl hi hs hx => (w.mask (licenceOf_mask hi hs hx) hl).1, ?_,
    fun hf hx => w.icsFlag (licenceOf_leaveIcs hx) hf, fun hf hd he hx => w.dispFlag (licenceOf_dispatch hd he hx) hf⟩
  intro hg hl hh hi hx hn hb
  exact exec_MSG hp h ⟨hl, hg, hh⟩ (licenceOf_msg hi hx hn hb) w hi hx

end Sys2Proof.Machine

/-! The reset state, and the loads and stores at absolute addresses. -/

namespace Sys2Proof.Machine

/-- Settles O58, by evaluation of the reset state. -/
theorem resetState : Obligations.ResetState := by
  refine ⟨reset_memory_wf, ?_, ?_, rfl, ?_, ?_, ?_, ?_, rfl, rfl, rfl, rfl, rfl, rfl, ?_, ?_⟩ <;> decide

/-! ## Absolute addresses -/

/-- The low byte of a word (R7). -/
theorem field_byte (v : Word) : field v 24 8 = v.setWidth 8 := by
  ext i hi; simp [field]

/-- The right halfword of a word (R7). -/
theorem field_half (v : Word) : field v 16 16 = v.setWidth 16 := by
  ext i hi; simp [field]

/-- An absolute address outside the active stack, whose base and sum have 29 bits (R223, U1, U7). -/
theorem absoluteAddress_ok {base : Word} {b : Bool} {s : State} (h : base.toNat < 2 ^ 29)
    (h0 : 0 ≤ (base.toNat : Int) + s.indexOf b) (h1 : (base.toNat : Int) + s.indexOf b < 2 ^ 29)
    (hoff : s.offStack (wordOf (base.toNat + s.indexOf b)) = true) :
    absoluteAddress base b s = .ok (wordOf (base.toNat + s.indexOf b), s) := by
  have hb : absAddress (base.toNat : Int) s = .ok (base, s) := by
    simpa using absAddress_add (a := base) (n := 0) (s := s) h
  unfold absoluteAddress
  rw [M.get_bind, M.bind_ok hb, M.bind_ok (absAddress_ok h0 h1 s),
    M.bind_ok ((checkAbsolute_ok_iff _ _ _ ()).2 ⟨hoff, rfl⟩), M.pure_apply]

/-- The TOS word replaced, with CC = CCA on it, where there is memory. -/
theorem answer_present {v : Word} {s : State} (h : s.hasWord (s.S - BitVec.ofNat 32 (4 * 0)) = true) :
    answer v s = .ok (done, (s.putTop 0 v).setCC (ccWord v)) := by
  unfold answer
  rw [M.bind_ok (poke_present h), putCC_bind, M.pure_apply]

section
variable {s : State} {b : Bool}

/-- What the loads at an absolute address have in common: the TOS word is the base, and its address passes the tests. -/
structure LoadsAt (s : State) (b : Bool) (a : Word) : Prop where
  privileged : s.privileged = true
  stack : s.hasStack 1 0 = true
  address : absoluteAddress (s.top 0) b s = .ok (a, s)

variable {a : Word}

theorem LoadsAt.tos (h : LoadsAt s b a) : s.hasWord (s.S - BitVec.ofNat 32 (4 * 0)) = true :=
  State.hasStack_below h.stack (by omega)

/-- The common beginning of those loads. -/
theorem LoadsAt.run (h : LoadsAt s b a) (k : Word → M End) :
    (requirePrivileged >>= fun _ => peek 0 >>= fun p => absoluteAddress p b >>= k) s = k a s := by
  rw [M.bind_ok (requirePrivileged_of s h.privileged), M.bind_ok (peek_present h.tos), M.bind_ok h.address]

theorem plda_completes (h : LoadsAt s b a) (hw : s.hasWord a = true) :
    CompletesAs (.plda b) s ((s.putTop 0 (s.word a)).setCC (ccWord (s.word a))) :=
  completes16 rfl rfl (by simp) (by rw [h.run, M.bind_ok (readWord_present hw), answer_present h.tos]) (done_plain _)

theorem plha_completes (h : LoadsAt s b a) (hw : s.hasHalf a = true) :
    let v := (s.mem.half (halfAlign a).toNat).signExtend 32
    CompletesAs (.plha b) s ((s.putTop 0 v).setCC (ccWord v)) :=
  completes16 rfl rfl (by simp) (by rw [h.run, M.bind_ok (readHalf_present hw), answer_present h.tos]; rfl)
    (done_plain _)

theorem plba_completes (h : LoadsAt s b a) (hw : s.hasByte a = true) :
    CompletesAs (.plba b) s ((s.putTop 0 ((s.byte a.toNat).setWidth 32)).setCC (ccByte (s.byte a.toNat))) :=
  completes16 rfl rfl (by simp)
    (by rw [h.run, M.bind_ok (readByte_present hw), M.bind_ok (poke_present h.tos), putCC_bind, M.pure_apply])
    (done_plain _)

theorem psla_completes (h : LoadsAt s b a) (hw : s.hasWord a = true) :
    CompletesAs (.psla b) s
      (((s.putWord a 0xFFFFFFFF#32).putTop 0 (s.word a)).setCC (ccWord (s.word a))) :=
  completes16 rfl rfl (by simp)
    (by
      have ht : (s.putWord a 0xFFFFFFFF#32).hasWord ((s.putWord a 0xFFFFFFFF#32).S - BitVec.ofNat 32 (4 * 0)) = true :=
        h.tos
      rw [h.run, M.bind_ok (readWord_present hw), M.bind_ok (writeWord_present hw), answer_present ht])
    (done_plain _)

/-- What the stores at an absolute address have in common: the second word is the base, and its address passes the
tests. -/
structure StoresAt (s : State) (b : Bool) (a : Word) : Prop where
  privileged : s.privileged = true
  stack : s.hasStack 2 0 = true
  address : absoluteAddress (s.top 1) b s = .ok (a, s)

/-- The common beginning of those stores. -/
theorem StoresAt.run (h : StoresAt s b a) (k : Word → Word → M End) :
    (requirePrivileged >>= fun _ => peek 1 >>= fun p => peek 0 >>= fun v => absoluteAddress p b >>= fun a =>
      checkPop 2 >>= fun _ => k v a) s = (checkPop 2 >>= fun _ => k (s.top 0) a) s := by
  rw [M.bind_ok (requirePrivileged_of s h.privileged),
    M.bind_ok (peek_present (State.hasStack_below h.stack (by omega))),
    M.bind_ok (peek_present (State.hasStack_below h.stack (by omega))), M.bind_ok h.address]

theorem psta_completes (h : StoresAt s b a) (hp : s.canPop 2 = true) (hw : s.hasWord a = true) :
    CompletesAs (.psta b) s ((s.putWord a (s.top 0)).popped 2) :=
  completes16 rfl rfl (by simp)
    (by rw [h.run fun v a => writeWord a v >>= fun _ => dropWords 2 >>= fun _ => pure done, M.bind_ok (checkPop_can hp),
      M.bind_ok (writeWord_present hw), dropWords_bind, M.pure_apply])
    (done_plain _)

theorem psha_completes (h : StoresAt s b a) (hp : s.canPop 2 = true) (hw : s.hasHalf a = true) :
    CompletesAs (.psha b) s ((s.putHalf a ((s.top 0).setWidth 16)).popped 2) :=
  completes16 rfl rfl (by simp)
    (by rw [h.run fun v a => writeHalf a (field v 16 16) >>= fun _ => dropWords 2 >>= fun _ => pure done,
      M.bind_ok (checkPop_can hp), M.bind_ok (writeHalf_present hw), dropWords_bind, M.pure_apply, field_half])
    (done_plain _)

theorem psba_completes (h : StoresAt s b a) (hp : s.canPop 2 = true) (hw : s.hasByte a = true) :
    CompletesAs (.psba b) s ((s.putByte a ((s.top 0).setWidth 8)).popped 2) :=
  completes16 rfl rfl (by simp)
    (by rw [h.run fun v a => writeByte a (field v 24 8) >>= fun _ => dropWords 2 >>= fun _ => pure done,
      M.bind_ok (checkPop_can hp), M.bind_ok (writeByte_present hw), dropWords_bind, M.pure_apply, field_byte])
    (done_plain _)

/-- The pop of the stores at an absolute address is tested before anything is written (R260). -/
theorem absoluteStore_underflows (h : StoresAt s b a) (hp : s.canPop 2 = false) :
    ∀ i ∈ [Instr.psta b, .psba b, .psha b], Raises i s .stackUnderflow none := by
  have key (k : Word → Word → M End) :
      (requirePrivileged >>= fun _ => peek 1 >>= fun p => peek 0 >>= fun v => absoluteAddress p b >>= fun a =>
        checkPop 2 >>= fun _ => k v a) s = .error (.trap .stackUnderflow none s) := by
    rw [h.run, M.bind_error (checkPop_cannot hp)]
  intro i hi
  simp only [List.mem_cons, List.not_mem_nil, or_false] at hi
  obtain rfl | rfl | rfl := hi
  · exact raises16 rfl (key fun v a => writeWord a v >>= fun _ => dropWords 2 >>= fun _ => pure done)
  · exact raises16 rfl (key fun v a => writeByte a (field v 24 8) >>= fun _ => dropWords 2 >>= fun _ => pure done)
  · exact raises16 rfl (key fun v a => writeHalf a (field v 16 16) >>= fun _ => dropWords 2 >>= fun _ => pure done)

end

/-- Settles O14, one instruction at a time. -/
theorem absoluteLoadsAndStores : Obligations.AbsoluteLoadsAndStores := by
  intro s b xx a d inSpace v put hm
  refine ⟨fun hs hin hoff => ?_, fun hs hin hoff => ?_⟩
  · have h : LoadsAt s b a := ⟨hm, hs, absoluteAddress_ok hin.1 hin.2.1 hin.2.2 hoff⟩
    exact ⟨plda_completes h, psla_completes h, plha_completes h, plba_completes h⟩
  · have h : StoresAt s b d := ⟨hm, hs, absoluteAddress_ok hin.1 hin.2.1 hin.2.2 hoff⟩
    exact ⟨absoluteStore_underflows h, fun hp => ⟨psta_completes h hp, psha_completes h hp, psba_completes h hp⟩⟩

end Sys2Proof.Machine

/-! NOP, the debug aids, CHEK, STOP and WAIT. -/

namespace Sys2Proof.Machine

/-! ## A note-1 trap at the end of an instruction -/

/-- The tests at the end of an instruction that has raised a note-1 trap, when neither a User Trap nor an interrupt is
due (R603, R620). -/
theorem endTests_own {t : State} {tr : Trap} {p : Option Word} (ho : (t.overflow && t.trapEnable) = false)
    (hi : t.interruptPending = false) :
    endTests { own := some (tr, p) } t = (do
      trapEntry tr p t.P
      postEntryTests postEntryFuel false : M Unit) t := by
  obtain ⟨h3, h4⟩ := interruptPending_false hi
  unfold endTests entryItems
  simp only [M.bind_assoc_apply, M.get_bind, ho, h3, h4, Option.isSome_none, Bool.and_false, Bool.false_eq_true,
    if_false]
  rfl

theorem endsInTrap_of_body {n : Nat} {d : Bool} {i : Instr} {m : M End} {s u : State} {t : Trap} {p : Option Word}
    (hx : exec i s = runBody n d m s) (hl : i.ilen = n) (hd : decide (i = .dup) = d)
    (hb : m s = .ok ({ own := some (t, p) }, u)) : EndsInTrap i s u t p none := by
  intro ho hi
  rw [hx, runBody_ok hb]
  subst hl hd
  exact conclude_congr (endTests_own ho hi)

/-- An instruction whose body ends in the note-1 trap when c holds, and has nothing to report when not. -/
theorem trapsIf_of_body {n : Nat} {d c : Bool} {i : Instr} {m : M End} {s u : State} {t : Trap} {p : Option Word}
    (hx : exec i s = runBody n d m s) (hl : i.ilen = n) (hd : decide (i = .dup) = d)
    (hb : m s = .ok (if c then { own := some (t, p) } else done, u)) : TrapsIf i s u c t p := by
  cases c
  · exact completes_of_body hx hl hd hb (done_plain u)
  · exact endsInTrap_of_body hx hl hd hb

theorem trapsIf16 {c : Bool} {i : Instr} {m : M End} {s u : State} {t : Trap} {p : Option Word}
    (hx : exec i s = run16 m s) (hl : i.ilen = 2) (hd : i ≠ .dup)
    (hb : m s = .ok (if c then { own := some (t, p) } else done, u)) : TrapsIf i s u c t p :=
  trapsIf_of_body hx hl (by simpa using hd) (atomic_ok hb)

/-! ## The debug aids -/

/-- The two leading bits of CSN (R49). -/
theorem field_csn (s : State) : field s.csn 0 2 = field s.STATUS 20 2 := by
  ext i hi
  have : i < 12 := by omega
  interval_cases i <;> simp [State.csn, field]

/-- The enable bits of the debug aids cleared (R31, R486). -/
theorem setField_debug (v : Word) : setField v 0 5 0 = v &&& 0x07FFFFFF#32 := by
  have h : ~~~ fieldMask 32 0 5 = 0x07FFFFFF#32 := by decide
  simp [setField, h]

theorem debugTrap_trapsIf {c : Bool} {i : Instr} {s : State} {t : Trap} {p : Option Word}
    (hx : exec i s = run16 (debugTrap c t p) s) (hl : i.ilen = 2) (hd : i ≠ .dup) : TrapsIf i s s c t p :=
  trapsIf16 hx hl hd rfl

/-- The overall debug bit, case by case of the two leading bits of CSN (R49). -/
theorem State.overallDebug_eq (s : State) :
    s.overallDebug =
      (let flag := fun (l : List Nat) => l.any fun k => bit s.FLAGS k
       match field s.csn 0 2 with
        | 0b00#2 => flag [1, 3, 5, 7] | 0b11#2 => flag [0, 2, 4, 6] | _ => flag [1, 3, 5, 6, 7]) := by
  have cases4 : ∀ c : BitVec 2, c = 0#2 ∨ c = 1#2 ∨ c = 2#2 ∨ c = 3#2 := by decide
  unfold State.overallDebug
  rw [field_csn]
  obtain h | h | h | h := cases4 (field s.STATUS 20 2) <;> simp [h, Bool.or_assoc]

theorem sop_trapsIf {s : State} {n : BitVec 8} :
    TrapsIf (.sop n) s { s with STATUS := s.STATUS &&& 0x07FFFFFF#32 } s.overallDebug .startOfProcedure
      (some (n.setWidth 32)) := by
  have hx : exec (.sop n) s = run16 (do
      modify fun s => { s with STATUS := setField s.STATUS 0 5 0 }
      debugTrap s.overallDebug .startOfProcedure (some (n.setWidth 32))) s := rfl
  refine trapsIf16 hx rfl (by simp) ?_
  rw [M.modify_bind, setField_debug]
  rfl

theorem solc_raises {s : State} {n : BitVec 8} (h : s.Q = s.S) : Raises (.solc n) s .boundsViolation none :=
  raises16 rfl (by rw [M.get_bind, require_bind]; simp [h])

theorem solc_trapsIf {s : State} {n : BitVec 8} (h : s.Q ≠ s.S) (hq : s.hasWord (s.Q + 4#32) = true)
    (hb : s.hasWord (s.SB + 4#32) = true) :
    let u := s.putWord (s.Q + 4#32) (s.P - s.PB)
    TrapsIf (.solc n) s u (u.word (s.SB + 4#32) != 0#32) .startOfLineCheck (some (n.setWidth 32)) := by
  intro u
  have hu : u.hasWord (s.SB + 4#32) = true := hb
  refine trapsIf16 rfl rfl (by simp) ?_
  rw [M.get_bind, require_bind, if_pos (by simpa using h), M.bind_ok (writeWord_present hq),
    M.bind_ok (readWord_present hu)]
  rfl

theorem chek_trapsIf {s : State} {lo : BitVec 5} {hi : BitVec 19} (h : s.hasStack 1 0 = true) :
    TrapsIf (.chek lo hi) s s (decide ((s.top 0).toInt < lo.toNat) || decide ((hi.toNat : Int) < (s.top 0).toInt))
      .check (some s.CIR) := by
  refine trapsIf_of_body (n := 4) (d := false) rfl rfl (by simp) (atomic_ok ?_)
  rw [M.get_bind, M.bind_ok (peek_present (State.hasStack_below h (by omega))), M.pure_apply]
  by_cases hc : (lo.toNat : Int) ≤ (s.top 0).toInt ∧ (s.top 0).toInt ≤ hi.toNat
  · have : (decide ((s.top 0).toInt < lo.toNat) || decide ((hi.toNat : Int) < (s.top 0).toInt)) = false := by
      simpa using hc
    rw [if_pos hc, this]
    rfl
  · have : (decide ((s.top 0).toInt < lo.toNat) || decide ((hi.toNat : Int) < (s.top 0).toInt)) = true := by
      simp only [Bool.or_eq_true, decide_eq_true_eq]
      omega
    rw [if_neg hc, this]
    rfl

/-! ## STOP and WAIT -/

/-- The state in which STOP has saved S below SB, when SB is not 0 (R466). -/
def State.stopped (s : State) : State := if s.SB = 0#32 then s else s.putWord (s.SB - 4#32) (s.S - s.SB)

theorem State.stopped_S (s : State) : s.stopped.S = s.S := by
  unfold State.stopped
  split <;> rfl

theorem State.stopped_hasWord (s : State) (a : Word) : s.stopped.hasWord a = s.hasWord a := by
  unfold State.stopped
  split <;> rfl

theorem saveS_bind {α : Type} {s : State} (f : Unit → M α) (h : s.SB ≠ 0#32 → s.hasWord (s.SB - 4#32) = true) :
    (if s.SB ≠ 0#32 then saveS >>= f else f ()) s = f () s.stopped := by
  unfold State.stopped
  by_cases h0 : s.SB = 0#32
  · rw [if_neg (not_not.2 h0), if_pos h0]
  · rw [if_pos h0, if_neg h0]
    exact M.bind_ok (writeWord_present (h h0))

/-- A 16-bit instruction that stays where it is makes none of the tests at its end. -/
theorem run16_stay {m : M End} {s t : State} (h : m s = .ok ({ stay := true }, t)) :
    run16 m s = .next { t with prevDup := false } := by
  rw [run16_ok h]
  rfl

theorem stop_halts {s : State} (h : s.SB ≠ 0#32 → s.hasWord (s.SB - 4#32) = true) (hp : s.privileged = true) :
    exec (.stop false) s = .next { s.stopped with run := .halted, prevDup := false } := by
  refine run16_stay (t := { s.stopped with run := .halted }) ?_
  rw [M.bind_ok (requirePrivileged_of s hp), M.get_bind, if_neg Bool.false_ne_true]
  exact (saveS_bind _ h).trans rfl

theorem stop_sleeps {s : State} (h : s.SB ≠ 0#32 → s.hasWord (s.SB - 4#32) = true) (hp : s.privileged = true)
    (hs : s.hasStack 1 0 = true) (hc : s.canPop 1 = true) :
    exec (.stop true) s = .next { ((s.stopped.popped 1).setI true) with
      MASK := s.stopped.top 0, run := .sleeping s.MASK s.STATUS, prevDup := false } := by
  refine run16_stay (t := { ((s.stopped.popped 1).setI true) with
      MASK := s.stopped.top 0, run := .sleeping s.MASK s.STATUS }) ?_
  rw [M.bind_ok (requirePrivileged_of s hp), M.get_bind]
  have hw : s.stopped.hasWord (s.stopped.S - BitVec.ofNat 32 (4 * 0)) = true := by
    rw [s.stopped_hasWord, s.stopped_S]
    exact State.hasStack_below hs (by omega)
  refine (M.bind_ok (checkPop_can hc)).trans ((saveS_bind _ h).trans ?_)
  exact (M.bind_ok (peek_present hw)).trans rfl

/-- Giving entries back changes memory alone. -/
theorem withWords_mem (l : List (Word × Word)) (s : State) :
    l.foldl (fun u e => u.withWord e.1 e.2) s =
      { s with mem := (l.foldl (fun u e => u.withWord e.1 e.2) s).mem } := by
  induction l generalizing s with
  | nil => rfl
  | cons e l ih => rw [List.foldl_cons, ih]; simp

theorem State.regained_mem (s : State) : s.regained = { s with owned := [], mem := s.regained.mem } :=
  withWords_mem s.owned { s with owned := [] }

theorem State.regained_P (s : State) : s.regained.P = s.P := by
  rw [s.regained_mem]

/-- The two words of unmasked bits of MSG, bits 3 to 5 apart, as one (R466). -/
theorem State.awake_iff (s : State) : s.awake = true ↔ s.MSG &&& ~~~ s.MASK &&& 0xE3FFFFFF#32 ≠ 0#32 := by
  have split (v : Word) : v &&& 0xE3FFFFFF#32 = (v &&& 0xE3FF0000#32) ||| (v &&& 0x0000FFFF#32) := by
    rw [← BitVec.and_or_distrib_left]; rfl
  unfold State.awake State.messageBits State.levelBits
  rw [split, Ne, BitVec.or_eq_zero_iff]
  simp [imp_iff_not_or]

theorem State.awake_regained (s : State) : s.regained.awake = s.awake := by
  rw [s.regained_mem]
  rfl

/-- A sleeping CPU that finds no unmasked bit sleeps on (R466). -/
theorem cpuStep_asleep {s : State} {mask status : Word} (h : s.awake = false) :
    cpuStep { s with run := .sleeping mask status } =
      .next ({ s with run := .sleeping mask status } : State).regained := by
  have hr : ({ s with run := .sleeping mask status } : State).regained.awake = false :=
    (State.awake_regained _).trans h
  change sleepStep mask status _ = _
  unfold sleepStep
  rw [hr]
  rfl

/-- A sleeping CPU that finds an unmasked bit completes its STOP with MASK and STATUS as they were (R466). -/
theorem cpuStep_awake {s : State} {mask status : Word} (h : s.awake = true) :
    let r := ({ s with run := .sleeping mask status } : State).regained
    let t := { r with MASK := mask, STATUS := status, run := .running, P := s.P + 2#32, prevDup := false }
    t.quiet = true → cpuStep { s with run := .sleeping mask status } = .next (t.setEM true) := by
  intro r t hq
  have hr : r.awake = true := (State.awake_regained _).trans h
  have hP : r.P = s.P := State.regained_P _
  change sleepStep mask status r = _
  unfold sleepStep
  rw [if_pos hr, runBody_ok (m := wakeUp mask status) rfl]
  have ht : t = { r with MASK := mask, STATUS := status, run := .running, P := r.P + 2#32, prevDup := false } := by
    rw [hP]
  rw [ht] at hq ⊢
  exact conclude_ok (finish_quiet (t := { r with MASK := mask, STATUS := status, run := .running }) rfl rfl rfl
    (by simp [done]) hq)

/-- The state in which WAIT has noted its operand in debug pad 5 (R467). -/
def State.withPad (s : State) (b3 : Bool) : State := { s with debugPad5 := b3 }

theorem withPad_hasTop {s : State} {b3 : Bool} (h : s.hasStack 1 0 = true) :
    (s.withPad b3).hasWord ((s.withPad b3).S - BitVec.ofNat 32 (4 * 0)) = true := by
  have hw : s.hasWord (s.S - BitVec.ofNat 32 (4 * 0)) = true := State.hasStack_below h (by omega)
  exact hw

theorem wait_completes {s : State} {b3 : Bool} (h : s.hasStack 1 0 = true) (hp : s.poll = none) :
    CompletesAs (.wait b3) s (((s.withPad b3).putTop 0 0#32).setPending false) := by
  have hw := withPad_hasTop (b3 := b3) h
  refine completesKeep16 rfl rfl (by simp) ?_ (done_plain _)
  rw [M.modify_bind]
  refine (M.bind_ok (peek_present hw)).trans ?_
  have hk : ((s.withPad b3).poll.map (·.iteration)).getD 0 = 0 := by
    rw [show (s.withPad b3).poll = none from hp]
    rfl
  have hq : (if 0 < ((s.withPad b3).top 0).toNat then pollBefore 0 else pure .quiet : M PollEnd) (s.withPad b3) =
      .ok (.quiet, s.withPad b3) := by
    split
    · exact pollBefore_none hp
    · rfl
  rw [M.get_bind, hk]
  refine (M.bind_ok hq).trans ?_
  exact (M.bind_ok (poke_present hw)).trans rfl

/-- WAIT at a poll that comes before its count is done (R467, R626). -/
theorem wait_suspends {s : State} {b3 : Bool} {q : Poll} {t u : State} (h : s.hasStack 1 0 = true)
    (hp : s.poll = some q) (h0 : 0 < q.iteration) (hk : q.iteration < (s.top 0).toNat)
    (hb : pollBefore q.iteration ((s.withPad b3).putTop 0 (s.top 0 - BitVec.ofNat 32 q.iteration)) =
      .ok (.interrupt, t))
    (hu : suspend t = .ok ({ stay := true }, u)) : exec (.wait b3) s = .next { u with prevDup := false } := by
  have hw := withPad_hasTop (b3 := b3) h
  refine runKeep16_stay ?_
  rw [M.modify_bind]
  refine (M.bind_ok (peek_present hw)).trans ?_
  have hk' : ((s.withPad b3).poll.map (·.iteration)).getD 0 = q.iteration := by
    rw [show (s.withPad b3).poll = some q from hp]
    rfl
  have hk : q.iteration < ((s.withPad b3).top 0).toNat := hk
  rw [M.get_bind, hk', if_pos hk]
  refine (M.bind_ok (a := PollEnd.interrupt) (t := t) ?_).trans hu
  exact (congrFun (if_pos h0) _).trans ((M.bind_ok (poke_present hw)).trans hb)

/-- Settles O27, instruction by instruction. -/
theorem nopCheckStopAndWait : Obligations.NopCheckStopAndWait := by
  unfold Obligations.NopCheckStopAndWait
  refine ⟨fun s n lo hi => ?_, fun s b3 mask status => ?_⟩
  · intro param noted cleared flag debug
    refine ⟨completes16 (m := pure done) rfl rfl (by simp) rfl (done_plain s), debugTrap_trapsIf rfl rfl (by simp), ?_,
      debugTrap_trapsIf rfl rfl (by simp), debugTrap_trapsIf rfl rfl (by simp), debugTrap_trapsIf rfl rfl (by simp),
      solc_raises, solc_trapsIf, chek_trapsIf⟩
    have hd : s.overallDebug = debug := s.overallDebug_eq
    exact hd ▸ sop_trapsIf
  · intro saved awake asleep r lit hSB
    refine ⟨fun hp => ⟨stop_halts hSB hp, stop_sleeps hSB hp⟩, rfl, State.regained_of_none (s := asleep), ?_, ?_,
      wait_completes, ?_⟩
    · intro h
      exact cpuStep_asleep (Bool.eq_false_iff.2 fun ha => h (s.awake_iff.1 ha))
    · intro h
      exact cpuStep_awake (s.awake_iff.2 h)
    · intro h q t u hp h0 hk hb hu
      exact wait_suspends h hp h0 hk hb hu

end Sys2Proof.Machine

/-! The procedure calls PCL and PCLS. -/

namespace Sys2Proof.Machine

/-! ## Memory in its canonical form is what its reads are -/

/-- Two memories in canonical form that read alike are the same (R80). -/
theorem Memory.wfFrom_ext {m n : Memory} {lo : Nat} (hm : Memory.wfFrom lo m = true) (hn : Memory.wfFrom lo n = true)
    (h : ∀ a, m.read a = n.read a) : m = n := by
  induction m generalizing lo n with
  | nil =>
    cases n with
    | nil => rfl
    | cons c t =>
      obtain ⟨k, b⟩ := c
      rw [Memory.wfFrom_cons] at hn
      have := h k
      simp only [Memory.read, if_true] at this
      exact absurd this.symm hn.2.2.1
  | cons c t ih =>
    obtain ⟨k, b⟩ := c
    cases n with
    | nil =>
      rw [Memory.wfFrom_cons] at hm
      have := h k
      simp only [Memory.read, if_true] at this
      exact absurd this hm.2.2.1
    | cons d u =>
      obtain ⟨l, e⟩ := d
      have hm' := hm
      have hn' := hn
      rw [Memory.wfFrom_cons] at hm hn
      obtain ⟨h1, h2, h3, h4⟩ := hm
      obtain ⟨g1, g2, g3, g4⟩ := hn
      have hk := h k
      have hl := h l
      simp only [Memory.read, if_true] at hk hl
      rcases lt_trichotomy k l with hkl | rfl | hkl
      · rw [if_neg (by omega), if_pos hkl] at hk
        exact absurd hk h3
      · rw [if_pos rfl] at hk
        subst hk
        rw [ih h4 g4 fun a => ?_]
        rcases Nat.lt_or_ge k a with ha | ha
        · have := h a
          simp only [Memory.read] at this
          rwa [if_neg (by omega), if_neg (by omega), if_neg (by omega), if_neg (by omega)] at this
        · rw [Memory.read_below (by omega) h4, Memory.read_below (by omega) g4]
      · rw [if_neg (by omega), if_pos hkl] at hl
        exact absurd hl.symm g3

theorem Memory.wf_ext {m n : Memory} (hm : m.wf = true) (hn : n.wf = true) (h : ∀ a, m.read a = n.read a) : m = n :=
  Memory.wfFrom_ext hm hn h

theorem append_inj {k n : Nat} {x x' : BitVec k} {y y' : BitVec n} (h : x ++ y = x' ++ y') : x = x' ∧ y = y' := by
  have hx := congrArg (BitVec.extractLsb' n k) h
  have hy := congrArg (BitVec.extractLsb' 0 n) h
  simp only [BitVec.extractLsb'_append_eq_left, BitVec.extractLsb'_append_eq_right] at hx hy
  exact ⟨hx, hy⟩

/-- The bytes of a word. -/
theorem Memory.read_of_word_eq {m n : Memory} {a : Nat} (h : m.word a = n.word a) {b : Nat} (h1 : a ≤ b)
    (h2 : b < a + 4) : m.read b = n.read b := by
  obtain ⟨h12, h34⟩ := append_inj h
  obtain ⟨e1, e2⟩ := append_inj h12
  obtain ⟨e3, e4⟩ := append_inj h34
  obtain rfl | rfl | rfl | rfl : b = a ∨ b = a + 1 ∨ b = a + 2 ∨ b = a + 2 + 1 := by omega
  exacts [e1, e2, e3, e4]

/-- A word that is put back after another was stored over it leaves memory as it was. -/
theorem Memory.writeWord_back {m : Memory} {a : Nat} {v : Word} (w : m.wf = true) (ha : a + 3 < addressSpace) :
    (m.writeWord a v).writeWord a (m.word a) = m := by
  have w1 := Memory.wf_writeWord a v ha w
  refine Memory.wf_ext (Memory.wf_writeWord a _ ha w1) w fun b => ?_
  by_cases hb : a ≤ b ∧ b < a + 4
  · exact Memory.read_of_word_eq (Memory.word_writeWord_same a _ w1 ha) hb.1 hb.2
  · rw [Memory.read_writeWord_other a b _ (by omega) w1 ha, Memory.read_writeWord_other a b _ (by omega) w ha]

/-! ## Operations that change memory, MSG and the free words alone -/

/-- When m answers, only memory, MSG and the counter of free words have changed. -/
def MemoryOnly {α : Type} (m : M α) : Prop := ∀ s a t, m s = .ok (a, t) → s.unwound t = t

variable {α β : Type}

theorem MemoryOnly.pure (a : α) : MemoryOnly (pure a : M α) := by
  intro s b t h
  cases h
  rfl

theorem MemoryOnly.get : MemoryOnly (get : M State) := by
  intro s b t h
  cases h
  rfl

theorem MemoryOnly.bind {m : M α} {f : α → M β} (hm : MemoryOnly m) (hf : ∀ a, MemoryOnly (f a)) :
    MemoryOnly (m >>= f) := by
  intro s b u h
  obtain ⟨a, t, ht, hu⟩ := M.bind_eq_ok h
  have e1 := hm s a t ht
  have e2 := hf a t b u hu
  rw [← e2, ← e1]
  rfl

theorem MemoryOnly.ite {c : Prop} [Decidable c] {m n : M α} (hm : MemoryOnly m) (hn : MemoryOnly n) :
    MemoryOnly (if c then m else n) := by
  split
  · exact hm
  · exact hn

theorem MemoryOnly.error {e : State → Stop} : MemoryOnly (fun s => .error (e s) : M α) := by
  intro s a t h
  cases h

theorem MemoryOnly.require {c : Bool} {t : Trap} {p : Option Word} : MemoryOnly (require c t p) := by
  intro s a u h
  obtain ⟨-, rfl⟩ := (require_ok_iff ..).1 h
  rfl

theorem MemoryOnly.insist {c : Bool} {r : Refusal} : MemoryOnly (insist c r) := by
  intro s a u h
  obtain ⟨-, rfl⟩ := (insist_ok_iff ..).1 h
  rfl

theorem MemoryOnly.absAddress {i : Int} : MemoryOnly (absAddress i) := MemoryOnly.insist.bind fun _ => .pure _

theorem MemoryOnly.readWord {a : Word} : MemoryOnly (readWord a) := by
  intro s v t h
  obtain ⟨-, ⟨-, -, rfl⟩ | ⟨-, -, rfl⟩⟩ := readWord_ok h <;> rfl

theorem MemoryOnly.writeWord {a v : Word} : MemoryOnly (writeWord a v) := by
  intro s x t h
  obtain ⟨-, ⟨-, rfl⟩ | ⟨-, rfl⟩⟩ := writeWord_ok h <;> rfl

theorem MemoryOnly.acquire {ent : Word} : MemoryOnly (acquire ent) :=
  MemoryOnly.readWord.bind fun _ => .ite .error (MemoryOnly.writeWord.bind fun _ => .pure _)

theorem MemoryOnly.owning {ent w : Word} {m : M α} (h : MemoryOnly m) : MemoryOnly (owning ent w m) := by
  intro s a t ht
  exact h s a t ((owning_ok_iff ..).1 ht)

theorem MemoryOnly.cstBase {c : BitVec 12} : MemoryOnly (cstBase c) := by
  refine MemoryOnly.get.bind fun s => ?_
  exact .ite (MemoryOnly.readWord.bind fun _ => .pure _)
    (.ite (MemoryOnly.readWord.bind fun _ => .pure _) (MemoryOnly.readWord.bind fun _ => .pure _))

theorem MemoryOnly.cstEntry {c : BitVec 12} : MemoryOnly (cstEntry c) :=
  MemoryOnly.require.bind fun _ => MemoryOnly.cstBase.bind fun _ => MemoryOnly.readWord.bind fun _ =>
    MemoryOnly.require.bind fun _ => .absAddress

theorem MemoryOnly.readCount {ent : Word} : MemoryOnly (readCount ent) :=
  MemoryOnly.acquire.bind fun _ => MemoryOnly.writeWord.bind fun _ => .pure _

theorem MemoryOnly.checkOldCount {c : BitVec 12} : MemoryOnly (checkOldCount c) :=
  .ite (MemoryOnly.cstEntry.bind fun _ => MemoryOnly.readCount.bind fun _ => .require) (.pure _)

theorem MemoryOnly.checkUseCounts {c : BitVec 12} {w0 : Word} : MemoryOnly (checkUseCounts c w0) :=
  MemoryOnly.get.bind fun _ => .ite (MemoryOnly.checkOldCount.bind fun _ => .require) (.pure _)

theorem MemoryOnly.entryPoint {k : TransferKind} {m : Bool} {loc pl n : Word} :
    MemoryOnly (entryPoint k m loc pl n) := by
  refine MemoryOnly.readWord.bind fun _ => MemoryOnly.require.bind fun _ => .ite ?_ ?_
  · exact .ite (MemoryOnly.error.bind fun _ => .pure _) (.pure _)
  · refine MemoryOnly.absAddress.bind fun _ => MemoryOnly.readWord.bind fun _ => ?_
    exact .ite (MemoryOnly.error.bind fun _ => .ite (MemoryOnly.error.bind fun _ => .pure _) (.pure _))
      (.ite (MemoryOnly.error.bind fun _ => .pure _) (.pure _))

theorem MemoryOnly.testSegment {c : BitVec 12} {n e w : Word} {k : TransferKind} {m : Bool} :
    MemoryOnly (testSegment c n e w k m) := by
  refine MemoryOnly.bind (MemoryOnly.readWord.bind fun _ => MemoryOnly.readWord.bind fun _ => .pure _) fun lx => ?_
  refine .ite (MemoryOnly.error.bind fun _ => ?_) ?_ <;>
    refine .ite (MemoryOnly.error.bind fun _ => ?_) ?_ <;>
    exact (MemoryOnly.insist.bind fun _ => .absAddress).bind fun _ => MemoryOnly.entryPoint.bind fun _ =>
      MemoryOnly.checkUseCounts.bind fun _ => .pure _

theorem MemoryOnly.planTransfer {p : Word} {k : TransferKind} : MemoryOnly (planTransfer p k) := by
  refine MemoryOnly.get.bind fun s => .ite (.pure _) ?_
  exact MemoryOnly.cstEntry.bind fun _ => MemoryOnly.acquire.bind fun _ => MemoryOnly.testSegment.owning

/-! ## The entry that a planned transfer owns -/

theorem cstBase_present {c : BitVec 12} {s : State} (h : s.hasWord (s.cstPointer c) = true) :
    cstBase c s = .ok ((s.cstTable c, cstIndex c), s) := by
  unfold cstBase State.cstTable State.cstPointer cstIndex at *
  rw [M.get_bind]
  split_ifs at * with h1 h2
  · exact M.bind_ok (readWord_present h)
  · exact M.bind_ok (readWord_present h)
  · exact M.bind_ok (readWord_present h)

/-- What `hasCst` lists (R122). -/
structure State.HasCst (s : State) (c : BitVec 12) : Prop where
  pointer : s.hasWord (s.cstPointer c) = true
  table : s.hasWord (s.cstTable c) = true
  limit : (s.cstTable c).toNat + 16 * cstIndex c < addressSpace
  first : s.hasWord (s.cstOf c) = true
  length : s.hasWord (s.cstOf c + 4#32) = true
  location : s.hasWord (s.cstOf c + 8#32) = true

theorem State.hasCst_iff (s : State) (c : BitVec 12) : s.hasCst c = true ↔ s.HasCst c := by
  simp only [State.hasCst, Bool.and_eq_true, decide_eq_true_eq]
  exact ⟨fun ⟨⟨⟨⟨⟨h1, h2⟩, h3⟩, h4⟩, h5⟩, h6⟩ => ⟨h1, h2, h3, h4, h5, h6⟩,
    fun ⟨h1, h2, h3, h4, h5, h6⟩ => ⟨⟨⟨⟨⟨h1, h2⟩, h3⟩, h4⟩, h5⟩, h6⟩⟩

theorem State.HasCst.cstAddress {c : BitVec 12} {s : State} (h : s.HasCst c) :
    cstAddress (s.cstTable c) (cstIndex c) s = .ok (s.cstOf c, s) :=
  absAddress_add h.limit

/-- The tests of `CSTentry` leave the entry's address (R122). -/
theorem State.HasCst.cstEntry_ok {c : BitVec 12} {s t : State} {e : Word} (h : s.HasCst c)
    (he : cstEntry c s = .ok (e, t)) : e = s.cstOf c ∧ t = s := by
  unfold cstEntry at he
  obtain ⟨_, u, hu, h1⟩ := M.bind_eq_ok he
  obtain ⟨-, rfl⟩ := (require_ok_iff ..).1 hu
  rw [M.bind_ok (cstBase_present h.pointer), M.bind_ok (readWord_present h.table)] at h1
  obtain ⟨_, v, hv, h2⟩ := M.bind_eq_ok h1
  obtain ⟨-, rfl⟩ := (require_ok_iff ..).1 hv
  rw [h.cstAddress] at h2
  cases h2
  exact ⟨rfl, rfl⟩

/-- A trap raised where c holds did not come to be where the rest answers. -/
theorem raise_if_ok {c : Prop} [Decidable c] {tr : Trap} {p : Option Word} {f : PUnit → M α} {s t : State} {a : α}
    (h : (if c then raise tr p >>= f else f ⟨⟩) s = .ok (a, t)) : f ⟨⟩ s = .ok (a, t) := by
  by_cases hc : c
  · rw [if_pos hc] at h
    obtain ⟨_, _, hr, -⟩ := M.bind_eq_ok h
    cases hr
  · rwa [if_neg hc] at h

/-- The plan of a transfer into another segment names the entry that is owned and its first word (R133). -/
theorem testSegment_segment {c : BitVec 12} {n e w : Word} {k : TransferKind} {m : Bool} {s t : State}
    {g : TransferPlan} (h : testSegment c n e w k m s = .ok (g, t)) :
    ∃ seg, g.segment = some seg ∧ seg.ent = e ∧ seg.w0 = w := by
  unfold testSegment at h
  obtain ⟨lx, s1, -, h1⟩ := M.bind_eq_ok h
  have h2 := raise_if_ok h1
  have h3 := raise_if_ok h2
  obtain ⟨pl, s4, -, h4⟩ := M.bind_eq_ok h3
  obtain ⟨target, s5, -, h5⟩ := M.bind_eq_ok h4
  obtain ⟨_, s6, -, h6⟩ := M.bind_eq_ok h5
  cases h6
  exact ⟨_, rfl, rfl, rfl⟩

theorem planTransfer_segment {p : Word} {k : TransferKind} {s t : State} {g : TransferPlan} (hp : bit p 0 = true)
    (hc : s.HasCst (field p 20 12)) (h : planTransfer p k s = .ok (g, t)) :
    ∃ seg, g.segment = some seg ∧ seg.ent = s.cstOf (field p 20 12) ∧
      seg.w0 = s.word (s.cstOf (field p 20 12)) := by
  unfold planTransfer at h
  rw [M.get_bind, if_neg (by simp [hp])] at h
  obtain ⟨e, u, he, h⟩ := M.bind_eq_ok h
  obtain ⟨rfl, rfl⟩ := hc.cstEntry_ok he
  obtain ⟨w, v, hw, h⟩ := M.bind_eq_ok h
  obtain ⟨rfl, -, rfl⟩ := acquire_ok hc.first hw
  exact testSegment_segment ((owning_ok_iff ..).1 h)

/-- An entry that was taken and is given back leaves the state as it was (R124). -/
theorem State.taken_back {s : State} {e : Word} (w : s.mem.wf = true) (h : s.hasWord e = true) :
    s.unwound ((s.taken e).withWord e (s.word e)) = s := by
  obtain ⟨hn, hh⟩ : (wordAlign e).toNat < addressSpace ∧ Config.isHole s.cfg (wordAlign e).toNat = false := by
    simpa [State.hasWord, State.present] using h
  have hm := wordAlign_toNat_mod e
  have hb : (s.taken e).withWord e (s.word e) = (s.taken e).putWord e (s.word e) := by
    unfold State.withWord
    rw [if_neg]
    · rfl
    · rintro (h1 | h1)
      · omega
      · exact absurd h1 (by rw [show (s.taken e).cfg = s.cfg from rfl, hh]; simp)
  have hw : ((s.taken e).putWord e (s.word e)).mem = s.mem :=
    Memory.writeWord_back w (by unfold addressSpace at *; omega)
  rw [hb]
  unfold State.unwound
  rw [hw]
  rfl

/-- The word on top of the stack is among those that reach above it too. -/
theorem State.hasStack_narrow {s : State} {k : Nat} (h : s.hasStack 1 k = true) : s.hasStack 1 0 = true := by
  have : s.hasWord (s.S - BitVec.ofNat 32 (4 * 0)) = true := State.hasStack_below h (by omega)
  simpa [State.hasStack, State.hasWords] using this

/-- `hasWords`, word by word. -/
theorem State.hasWords_of {s : State} {j n : Nat}
    (h : ∀ k < n, s.hasWord (s.S + BitVec.ofNat 32 (4 * j) - BitVec.ofNat 32 (4 * k)) = true) :
    s.hasWords j n = true := by
  induction n with
  | zero => rfl
  | succ n ih =>
    rw [State.hasWords, h n (by omega), ih fun k hk => h k (by omega)]
    rfl

/-- Room for a marker when the word on top of the stack is popped first (R470). -/
theorem State.popped_hasStack {s : State} (h : s.hasStack 1 3 = true) (hc : s.canPop 1 = true) :
    (s.popped 1).hasStack 0 4 = true := by
  have hl := State.hasStack_limit h (by omega)
  have hq : s.Q.toNat + 4 * 1 ≤ s.S.toNat := of_decide_eq_true hc
  have hlim : (s.popped 1).S.toNat + 4 * 4 < addressSpace := by
    unfold State.popped addressSpace at *
    bv_omega
  have hs : s.hasWords 3 4 = true := State.hasStack_words h
  have hw : (s.popped 1).hasWords 4 4 = true := by
    refine State.hasWords_of fun i hi => ?_
    have e : (s.popped 1).S + BitVec.ofNat 32 (4 * 4) = s.S + BitVec.ofNat 32 (4 * 3) := by
      unfold State.popped
      bv_omega
    rw [e, State.hasWord_congr (s := s) (t := s.popped 1) rfl]
    exact State.hasWords_get hs hi
  unfold State.hasStack
  rw [decide_eq_true hlim, hw]
  rfl

/-! ## The plan of a call -/

/-- The first half of a call: the plan of its transfer, through the pointer on the stack, which is popped, or in the STT
(R470). -/
def State.callPlan (s : State) (off : BitVec 19) : M TransferPlan :=
  if off = 0 then do
    let p ← peek 0
    let t ← planTransfer p .call
    t.during (checkPop 1)
    dropWords 1
    pure t
  else do
    let len ← readWord s.PL
    require (off.toNat ≤ (field len 13 19).toNat) .sttViolation (some 1#32)
    let p ← readWord (s.PL - off.setWidth 32)
    planTransfer p .call

theorem callBody_apply (off : BitVec 19) (n : Nat) (s : State) :
    callBody off n s = (do
      let t ← s.callPlan off
      pushMarker (s.P + BitVec.ofNat 32 n)
      commitTransfer t
      pure { jump := some t.target } : M End) s := (rfl)

theorem planTransfer_unwound {p : Word} {k : TransferKind} {s t : State} {g : TransferPlan}
    (h : planTransfer p k s = .ok (g, t)) : s.unwound t = t := MemoryOnly.planTransfer s g t h

/-- What a test answers does not change when it is made while an entry is owned. -/
theorem TransferPlan.during_ok {g : TransferPlan} {m : M α} {s t : State} {a : α} (h : m s = .ok (a, t)) :
    g.during m s = .ok (a, t) := by
  obtain ⟨seg, mode, target⟩ := g
  cases seg with
  | none => exact h
  | some g => exact owning_ok h

theorem callPlan_table {off : BitVec 19} {s : State} (h0 : off ≠ 0) (hl : s.hasWord s.PL = true)
    (hi : off.toNat ≤ (field (s.word s.PL) 13 19).toNat) (hw : s.hasWord (s.PL - off.setWidth 32) = true) :
    s.callPlan off s = planTransfer (s.word (s.PL - off.setWidth 32)) .call s := by
  unfold State.callPlan
  rw [if_neg h0, M.bind_ok (readWord_present hl), require_bind, if_pos (by simpa using hi),
    M.bind_ok (readWord_present hw)]

theorem callPlan_outOfTable {off : BitVec 19} {s : State} (h0 : off ≠ 0) (hl : s.hasWord s.PL = true)
    (hi : (field (s.word s.PL) 13 19).toNat < off.toNat) :
    s.callPlan off s = .error (.trap .sttViolation (some 1#32) s) := by
  unfold State.callPlan
  rw [if_neg h0, M.bind_ok (readWord_present hl), require_bind, if_neg (by simpa using hi)]

theorem callPlan_stack {off : BitVec 19} {s : State} (h0 : off = 0) (h : s.hasStack 1 0 = true) :
    s.callPlan off s = (do
      let t ← planTransfer (s.top 0) .call
      t.during (checkPop 1)
      dropWords 1
      pure t : M TransferPlan) s := by
  unfold State.callPlan
  rw [if_pos h0, M.bind_ok (peek_present (State.hasStack_below h (by omega)))]

theorem callPlan_pops {off : BitVec 19} {s t : State} {g : TransferPlan} (h0 : off = 0) (h : s.hasStack 1 0 = true)
    (hc : s.canPop 1 = true) (hp : planTransfer (s.top 0) .call s = .ok (g, t)) :
    s.callPlan off s = .ok (g, t.popped 1) := by
  have hc' : t.canPop 1 = true := planTransfer_unwound hp ▸ hc
  rw [callPlan_stack h0 h, M.bind_ok hp, M.bind_ok (TransferPlan.during_ok (checkPop_can hc')), dropWords_bind]
  rfl

theorem callPlan_underflows_local {off : BitVec 19} {s : State} (h0 : off = 0) (h : s.hasStack 1 0 = true)
    (hc : s.canPop 1 = false) (hb : bit (s.top 0) 0 = false) :
    s.callPlan off s = .error (.trap .stackUnderflow none s) := by
  rw [callPlan_stack h0 h, M.bind_ok (planTransfer_local hb)]
  exact M.bind_error (checkPop_cannot hc)

theorem callPlan_underflows_external {off : BitVec 19} {s : State} {g : TransferPlan} (h0 : off = 0)
    (h : s.hasStack 1 0 = true) (hc : s.canPop 1 = false) (hb : bit (s.top 0) 0 = true)
    (hx : s.HasCst (field (s.top 0) 20 12))
    (hp : planTransfer (s.top 0) .call s = .ok (g, s.taken (s.cstOf (field (s.top 0) 20 12)))) :
    let e := s.cstOf (field (s.top 0) 20 12)
    s.callPlan off s = .error (.trap .stackUnderflow none ((s.taken e).withWord e (s.word e))) := by
  intro e
  obtain ⟨seg, hg, he, hw⟩ := planTransfer_segment hb hx hp
  have hd : g.during (checkPop 1) (s.taken e) =
      .error (.trap .stackUnderflow none ((s.taken e).withWord e (s.word e))) := by
    unfold TransferPlan.during SegmentPlan.during
    rw [hg]
    simp only [he, hw]
    exact owning_trap (checkPop_cannot hc)
  rw [callPlan_stack h0 h, M.bind_ok hp]
  exact M.bind_error hd

/-! ## The calls -/

section Calls

variable {i : Instr} {n : Nat} {off : BitVec 19} {s : State}
  (hx : exec i s = runBody n false (atomic (callBody off n)) s)

include hx

/-- A trap of the plan is taken with the registers of the start (R603). -/
theorem call_traps {t : Trap} {p : Option Word} {u : State} (h : s.callPlan off s = .error (.trap t p u)) :
    exec i s = conclude s (takeTrap t p) (s.unwound u) := by
  rw [hx]
  refine runBody_trap (atomic_trap ?_)
  rw [callBody_apply]
  exact M.bind_error h

theorem call_jumps {g : TransferPlan} {t u : State} (h : s.callPlan off s = .ok (g, t)) (hs : t.hasStack 0 4 = true)
    (hu : commitTransfer g (t.marked (s.P + BitVec.ofNat 32 n)) = .ok ((), u)) : JumpsAs i s u g.target := by
  refine jumps_of_body (e := { jump := some g.target }) hx (atomic_ok ?_) rfl rfl rfl (by simp)
  rw [callBody_apply, M.bind_ok h, M.bind_ok (pushMarker_present hs), M.bind_ok hu]
  rfl

theorem call_table (h0 : off ≠ 0) (hl : s.hasWord s.PL = true)
    (hi : off.toNat ≤ (field (s.word s.PL) 13 19).toNat) (hw : s.hasWord (s.PL - off.setWidth 32) = true)
    (hs : s.hasStack 0 4 = true) :
    TransfersThrough i s (s.word (s.PL - off.setWidth 32)) .call fun t => t.marked (s.P + BitVec.ofNat 32 n) := by
  have hp := callPlan_table h0 hl hi hw
  refine ⟨fun t p u h => call_traps hx (hp.trans h), fun g t u h hu => ?_⟩
  exact call_jumps hx (hp.trans h) (planTransfer_unwound h ▸ hs) hu

theorem call_outOfTable (h0 : off ≠ 0) (hl : s.hasWord s.PL = true)
    (hi : (field (s.word s.PL) 13 19).toNat < off.toNat) : Raises i s .sttViolation (some 1#32) :=
  call_traps hx (callPlan_outOfTable h0 hl hi)

theorem call_passes (h0 : off = 0) (h : s.hasStack 1 0 = true) :
    PassesTrapsOf i s (planTransfer (s.top 0) .call) := by
  intro t p u hu
  refine call_traps hx ?_
  rw [callPlan_stack h0 h]
  exact M.bind_error hu

theorem call_underflows (h0 : off = 0) (h : s.hasStack 1 0 = true) (hc : s.canPop 1 = false) :
    UnderflowsAfterPlan i s (s.top 0) .call := by
  refine ⟨fun hb => call_traps hx (callPlan_underflows_local h0 h hc hb), fun w hcst g hp => ?_⟩
  cases hb : bit (s.top 0) 0
  · exact call_traps hx (callPlan_underflows_local h0 h hc hb)
  · have hc' := (s.hasCst_iff _).1 hcst
    have := call_traps hx (callPlan_underflows_external h0 h hc hb hc' hp)
    rwa [State.taken_back w hc'.first] at this

theorem call_stack (h0 : off = 0) (h : s.hasStack 1 3 = true) (hc : s.canPop 1 = true) :
    TransfersThrough i s (s.top 0) .call fun t => (t.popped 1).marked (s.P + BitVec.ofNat 32 n) := by
  have h1 : s.hasStack 1 0 = true := State.hasStack_narrow h
  refine ⟨call_passes hx h0 h1, fun g t u hp hu => ?_⟩
  refine call_jumps hx (callPlan_pops h0 h1 hc hp) ?_ hu
  exact planTransfer_unwound hp ▸ State.popped_hasStack h hc

end Calls

/-- Settles O28, through the plan of the call. -/
theorem procedureCalls : Obligations.ProcedureCalls := by
  unfold Obligations.ProcedureCalls
  intro s off n ra sttAt claim
  have holds (i : Instr) (o : BitVec 19) (n : Nat) (hx : exec i s = runBody n false (atomic (callBody o n)) s) :
      claim i o (BitVec.ofNat 32 n) :=
    ⟨fun h0 hl => ⟨call_outOfTable hx h0 hl, call_table hx h0 hl⟩,
      fun h0 h => ⟨call_passes hx h0 h, call_underflows hx h0 h⟩, call_stack hx⟩
  have hpcls := holds (.pcls n) (4 * n.setWidth 19) 2 rfl
  exact ⟨pushMarker_present, holds (.pcl off) off 4 rfl, mul_comm (4 : BitVec 19) (n.setWidth 19) ▸ hpcls⟩

end Sys2Proof.Machine

/-! Taking a trap: the marker, the entry of segment 1 and its handler. -/

namespace Sys2Proof.Machine

/-! ## A word stored twice, and the values of the entry's words -/

/-- A word that is stored over another leaves nothing of it. -/
theorem Memory.writeWord_twice {m : Memory} {a : Nat} {v w : Word} (hm : m.wf = true) (ha : a + 3 < addressSpace) :
    (m.writeWord a v).writeWord a w = m.writeWord a w := by
  have h1 := Memory.wf_writeWord a v ha hm
  refine Memory.wf_ext (Memory.wf_writeWord a w ha h1) (Memory.wf_writeWord a w ha hm) fun b => ?_
  by_cases hb : a ≤ b ∧ b < a + 4
  · refine Memory.read_of_word_eq ?_ hb.1 hb.2
    rw [Memory.word_writeWord_same a w h1 ha, Memory.word_writeWord_same a w hm ha]
  · rw [Memory.read_writeWord_other a b w (by omega) h1 ha, Memory.read_writeWord_other a b v (by omega) hm ha,
      Memory.read_writeWord_other a b w (by omega) hm ha]

theorem State.hasWord_lt {s : State} {a : Word} (h : s.hasWord a = true) :
    (wordAlign a).toNat + 3 < addressSpace := by
  have hm := wordAlign_toNat_mod a
  have : (wordAlign a).toNat < addressSpace := by
    simp only [State.hasWord, State.present, Bool.and_eq_true, decide_eq_true_eq] at h
    exact h.1
  unfold addressSpace at *
  omega

theorem State.putWord_twice {s : State} {a v w : Word} (hm : s.mem.wf = true) (h : s.hasWord a = true) :
    (s.putWord a v).putWord a w = s.putWord a w := by
  unfold State.putWord
  rw [Memory.writeWord_twice hm (State.hasWord_lt h)]

/-- A bit that is set, as a mask (R7). -/
theorem setBit_true (v : Word) (n : Nat) : setBit v n true = v ||| fieldMask 32 n 1 := by
  have h1 : (BitVec.ofBool true).setWidth 32 <<< (32 - n - 1) = fieldMask 32 n 1 := rfl
  unfold setBit setField
  rw [h1]
  ext i hi
  cases h : (fieldMask 32 n 1)[i] <;> simp [h]

/-- Bit 29 of a first word, the reference bit, set (R121). -/
theorem setBit_reference (w : Word) : setBit w 29 true = w ||| 4#32 := setBit_true w 29

/-- The STATUS of a handler (R602). -/
theorem handlerStatus (b : Bool) :
    setField (setBit 0#32 14 b) 20 12 1#12 = (if b then 0x00020001#32 else 1#32 : Word) := by
  cases b <;> decide

/-- The offset of a program pointer, as a mask (R131). -/
theorem pointerOffset_mask (w : Word) : pointerOffset w = w &&& 0x3FFFFFFF#32 := by
  have h : (w &&& 0x3FFFFFFF#32).toNat = w.toNat % 2 ^ 30 := by
    rw [BitVec.toNat_and]
    exact Nat.and_two_pow_sub_one_eq_mod w.toNat 30
  apply BitVec.eq_of_toNat_eq
  rw [h]
  simp only [pointerOffset, field, BitVec.toNat_setWidth, BitVec.extractLsb'_toNat]
  omega

/-- The use count of the segment that is left, down in its entry (R602). -/
def State.countedDown (s : State) (ent : Word) : State := s.putWord ent (lowered (s.word ent))

/-- The use count of segment 1 up in its entry (R602). -/
def State.countedUp (s : State) (ent : Word) : State := s.putWord ent (raised (s.word ent))

/-- An entry read under its semaphore and given back with another word (R124). -/
theorem acquire_release {s : State} {ent : Word} (f : Word → Word) (hm : s.mem.wf = true) (h : s.hasWord ent = true)
    (hb : bit (s.word ent) 0 = false) {α : Type} (k : Unit → M α) :
    (do let w ← acquire ent; let r ← release ent (f w); k r) s = k () (s.putWord ent (f (s.word ent))) := by
  rw [M.bind_ok (acquire_free h hb),
    M.bind_ok (release_present (s := s.taken ent) (by rwa [State.hasWord_congr (s := s) (t := s.taken ent) rfl]))]
  unfold State.taken
  rw [State.putWord_twice hm h]

/-! ## The entry of segment 1 -/

/-- The last part of `EnterSegment1()`: the registers from the entry (R602). -/
def loadSegment1 (e1 : Word) : M Unit := do
  let lx ← readExtent e1
  let pl ← segmentLimit lx.2 lx.1
  let w ← readWord e1
  modify fun s =>
    { s with PB := lx.2, PL := pl, STATUS := setField (setBit 0#32 14 (s.privileged || bit w 30)) 20 12 1#12 }

/-- The words of an entry of segment 1 (R121). -/
structure State.HasEntry1 (s : State) (e1 : Word) : Prop where
  first : s.hasWord e1 = true
  length : s.hasWord (e1 + 4#32) = true
  location : s.hasWord (e1 + 8#32) = true

/-- v is s with the use counts that an entry from the segment of s moves (R602). -/
inductive CountsMoved (e1 : Word) (s : State) : State → Prop where
  | inside : s.csn = 1#12 → CountsMoved e1 s s
  | fromZero : s.csn = 0#12 → bit (s.word e1) 0 = false → CountsMoved e1 s (s.countedUp e1)
  | fromOther : s.csn ≠ 0#12 → s.csn ≠ 1#12 → s.hasCst s.csn = true → bit (s.word (s.cstOf s.csn)) 0 = false →
      bit ((s.countedDown (s.cstOf s.csn)).word e1) 0 = false →
      CountsMoved e1 s ((s.countedDown (s.cstOf s.csn)).countedUp e1)

theorem CountsMoved.mem {e1 : Word} {s v : State} (h : CountsMoved e1 s v) : v = { s with mem := v.mem } := by
  cases h <;> rfl

theorem CountsMoved.privileged {e1 : Word} {s v : State} (h : CountsMoved e1 s v) : v.privileged = s.privileged := by
  cases h <;> rfl

/-- The state that `loadSegment1` leaves (R602). -/
def State.inSegment1 (v : State) (e1 : Word) : State :=
  { v with
    PB := v.word (e1 + 8#32)
    PL := wordOf ((v.word (e1 + 8#32)).toNat + (v.word (e1 + 4#32)).toNat - 3)
    STATUS := if v.privileged || bit (v.word e1) 30 then 0x00020001#32 else 1#32 }

theorem readExtent_ok {v : State} {e : Word} (h4 : v.hasWord (e + 4#32) = true) (h8 : v.hasWord (e + 8#32) = true) :
    readExtent e v = .ok ((v.word (e + 4#32), v.word (e + 8#32)), v) := by
  unfold readExtent
  rw [M.bind_ok (readWord_present h4), M.bind_ok (readWord_present h8), M.pure_apply]

theorem loadSegment1_apply {v : State} {e1 : Word} (h : v.HasEntry1 e1) (hl : (v.word (e1 + 8#32)).toNat < 2 ^ 29)
    (h0 : (0 : Int) ≤ (v.word (e1 + 8#32)).toNat + (v.word (e1 + 4#32)).toNat - 3)
    (h1 : ((v.word (e1 + 8#32)).toNat + (v.word (e1 + 4#32)).toNat - 3 : Int) < 2 ^ 29) :
    loadSegment1 e1 v = .ok ((), v.inSegment1 e1) := by
  have hx := readExtent_ok h.length h.location
  have hs := (segmentLimit_ok_iff (v.word (e1 + 8#32)) (v.word (e1 + 4#32)) v v _).2 ⟨hl, ⟨h0, h1⟩, rfl, rfl⟩
  unfold loadSegment1
  rw [M.bind_ok hx, M.bind_ok hs, M.bind_ok (readWord_present h.first)]
  unfold State.inSegment1
  rw [← handlerStatus]
  rfl

/-- `EnterSegment1()` moves the use counts and loads the registers (R602). -/
theorem enterSegment1_apply {s v : State} (hm : s.mem.wf = true) (h0 : s.hasWord 0#32 = true)
    (hl : (s.word 0#32).toNat + 16 < 2 ^ 29) (h1 : s.HasEntry1 (s.word 0#32 + 16#32))
    (hv : CountsMoved (s.word 0#32 + 16#32) s v) : enterSegment1 s = loadSegment1 (s.word 0#32 + 16#32) v := by
  have hc : cstAddress (s.word 0#32) 1 s = .ok (s.word 0#32 + 16#32, s) := absAddress_add hl
  unfold enterSegment1
  rw [M.bind_ok (readWord_present h0), M.bind_ok hc, M.get_bind]
  cases hv with
  | inside h =>
    rw [if_neg (by simp [h])]
    rfl
  | fromZero h hb =>
    rw [if_pos (by simp [h]), if_neg (by simp [h])]
    exact acquire_release raised hm h1.first hb _
  | fromOther hz hn hcst hb hb1 =>
    have hx := (s.hasCst_iff _).1 hcst
    have he : cstEntryUntested s.csn s = .ok (s.cstOf s.csn, s) := by
      unfold cstEntryUntested
      rw [M.bind_ok (cstBase_present hx.pointer)]
      exact hx.cstAddress
    have hm' : (s.countedDown (s.cstOf s.csn)).mem.wf = true :=
      Memory.wf_writeWord _ _ (State.hasWord_lt hx.first) hm
    have h1' : (s.countedDown (s.cstOf s.csn)).hasWord (s.word 0#32 + 16#32) = true := h1.first
    refine (congrFun (if_pos hn) s).trans ((congrFun (if_pos hz) s).trans ?_)
    rw [M.bind_ok he]
    exact (acquire_release lowered hm hx.first hb _).trans (acquire_release raised hm' h1' hb1 _)

theorem enterSegment1_ok {s v : State} (hm : s.mem.wf = true) (h0 : s.hasWord 0#32 = true)
    (hl : (s.word 0#32).toNat + 16 < 2 ^ 29) (h1 : s.HasEntry1 (s.word 0#32 + 16#32))
    (hv : CountsMoved (s.word 0#32 + 16#32) s v) (hloc : (v.word (s.word 0#32 + 16#32 + 8#32)).toNat < 2 ^ 29)
    (hlo : (0 : Int) ≤ (v.word (s.word 0#32 + 16#32 + 8#32)).toNat + (v.word (s.word 0#32 + 16#32 + 4#32)).toNat - 3)
    (hhi : ((v.word (s.word 0#32 + 16#32 + 8#32)).toNat + (v.word (s.word 0#32 + 16#32 + 4#32)).toNat - 3 : Int) <
      2 ^ 29) : enterSegment1 s = .ok ((), v.inSegment1 (s.word 0#32 + 16#32)) := by
  rw [enterSegment1_apply hm h0 hl h1 hv]
  have hw (a : Word) : v.hasWord a = s.hasWord a := by rw [hv.mem]; rfl
  exact loadSegment1_apply ⟨(hw _).trans h1.first, (hw _).trans h1.length, (hw _).trans h1.location⟩ hloc hlo hhi

/-- The handler's address is the local pointer of the trap's number in the STT of segment 1 (R601 step 7). -/
theorem enterHandler_ok {s : State} {t : Trap} (h : s.hasWord (s.PL - BitVec.ofNat 32 (4 * t.number)) = true)
    (hb : bit (s.word (s.PL - BitVec.ofNat 32 (4 * t.number))) 0 = false)
    (ha : s.alignmentBug
      ((s.PB + (s.word (s.PL - BitVec.ofNat 32 (4 * t.number)) &&& 0x3FFFFFFF#32)) &&& 0xFFFFFFFE#32) = false) :
    enterHandler t s = .ok ((), { s with
      P := (s.PB + (s.word (s.PL - BitVec.ofNat 32 (4 * t.number)) &&& 0x3FFFFFFF#32)) &&& 0xFFFFFFFE#32 }) := by
  unfold enterHandler
  rw [M.get_bind, M.bind_ok (readWord_present h), insist_bind, if_pos (by simp [hb]), pointerOffset_mask]
  exact jumpTo_ok ha

/-! ## A trap -/

/-- The state in which a trap is entered: note 4 of R600 clears P, the machine instruction trap EM (R634). -/
def State.keptFor (s : State) (t : Trap) : State :=
  let u := if t.clearsPending then s.setPending false else s
  if t = .machineInstruction then u.setEM false else u

theorem State.keptFor_cases (s : State) (t : Trap) (p : State → Prop) (h0 : p s) (h1 : p (s.setPending false))
    (h2 : p ((s.setPending false).setEM false)) : p (s.keptFor t) := by
  unfold State.keptFor
  by_cases hm : t = .machineInstruction
  · subst hm
    exact h2
  · rw [if_neg hm]
    split
    · exact h1
    · exact h0

theorem State.privileged_keptFor (s : State) (t : Trap) : (s.keptFor t).privileged = s.privileged :=
  s.keptFor_cases t (fun u => u.privileged = s.privileged) rfl (by simp) (by simp)

theorem State.marked_STATUS (s : State) (ra : Word) : (s.marked ra).STATUS = s.STATUS := by
  simp [State.marked]

theorem State.marked_cfg (s : State) (ra : Word) : (s.marked ra).cfg = s.cfg := by
  simp [State.marked]

theorem State.privileged_marked (s : State) (ra : Word) : (s.marked ra).privileged = s.privileged := by
  unfold State.privileged
  rw [s.marked_STATUS]

theorem State.csn_marked (s : State) (ra : Word) : (s.marked ra).csn = s.csn := by
  unfold State.csn
  rw [s.marked_STATUS]

theorem State.cfg_keptFor (s : State) (t : Trap) : (s.keptFor t).cfg = s.cfg :=
  s.keptFor_cases t (fun u => u.cfg = s.cfg) rfl rfl rfl

theorem State.csn_keptFor (s : State) (t : Trap) : (s.keptFor t).csn = s.csn :=
  s.keptFor_cases t (fun u => u.csn = s.csn) rfl (by simp) (by simp)

/-- A stack marker keeps the canonical form of memory. -/
theorem State.wf_marked (s : State) {ra : Word} (w : s.mem.wf = true) (h : s.hasStack 0 4 = true) :
    (s.marked ra).mem.wf = true := by
  have g (k : Nat) (h1 : 1 ≤ k) (h4 : k ≤ 4) : (wordAlign (s.S + BitVec.ofNat 32 (4 * k))).toNat + 3 < addressSpace :=
    State.hasWord_lt (State.hasStack_above h k h1 h4)
  have e1 : s.S + 16#32 - 12#32 = s.S + 4#32 := by bv_omega
  have e2 : s.S + 16#32 - 8#32 = s.S + 8#32 := by bv_omega
  have e3 : s.S + 16#32 - 4#32 = s.S + 12#32 := by bv_omega
  have w1 := Memory.wf_writeWord _ s.X (g 1 (by omega) (by omega)) w
  have w2 := Memory.wf_writeWord _ (ra - s.PB) (g 2 (by omega) (by omega)) w1
  have w3 := Memory.wf_writeWord _ s.STATUS (g 3 (by omega) (by omega)) w2
  have w4 := Memory.wf_writeWord _ (s.S + 16#32 - s.Q) (g 4 (by omega) (by omega)) w3
  simp only [State.marked, State.putWord, e1, e2, e3]
  exact w4

/-- The state in which the handler of a trap is entered, its marker being at Q (R601): the count of a trace and the
parameter stored over it. -/
def State.withParam (v : State) (count : Option Word) (param : Word) : State :=
  { v with
    mem := ((match count with
      | some c => v.putWord (v.Q + 8#32) c
      | none => v).putWord (v.Q + 12#32) param).mem }

theorem withParam_inSegment1 (v : State) (e1 : Word) (count : Option Word) (param : Word) :
    (v.inSegment1 e1).withParam count param =
      { v.withParam count param with
        PB := (v.inSegment1 e1).PB, PL := (v.inSegment1 e1).PL, STATUS := (v.inSegment1 e1).STATUS } := by
  cases count <;> rfl

/-- A modification under a condition, before the rest. -/
theorem modify_if_bind {c : Prop} [Decidable c] {f : State → State} {k : PUnit → M α} {s : State} :
    (if c then modify f >>= k else k ⟨⟩) s = k ⟨⟩ (if c then f s else s) := by
  split
  · rfl
  · rfl

theorem trapEntry_ok {s v : State} {t : Trap} {param count : Option Word} {ra : Word}
    (hs : s.hasStack 0 4 = true) (he : enterSegment1 ((s.keptFor t).marked ra) = .ok ((), v))
    (h : v.hasWord (v.Q + 12#32) = true) (hc : count.isSome = true → v.hasWord (v.Q + 8#32) = true) :
    trapEntry t param ra count s =
      enterHandler t { v.withParam count (trapParam t param) with S := v.Q + 12#32 } := by
  have hk : (s.keptFor t).hasStack 0 4 = true := s.keptFor_cases t (fun u => u.hasStack 0 4 = true) hs hs hs
  unfold trapEntry
  refine modify_if_bind.trans (modify_if_bind.trans ?_)
  refine (M.bind_ok (pushMarker_present hk)).trans ?_
  rw [M.bind_ok he, M.get_bind]
  cases count with
  | none => exact M.bind_ok (writeWord_present h)
  | some c => exact (M.bind_ok (writeWord_present (hc rfl))).trans (M.bind_ok (writeWord_present h))

/-- The traps of note 4 of R600. -/
theorem Trap.clearsPending_iff (t : Trap) : t.clearsPending = true ↔
    t ∈ [.machineInstruction, .edsBoundsViolation, .absentCodeSegment, .absentPage, .absentDataSegment,
      .absentPageTable] := by
  cases t <;> decide

theorem Trap.negatesOnIcs_iff (t : Trap) : t.negatesOnIcs = true ↔
    t ∈ [.absentCodeSegment, .absentPage, .absentDataSegment, .absentPageTable] := by
  cases t <;> decide

theorem trapParam_eq (t : Trap) (param : Option Word) :
    trapParam t param = param.getD (0x80000001#32 ||| BitVec.ofNat 32 (t.number * 16384)) := by
  unfold trapParam epp
  rw [show 4 * t.number * 4096 = t.number * 16384 by omega]

/-! ## The tests after an entry -/

/-- P in its segment and S no higher than SL: the tests after an entry find nothing (R621). -/
theorem postEntryTests_calm {v : State} {fuel : Nat} {in55 : Bool} (hS : v.S.toNat ≤ v.SL.toNat)
    (h1 : v.PB.toNat ≤ v.P.toNat) (h2 : v.P.toNat ≤ v.PL.toNat) : postEntryTests fuel in55 v = .ok ((), v) := by
  have ho : v.stackOverflowed = false := by simpa [State.stackOverflowed] using hS
  have hq : v.outOfSequence = false := by simp [State.outOfSequence, h1, h2]
  cases fuel <;> (unfold postEntryTests; simp [ho, hq])

theorem takeTrap_apply {s : State} {t : Trap} {param : Option Word} (h : t ≠ .stackOverflow) :
    takeTrap t param s = (do
      trapEntry t (s.icsParam t param) s.P
      postEntryTests postEntryFuel false : M Unit) { s with prevDup := false } := by
  unfold takeTrap
  rw [M.modify_bind, M.get_bind, if_neg h]
  rfl

theorem takeTrap_overflow {s : State} {param : Option Word} :
    takeTrap .stackOverflow param s = (do
      icsTrapEntry .stackOverflow param s.P
      postEntryTests postEntryFuel false : M Unit) (({ s with prevDup := false } : State).setPending false) := by
  unfold takeTrap
  rw [M.modify_bind, M.get_bind, if_pos rfl, M.modify_bind]

/-- A trap whose entry is calm ends the step. -/
theorem conclude_calm {s s0 u v : State} {t : Trap} {param : Option Word} {m : M Unit}
    (ht : takeTrap t param s = (do m; postEntryTests postEntryFuel false : M Unit) u) (h : m u = .ok ((), v))
    (hc : v.S.toNat ≤ v.SL.toNat ∧ v.PB.toNat ≤ v.P.toNat ∧ v.P.toNat ≤ v.PL.toNat) :
    conclude s0 (takeTrap t param) s = .next v := by
  obtain ⟨hS, h1, h2⟩ := hc
  exact conclude_ok (ht.trans ((M.bind_ok h).trans (postEntryTests_calm hS h1 h2)))

/-- The state with the registers of a handler that has been entered (R601, R602). -/
def State.enteredAt (w : State) (target loc pl sp status : Word) : State :=
  { w with P := target, PB := loc, PL := pl, S := sp, STATUS := status }

/-- `trapEntry` from the marker on: the entry of segment 1, the parameter and the handler (R601). -/
theorem trapEntry_enters {s m v w : State} {t : Trap} {param count : Option Word} {ra e1 slot loc : Word} {pl : Int}
    (hm' : (s.keptFor t).marked ra = m) (he1 : m.word 0#32 + 16#32 = e1) (hloc' : v.word (e1 + 8#32) = loc)
    (hpl' : (loc.toNat : Int) + (v.word (e1 + 4#32)).toNat - 3 = pl)
    (hslot : wordOf pl - BitVec.ofNat 32 (4 * t.number) = slot) (hw' : v.withParam count (trapParam t param) = w)
    (hm : m.mem.wf = true) (hs : s.hasStack 0 4 = true) (h0 : m.hasWord 0#32 = true)
    (hl : (m.word 0#32).toNat + 16 < 2 ^ 29) (h1 : m.HasEntry1 e1) (hv : CountsMoved e1 m v)
    (hloc : loc.toNat < 2 ^ 29) (hlo : 0 ≤ pl) (hhi : pl < 2 ^ 29) (hq : v.hasWord (v.Q + 12#32) = true)
    (hsw : v.hasWord slot = true) (hc : count.isSome = true → v.hasWord (v.Q + 8#32) = true)
    (hb : bit (w.word slot) 0 = false)
    (ha : w.alignmentBug ((loc + (w.word slot &&& 0x3FFFFFFF#32)) &&& 0xFFFFFFFE#32) = false) :
    trapEntry t param ra count s = .ok ((), w.enteredAt
      ((loc + (w.word slot &&& 0x3FFFFFFF#32)) &&& 0xFFFFFFFE#32) loc (wordOf pl) (v.Q + 12#32)
      (if s.privileged || bit (v.word e1) 30 then 0x00020001#32 else 1#32)) := by
  subst hm' he1 hloc' hpl' hslot hw'
  have he := enterSegment1_ok hm h0 hl h1 hv hloc hlo hhi
  have hp : v.privileged = s.privileged := hv.privileged.trans
    (((s.keptFor t).privileged_marked ra).trans (s.privileged_keptFor t))
  rw [trapEntry_ok hs he hq hc, withParam_inSegment1]
  refine (enterHandler_ok ?_ ?_ ?_).trans ?_
  · exact hsw
  · exact hb
  · exact ha
  · rw [← hp]
    rfl

theorem CountsMoved.from {e1 : Word} {s : State} {c : BitVec 12} (hc : s.csn = c) (h0 : c ≠ 0#12) (h1 : c ≠ 1#12)
    (hcst : s.hasCst c = true) (hb : bit (s.word (s.cstOf c)) 0 = false)
    (hb1 : bit ((s.countedDown (s.cstOf c)).word e1) 0 = false) :
    CountsMoved e1 s ((s.countedDown (s.cstOf c)).countedUp e1) := by
  subst hc
  exact .fromOther h0 h1 hcst hb hb1

/-- Settles O48: the entry of a trap, the note-2 traps, and the entries of segment 1 and of its handler. -/
theorem trapEntrySavesTheContext : Obligations.TrapEntrySavesTheContext := by
  unfold Obligations.TrapEntrySavesTheContext
  refine ⟨fun s t param count ra => ?_, fun s s0 v t param => ?_, fun s t => ?_⟩
  · intro clears kept m e1 old o0 m1 countUp counted enters hwf hs h0 hl hw
    have hk : (s.keptFor t).marked ra = m := by
      have hkept : kept = if t.clearsPending then s.setPending false else s :=
        if_congr t.clearsPending_iff.symm rfl rfl
      unfold State.keptFor
      rw [← hkept]
    have hcsn : m.csn = s.csn := hk ▸ ((s.keptFor t).csn_marked ra).trans (s.csn_keptFor t)
    have hm0 : m.hasWord 0#32 = true := by
      rw [← hk, State.hasWord_congr (((s.keptFor t).marked_cfg ra).trans (s.cfg_keptFor t))]
      exact h0
    have hm : m.mem.wf = true :=
      hk ▸ s.keptFor_cases t (fun u => (u.marked ra).mem.wf = true) (s.wf_marked hwf hs)
        ((s.setPending false).wf_marked hwf hs) (((s.setPending false).setEM false).wf_marked hwf hs)
    have hup : counted = fun u => u.countedUp e1 := by
      funext u
      simp only [counted, countUp, State.countedUp, raised, setBit_reference]
    have hdown : m1 = m.countedDown old := rfl
    have h1 : m.HasEntry1 e1 := ⟨hw _ (by simp), hw _ (by simp), hw _ (by simp)⟩
    have holds (v : State) (hv : CountsMoved e1 m v) : enters v := by
      intro hloc hlo hhi hq hsw hc hb ha
      refine trapEntry_enters hk rfl rfl rfl rfl ?_ hm hs hm0 hl h1 hv hloc hlo hhi hq hsw hc hb ha
      rw [trapParam_eq]
      cases count <;> rfl
    rw [hup, hdown]
    refine ⟨fun h => holds _ (.inside (hcsn.trans h)), fun h hb => holds _ (.fromZero (hcsn.trans h) hb), ?_⟩
    intro hz hn hcst hb hb1
    exact holds _ (.from hcsn hz hn hcst hb hb1)
  · intro u negated stored calm
    have hp : s.icsParam t param = stored := by
      refine if_congr ?_ rfl rfl
      rw [Bool.and_eq_true, t.negatesOnIcs_iff]
    refine ⟨fun h => ⟨?_, fun he => ?_⟩, takeTrap_overflow, conclude_calm takeTrap_overflow⟩
    · exact hp ▸ takeTrap_apply h
    · exact conclude_calm (hp ▸ takeTrap_apply h) he
  · intro e1 old o0 s1 countUp counted enters slot target
    refine ⟨fun hm hl hw => ?_, enterHandler_ok⟩
    have hup : counted = fun u => u.countedUp e1 := by
      funext u
      simp only [counted, countUp, State.countedUp, raised, setBit_reference]
    have hdown : s1 = s.countedDown old := rfl
    have h1 : s.HasEntry1 e1 := ⟨hw _ (by simp), hw _ (by simp), hw _ (by simp)⟩
    have holds (v : State) (hv : CountsMoved e1 s v) : enters v := by
      intro hloc hlo hhi
      refine (enterSegment1_ok hm (hw _ (by simp)) hl h1 hv hloc hlo hhi).trans ?_
      have hp : v.privileged = s.privileged := hv.privileged
      rw [← hp]
      rfl
    rw [hup, hdown]
    refine ⟨fun h => holds _ (.inside h), fun h hb => holds _ (.fromZero h hb), ?_⟩
    intro hz hn hcst hb hb1
    exact holds _ (.from rfl hz hn hcst hb hb1)

end Sys2Proof.Machine

/-! The hardware reset and the moves of the other agents. -/

namespace Sys2Proof.Machine

/-! ## The hardware reset -/

/-- The state in which a reset has saved the context of a stack that is in use (R660). -/
def State.contextSaved (s : State) : State :=
  if s.SB = 0#32 then s
  else (s.marked s.P).putWord ((s.marked s.P).SB - 4#32) ((s.marked s.P).S - (s.marked s.P).SB)

/-- The CPU running and waiting for nothing, the address lockout enabled (R70, R660). -/
def State.woken (s : State) : State := { s with run := .running, prevDup := false, owned := [], lockout := true }

theorem State.marked_woken (s : State) (ra : Word) : s.woken.marked ra = (s.marked ra).woken := by
  simp only [State.marked, State.putWord, State.woken]

theorem State.marked_SB (s : State) (ra : Word) : (s.marked ra).SB = s.SB := by
  simp [State.marked]

theorem State.marked_MASK (s : State) (ra : Word) : (s.marked ra).MASK = s.MASK := by
  simp [State.marked]

theorem State.contextSaved_cfg (s : State) : s.contextSaved.cfg = s.cfg := by
  unfold State.contextSaved
  split
  · rfl
  · exact s.marked_cfg s.P

theorem State.contextSaved_MASK (s : State) : s.contextSaved.MASK = s.MASK := by
  unfold State.contextSaved
  split
  · rfl
  · exact s.marked_MASK s.P

theorem resetMarker_ok {s : State}
    (h : s.SB = 0#32 ∨ s.hasStack 0 4 = true ∧ s.hasWord (s.SB - 4#32) = true) :
    resetMarker s.woken = .ok ((), s.contextSaved.woken) := by
  have hSB : s.woken.SB = s.SB := rfl
  have hP : s.woken.P = s.P := rfl
  unfold resetMarker State.contextSaved
  rw [M.get_bind, hSB, hP]
  by_cases h0 : s.SB = 0#32
  · rw [if_neg (not_not.2 h0), if_pos h0]
    rfl
  · obtain ⟨hs, hw⟩ := h.resolve_left h0
    have hs' : s.woken.hasStack 0 4 = true := hs
    have hcfg := s.marked_cfg s.P
    rw [← s.marked_SB s.P] at hw
    rw [if_pos h0, if_neg h0, M.bind_ok (pushMarker_present hs'), s.marked_woken, M.get_bind]
    generalize s.marked s.P = m at hcfg hw ⊢
    have hw' : m.woken.hasWord (m.SB - 4#32) = true := (State.hasWord_congr hcfg _).trans hw
    exact writeWord_present hw'

/-- The base registers of the ICS, from the dedicated block of the CPU (R646, R647). -/
def State.onIcs (s : State) (block : Word) : State :=
  { s with
    Q := s.word (block + 8#32), SL := s.word (block + 12#32), SB := s.word (block + 8#32) - 259#32, icsFlag := true }

theorem wordOf_sub {a : Word} {n : Nat} : wordOf ((a.toNat : Int) - n) = a - BitVec.ofNat 32 n := by
  apply BitVec.eq_of_toNat_eq
  simp only [wordOf, BitVec.toNat_ofInt, BitVec.toNat_sub, BitVec.toNat_ofNat]
  omega

theorem loadIcs_ok {s : State} (h8 : s.hasWord (s.cpuBlock + 8#32) = true)
    (h12 : s.hasWord (s.cpuBlock + 12#32) = true) (hlo : 259 ≤ (s.word (s.cpuBlock + 8#32)).toNat)
    (hq : (s.word (s.cpuBlock + 8#32)).toNat < 2 ^ 29) (hl : (s.word (s.cpuBlock + 12#32)).toNat < 2 ^ 29) :
    loadIcs s = .ok ((), s.onIcs s.cpuBlock) := by
  have hsl : absAddress (s.word (s.cpuBlock + 12#32)).toNat s = .ok (s.word (s.cpuBlock + 12#32), s) :=
    (absAddress_add (n := 0) hl).trans (by simp)
  have hsb : absAddress ((s.word (s.cpuBlock + 8#32)).toNat - 259) s =
      .ok (s.word (s.cpuBlock + 8#32) - 259#32, s) := by
    rw [absAddress_ok (by omega) (by unfold addressSpace; omega)]
    exact congrArg (fun a => Except.ok (a, s)) wordOf_sub
  unfold loadIcs
  rw [M.get_bind, M.bind_ok (readQi_present h8 hq), M.bind_ok (readWord_present h12), M.bind_ok hsl, M.bind_ok hsb]
  rfl

/-- The context frame of a reset on the ICS (R660): MASK, and the external program pointer of the reset handler. -/
def State.resetFrame (s : State) (block mask : Word) : State :=
  ((s.onIcs block).putWord (s.word (block + 8#32) + 8#32) mask).putWord (s.word (block + 8#32) + 12#32) 0x80020001#32

/-- The last part of a reset: the registers of segment 1 and its handler (R660). -/
def enterReset : M Unit := do
  let base ← readWord 0#32
  let e1 ← cstAddress base 1
  let lx ← readExtent e1
  let pl ← segmentLimit lx.2 lx.1
  modify fun s =>
    { s with dispFlag := false, S := s.Q + 12#32, PB := lx.2, PL := pl,
             STATUS := setField (setBit 0#32 14 true) 20 12 1#12, secondary := s.cfg.rev != .fixed }
  let w ← readWord (pl - 32#32)
  jumpTo (lx.2 + pointerOffset w)

/-- A reset saves the context and makes its frame on the ICS (R660). -/
theorem hardwareReset_frame {s v : State} {block mask : Word} (hm : resetMarker s.woken = .ok ((), v))
    (hb : v.cpuBlock = block) (hM : v.MASK = mask)
    (h8 : v.hasWord (block + 8#32) = true) (h12 : v.hasWord (block + 12#32) = true)
    (hlo : 259 ≤ (v.word (block + 8#32)).toNat) (hq : (v.word (block + 8#32)).toNat < 2 ^ 29)
    (hl : (v.word (block + 12#32)).toNat < 2 ^ 29) (hq8 : v.hasWord (v.word (block + 8#32) + 8#32) = true)
    (hq12 : v.hasWord (v.word (block + 8#32) + 12#32) = true) :
    hardwareReset s = enterReset (v.resetFrame block mask) := by
  subst hb hM
  have hs : s.woken = { s with run := .running, prevDup := false, owned := [], lockout := true } := rfl
  have h1 : (v.onIcs v.cpuBlock).hasWord ((v.onIcs v.cpuBlock).Q + 8#32) = true := hq8
  have h2 : ((v.onIcs v.cpuBlock).putWord ((v.onIcs v.cpuBlock).Q + 8#32) v.MASK).hasWord
      ((v.onIcs v.cpuBlock).Q + 12#32) = true := hq12
  unfold hardwareReset
  rw [M.modify_bind, ← hs, M.bind_ok hm, M.bind_ok (loadIcs_ok h8 h12 hlo hq hl), M.bind_ok (saveMask_present h1),
    M.get_bind]
  refine (M.bind_ok (writeWord_present h2)).trans ?_
  rfl

/-- The state in which the reset handler of segment 1 starts (R660). -/
def State.atReset (u : State) (target loc pl : Word) : State :=
  { u with
    P := target, PB := loc, PL := pl, S := u.Q + 12#32, STATUS := 0x00020001#32, dispFlag := false,
    secondary := u.cfg.rev != .fixed }

theorem enterReset_ok {u : State} {entry loc : Word} {pl : Int} (he : u.word 0#32 + 16#32 = entry)
    (hloc : u.word (entry + 8#32) = loc) (hpl : (loc.toNat : Int) + (u.word (entry + 4#32)).toNat - 3 = pl)
    (h0 : u.hasWord 0#32 = true) (h4 : u.hasWord (entry + 4#32) = true) (h8 : u.hasWord (entry + 8#32) = true)
    (hl : (u.word 0#32).toNat + 16 < 2 ^ 29) (hlim : loc.toNat < 2 ^ 29) (hp0 : 0 ≤ pl) (hp1 : pl < 2 ^ 29)
    (hs : u.hasWord (wordOf pl - 32#32) = true)
    (ha : u.alignmentBug ((loc + (u.word (wordOf pl - 32#32) &&& 0x3FFFFFFF#32)) &&& 0xFFFFFFFE#32) = false) :
    enterReset u = .ok ((), u.atReset ((loc + (u.word (wordOf pl - 32#32) &&& 0x3FFFFFFF#32)) &&& 0xFFFFFFFE#32) loc
      (wordOf pl)) := by
  have hc : cstAddress (u.word 0#32) 1 u = .ok (entry, u) := he ▸ absAddress_add hl
  have hx : readExtent entry u = .ok ((u.word (entry + 4#32), loc), u) := hloc ▸ readExtent_ok h4 h8
  have hlimit : segmentLimit loc (u.word (entry + 4#32)) u = .ok (wordOf pl, u) :=
    (segmentLimit_ok_iff _ _ u u _).2 ⟨hlim, by rw [hpl]; exact ⟨hp0, hp1⟩, by rw [hpl], rfl⟩
  unfold enterReset
  rw [M.bind_ok (readWord_present h0), M.bind_ok hc, M.bind_ok hx, M.bind_ok hlimit, M.modify_bind, handlerStatus]
  have hs' : (u.atReset u.P loc (wordOf pl)).hasWord (wordOf pl - 32#32) = true := hs
  refine (M.bind_ok (readWord_present hs')).trans ?_
  rw [pointerOffset_mask]
  exact jumpTo_ok (s := u.atReset u.P loc (wordOf pl)) ha

/-! ## The moves -/

/-- The device is on a list (R640 (a)). -/
theorem State.listed_iff (s : State) (dev : Word) : s.listed dev = true ↔
    s.mem.half dev.toNat ≠ 0#16 ∨ ∃ l < 16, s.word (BitVec.ofNat 32 (1024 + 8 * l)) = dev := by
  simp [State.listed, tailAddress]

theorem requestInterrupt_listed {s : State} {level : BitVec 4} {dev : Word} (h : s.listed dev = true) :
    requestInterrupt level dev s = .ok ((), s) := by
  unfold requestInterrupt
  rw [M.get_bind, if_neg (by simp [h])]
  rfl

/-- The state in which a device is the last of its level's list and the level's bit is set (R640 (a)). -/
def State.requested (s : State) (level : Nat) (dev : Word) : State :=
  { s.putWord (tailAddress level) dev with MSG := setBit s.MSG (16 + level) true }

theorem requestInterrupt_first {s : State} {level : BitVec 4} {dev : Word} (h : s.listed dev = false)
    (ht : s.hasWord (tailAddress level.toNat) = true) (hh : s.hasWord (headAddress level.toNat) = true)
    (h0 : s.word (tailAddress level.toNat) = 0#32) :
    requestInterrupt level dev s =
      .ok ((), (s.putWord (headAddress level.toNat) dev).requested level.toNat dev) := by
  have ht' : (s.putWord (headAddress level.toNat) dev).hasWord (tailAddress level.toNat) = true := ht
  unfold requestInterrupt
  rw [M.get_bind, if_pos h, M.bind_ok (readWord_present ht), if_pos h0, M.bind_ok (writeWord_present hh)]
  exact (M.bind_ok (writeWord_present ht')).trans rfl

theorem requestInterrupt_next {s : State} {level : BitVec 4} {dev : Word} (h : s.listed dev = false)
    (ht : s.hasWord (tailAddress level.toNat) = true) (h0 : s.word (tailAddress level.toNat) ≠ 0#32)
    (hh : s.hasHalf (s.word (tailAddress level.toNat)) = true) :
    requestInterrupt level dev s =
      .ok ((), (s.putHalf (s.word (tailAddress level.toNat)) (field dev 16 16)).requested level.toNat dev) := by
  have ht' : (s.putHalf (s.word (tailAddress level.toNat)) (field dev 16 16)).hasWord (tailAddress level.toNat) =
      true := ht
  unfold requestInterrupt
  rw [M.get_bind, if_pos h, M.bind_ok (readWord_present ht), if_neg h0, M.bind_ok (writeHalf_present hh)]
  exact (M.bind_ok (writeWord_present ht')).trans rfl

theorem dedicated_iff (n : Nat) : dedicated n = true ↔ 16 ≤ n ∧ n < 0o2200 := by
  simp [dedicated]

/-- Settles O52: the reset, the moves, and the steps that make them. -/
theorem hardwareResetEntersTheHandler : Obligations.HardwareResetEntersTheHandler := by
  unfold Obligations.HardwareResetEntersTheHandler
  refine ⟨fun s => ?_, fun s t bits addr data v level channel periph m rest k moves => ?_⟩
  · intro m v block qi w entry loc pl slot target h hlo hq hsl hl hloc hp0 hp1 hw ha
    have hv : s.contextSaved = v := rfl
    have hmark := resetMarker_ok h
    have hM := s.contextSaved_MASK
    have hC := s.contextSaved_cfg
    rw [hv] at hmark hM hC
    clear_value v
    have hb : v.woken.cpuBlock = block := by
      change (field v.MASK 3 3).setWidth 32 * 16#32 = _
      rw [hM]
    have hword (a : Word) (h : s.hasWord a = true) : v.woken.hasWord a = true := (State.hasWord_congr hC a).trans h
    simp only [List.forall_mem_cons] at hw
    obtain ⟨h8, h12, hq8, hq12, h0, he4, he8, hs, -⟩ := hw
    have hframe := hardwareReset_frame hmark hb hM (hword _ h8) (hword _ h12) hlo hq hsl (hword _ hq8) (hword _ hq12)
    have henter := enterReset_ok (u := v.woken.resetFrame block s.MASK) (entry := entry) (loc := loc) (pl := pl) rfl rfl
      rfl (hword _ h0) (hword _ he4) (hword _ he8) hl hloc hp0 hp1 (hword _ hs) ha
    rw [hframe, henter, ← hC]
    rfl
  · intro dev tail head last link listed linked request next
    have hdev (h : ¬ listed) : s.listed dev = false := Bool.eq_false_iff.2 fun hl => h ((s.listed_iff dev).1 hl)
    refine ⟨rfl, ?_, ?_, ?_, ?_, ?_, ?_, rfl, ?_, ?_, ?_⟩
    · exact congrArg (fun msg => Except.ok ((), { s with SAR := addr, SDR := data, MSG := msg })) (setBit_true s.MSG 6)
    · exact fun hl => requestInterrupt_listed ((s.listed_iff dev).2 hl)
    · exact fun hl => requestInterrupt_first (hdev hl)
    · exact fun hl ht h0 hh => field_half dev ▸ requestInterrupt_next (hdev hl) ht h0 hh
    · intro h1 h2
      exact congrFun (if_pos ((dedicated_iff _).2 ⟨h1, h2⟩)) s
    · intro ha hb
      have hd : ¬ dedicated addr.toNat = true := fun h => by
        obtain ⟨h1, h2⟩ := (dedicated_iff _).1 h
        omega
      exact (congrFun (if_neg hd) s).trans (writeByte_present hb)
    · intro hi
      unfold step
      rw [hi]
    · intro hi hm
      unfold step
      rw [hi]
      exact conclude_ok hm
    · intro hi
      unfold step
      rw [hi]
      rfl

end Sys2Proof.Machine

/-! The loads through an effective address, the stack-indirect loads and stores, and the bytes that a store changes. -/

namespace Sys2Proof.Machine

variable {α : Type}

/-! ## From the evaluation of an operand to its instruction -/

/-- A note-2 trap of an evaluation that stops the body is taken with the registers of the start (R603). -/
theorem passesTraps_of_body {n : Nat} {d : Bool} {i : Instr} {b : M End} {m : M α} {k : α → M End} {s : State}
    (hx : exec i s = runBody n d (atomic b) s) (hb : b s = (m >>= k) s) : PassesTrapsOf i s m := by
  intro t p s1 h
  rw [hx]
  exact runBody_trap (atomic_trap (hb.trans (M.bind_error h)))

/-- A push leaves room for one word less (R11). -/
theorem State.pushed_hasStack {s : State} {n k : Nat} {v : Word} (h : s.hasStack n (k + 1) = true) :
    (s.pushed v).hasStack (n + 1) k = true := by
  have hl := State.hasStack_limit h (by omega)
  have hlim : (s.pushed v).S.toNat + 4 * k < addressSpace := by
    rw [State.pushed_S]
    unfold addressSpace at *
    bv_omega
  have hw : (s.pushed v).hasWords k (n + 1 + k) = true := by
    refine State.hasWords_of fun i hi => ?_
    have e : (s.pushed v).S + BitVec.ofNat 32 (4 * k) = s.S + BitVec.ofNat 32 (4 * (k + 1)) := by
      rw [State.pushed_S, Nat.mul_add, BitVec.ofNat_add]
      ring
    rw [e, State.hasWord_congr (s := s) (t := s.pushed v) rfl]
    exact State.hasWords_get (State.hasStack_words h) (by omega)
  unfold State.hasStack
  rw [decide_eq_true hlim, hw]
  simp

theorem push_room {s : State} {n k : Nat} {v : Word} (h : s.hasStack n (k + 1) = true) :
    push v s = .ok ((), s.pushed v) := by
  have := State.hasStack_limit h (by omega)
  exact push_present (State.hasStack_above h 1 (by omega) (by omega)) (by omega)

theorem pushAnswer_room {s : State} {n k : Nat} {v : Word} (h : s.hasStack n (k + 1) = true) :
    pushAnswer v s = .ok (done, (s.pushed v).setCC (ccWord v)) := by
  unfold pushAnswer
  rw [M.bind_ok (push_room h), putCC_bind, M.pure_apply]

/-! ## Loads -/

section
variable {s t : State} {e : Effective} {i x : Bool} {b : Base}

theorem loadWord_ok {off : Nat} (h : effective b off i x false 0 s = .ok (e, t)) (ht : t.hasStack 0 1 = true)
    (hw : t.hasWord e.addr = true) :
    loadWord b off i x s = .ok (done, (t.pushed (t.word e.addr)).setCC (ccWord (t.word e.addr))) := by
  unfold loadWord
  rw [M.bind_ok h, M.bind_ok (readWord_present hw), pushAnswer_room ht]

theorem loadDouble_passes {n off : Nat} {j : Instr}
    (hx : exec j s = runBody n false (atomic (loadDouble b off i x)) s) :
    PassesTrapsOf j s (effective b off i x false s.doubleSpan) :=
  passesTraps_of_body hx (by unfold loadDouble; rw [M.get_bind])

/-- The doubleword at E: its second word is read when the first has been pushed (R206). -/
theorem loadDouble_ok {off : Nat} (h : effective b off i x false s.doubleSpan s = .ok (e, t))
    (ht : t.hasStack 0 2 = true) (hw : t.hasWord e.addr = true) (hw4 : t.hasWord (e.addr + 4#32) = true) :
    let hi := t.word e.addr
    let lo := (t.pushed hi).word (e.addr + 4#32)
    loadDouble b off i x s = .ok (done, ((t.pushed hi).pushed lo).setCC (ccDouble (dword hi lo))) := by
  intro hi lo
  have h2 : (t.pushed hi).hasWord (e.addr + 4#32) = true := hw4
  unfold loadDouble
  rw [M.get_bind, M.bind_ok h, M.bind_ok (readWord_present hw), M.bind_ok (push_room ht),
    M.bind_ok (readWord_present h2), M.bind_ok (push_room (State.pushed_hasStack ht)), putCC_bind, M.pure_apply]

variable {off : BitVec 19}

theorem ldh_completes (h : effective b off.toNat i x false 0 s = .ok (e, t)) (ht : t.hasStack 0 1 = true)
    (hw : t.hasHalf e.addr = true) :
    let v := (t.mem.half (halfAlign e.addr).toNat).signExtend 32
    CompletesAs (.ldh i x b off) s ((t.pushed v).setCC (ccWord v)) :=
  completes32 rfl rfl (by simp) (by rw [M.bind_ok h, M.bind_ok (readHalf_present hw), pushAnswer_room ht]; rfl)
    (done_plain _)

theorem ldb_completes (h : effective b off.toNat i x false 0 s = .ok (e, t)) (ht : t.hasStack 0 1 = true)
    (hw : t.hasByte e.addr = true) :
    let v := t.byte e.addr.toNat
    CompletesAs (.ldb i x b off) s ((t.pushed (v.setWidth 32)).setCC (ccByte v)) :=
  completes32 rfl rfl (by simp)
    (by rw [M.bind_ok h, M.bind_ok (readByte_present hw), M.bind_ok (push_room ht), putCC_bind, M.pure_apply])
    (done_plain _)

theorem ldx_completes (h : effective b off.toNat i x false 0 s = .ok (e, t)) (hw : t.hasWord e.addr = true) :
    CompletesAs (.ldx i x b off) s ((t.putX (t.word e.addr)).setCC (ccWord (t.word e.addr))) :=
  completes32 rfl rfl (by simp) (by rw [M.bind_ok h, M.bind_ok (readWord_present hw)]; rfl) (done_plain _)

end

/-- Settles O11, one instruction at a time. -/
theorem loadsFetchTheOperandAtTheirAddress : Obligations.LoadsFetchTheOperandAtTheirAddress := by
  unfold Obligations.LoadsFetchTheOperandAtTheirAddress
  refine ⟨fun s t e i x b off n => ?_, fun s t e i x b off n => ?_⟩
  · intro at19 at8 put
    refine ⟨passesTraps_of_body rfl rfl, passesTraps_of_body rfl rfl, passesTraps_of_body rfl rfl,
      passesTraps_of_body rfl rfl, passesTraps_of_body rfl rfl, ?_, ?_, ldx_completes⟩
    · intro h ht hw
      exact completes16 rfl rfl (by simp) (loadWord_ok h ht hw) (done_plain _)
    · intro h ht
      exact ⟨fun hw => completes32 rfl rfl (by simp) (loadWord_ok h ht hw) (done_plain _), ldh_completes h ht,
        ldb_completes h ht⟩
  · intro span hi lo put at19 at8
    refine ⟨loadDouble_passes rfl, loadDouble_passes (n := 2) rfl, ?_⟩
    intro ht hw hw4
    exact ⟨fun h => completes32 rfl rfl (by simp) (loadDouble_ok h ht hw hw4) (done_plain _),
      fun h => completes16 rfl rfl (by simp) (loadDouble_ok h ht hw hw4) (done_plain _)⟩

end Sys2Proof.Machine

/-! What the evaluation of a pointer changes beside memory, and the end of an instruction that has modified memory. -/

namespace Sys2Proof.Machine

variable {α : Type}

/-! ## Pointer evaluation changes memory, MSG and the free words alone -/

theorem MemoryOnly.readExtent {a : Word} : MemoryOnly (readExtent a) :=
  MemoryOnly.readWord.bind fun _ => MemoryOnly.readWord.bind fun _ => .pure _

theorem MemoryOnly.readDstHead {seg : BitVec 12} : MemoryOnly (readDstHead seg) :=
  MemoryOnly.bind (MemoryOnly.get.bind fun _ => .absAddress) fun _ => MemoryOnly.acquire.bind fun _ =>
    MemoryOnly.readExtent.bind fun _ => .pure _

theorem MemoryOnly.readDst {seg : BitVec 12} : MemoryOnly (readDst seg) :=
  MemoryOnly.readDstHead.bind fun _ => MemoryOnly.readWord.bind fun _ => .pure _

theorem MemoryOnly.checkSegmentNumber {n : BitVec 11} {len : Word} : MemoryOnly (checkSegmentNumber n len) :=
  MemoryOnly.require.bind fun _ => .require

theorem MemoryOnly.nextLink {e : DstWords} {p : Word} {o : Int} : MemoryOnly (nextLink e p o) :=
  .ite (MemoryOnly.require.bind fun _ => .pure _) (MemoryOnly.require.bind fun _ => .pure _)

theorem MemoryOnly.walkChain {fuel : Nat} {p : Word} {o : Int} {linked : Bool} :
    MemoryOnly (walkChain fuel p o linked) := by
  induction fuel generalizing p o linked with
  | zero =>
    refine MemoryOnly.readDst.bind fun e => .ite (.pure _) ?_
    refine MemoryOnly.require.owning.bind fun _ => .ite (.pure _) ?_
    exact MemoryOnly.writeWord.bind fun _ => MemoryOnly.nextLink.bind fun _ => .error
  | succ n ih =>
    refine MemoryOnly.readDst.bind fun e => .ite (.pure _) ?_
    refine MemoryOnly.require.owning.bind fun _ => .ite (.pure _) ?_
    exact MemoryOnly.writeWord.bind fun _ => MemoryOnly.nextLink.bind fun _ => ih

theorem MemoryOnly.checkEntry {k : AccessKind} {w : Word} {m : M Unit} (h : MemoryOnly m) :
    MemoryOnly (checkEntry k w m) := by
  have hc : MemoryOnly (checkCount k w) := .require
  refine .ite (MemoryOnly.error.bind fun _ => ?_) ?_ <;>
    exact .ite (MemoryOnly.error.bind fun _ => .ite (h.bind fun _ => hc) hc) (.ite (h.bind fun _ => hc) hc)

theorem MemoryOnly.locateUnpaged {k : AccessKind} {c : ChainEnd} : MemoryOnly (locateUnpaged k c) :=
  (MemoryOnly.checkEntry .error).owning.bind fun _ => MemoryOnly.writeWord.bind fun _ =>
    MemoryOnly.bind (MemoryOnly.insist.bind fun _ => .pure _) fun _ => .pure _

theorem MemoryOnly.pagedEntry {k : AccessKind} {c : ChainEnd} {len : Word} : MemoryOnly (pagedEntry k c len) := by
  unfold Sys2Proof.Machine.pagedEntry
  split
  · exact .pure _
  · refine .ite ?_ (.pure _)
    exact MemoryOnly.writeWord.bind fun _ => MemoryOnly.require.bind fun _ =>
      MemoryOnly.checkSegmentNumber.bind fun _ => MemoryOnly.readDstHead.bind fun _ => MemoryOnly.require.owning.bind fun _ => .pure _

theorem MemoryOnly.readPte {e : DstHead} {page : Nat} : MemoryOnly (readPte e page) :=
  MemoryOnly.require.bind fun _ => MemoryOnly.absAddress.bind fun _ => MemoryOnly.acquire.bind fun _ => .pure _

theorem MemoryOnly.locatePaged {k : AccessKind} {c : ChainEnd} {len : Word} : MemoryOnly (locatePaged k c len) := by
  refine MemoryOnly.require.owning.bind fun _ => MemoryOnly.pagedEntry.bind fun pe => ?_
  have hc : MemoryOnly (checkCount k pe.2.w0) := .require
  refine (MemoryOnly.ite (MemoryOnly.error.bind fun _ => hc) hc).owning.bind fun _ => ?_
  refine (MemoryOnly.insist.bind fun _ => MemoryOnly.readPte).owning.bind fun _ => ?_
  refine MemoryOnly.writeWord.bind fun _ => MemoryOnly.readWord.bind fun _ => ?_
  refine (MemoryOnly.checkEntry .error).owning.bind fun _ => MemoryOnly.writeWord.bind fun _ => ?_
  exact MemoryOnly.bind (MemoryOnly.insist.bind fun _ => .pure _) fun _ => .pure _

theorem MemoryOnly.evalEds {p : Word} {k : AccessKind} : MemoryOnly (evalEds p k) :=
  MemoryOnly.get.bind fun _ => MemoryOnly.readWord.bind fun _ => MemoryOnly.checkSegmentNumber.bind fun _ =>
    MemoryOnly.walkChain.bind fun _ => .ite .locatePaged .locateUnpaged

theorem MemoryOnly.evalDsp {p : Word} {k : AccessKind} {lower : Nat} : MemoryOnly (evalDsp p k lower) :=
  MemoryOnly.get.bind fun _ => .ite .evalEds (MemoryOnly.require.bind fun _ => .pure _)

theorem MemoryOnly.evalPopped {p : Word} {x w : Bool} {span n : Nat} : MemoryOnly (evalPopped p x w span n) :=
  MemoryOnly.get.bind fun _ => MemoryOnly.evalDsp.bind fun _ => MemoryOnly.require.bind fun _ => .pure _

/-! ## The end of an instruction that has modified memory -/

/-- The tests at the end of an instruction whose trace event TV wants, when neither a User Trap nor an interrupt is due
(R620, R632). -/
theorem endTests_traced {t : State} {pointer count : Word} (hv : t.tv = true)
    (ho : (t.overflow && t.trapEnable) = false) (hi : t.interruptPending = false) :
    endTests { trace := some (pointer, count) } t = (do
      trapEntry .variableTrace (some pointer) t.P (some count)
      postEntryTests postEntryFuel false : M Unit) t := by
  obtain ⟨h3, h4⟩ := interruptPending_false hi
  unfold endTests entryItems
  simp only [M.bind_assoc_apply, M.get_bind, hv, ho, h3, h4, Option.isSome_some, Bool.and_self, Bool.false_eq_true,
    if_false]
  rfl

/-- An instruction whose body reports the bytes it has modified (R632). -/
theorem completesTraced_of_body {n : Nat} {d : Bool} {i : Instr} {m : M End} {s u : State} {pointer : Word}
    {count : Int} (hx : exec i s = runBody n d m s) (hl : i.ilen = n) (hd : decide (i = .dup) = d)
    (hb : m s = .ok (traced pointer count, u)) : CompletesTraced i s u pointer (wordOf count) := by
  refine ⟨fun hv => completes_of_body hx hl hd hb ⟨rfl, rfl, rfl, by simp [hv]⟩, fun hv ho hi => ?_⟩
  rw [hx, runBody_ok hb]
  subst hl hd
  exact conclude_congr (endTests_traced (t := u.advanced i) hv ho hi)

theorem completesTraced16 {i : Instr} {m : M End} {s u : State} {pointer : Word} {count : Int}
    (hx : exec i s = run16 m s) (hl : i.ilen = 2) (hd : i ≠ .dup) (hb : m s = .ok (traced pointer count, u)) :
    CompletesTraced i s u pointer (wordOf count) :=
  completesTraced_of_body hx hl (by simpa using hd) (atomic_ok hb)

theorem completesTraced32 {i : Instr} {m : M End} {s u : State} {pointer : Word} {count : Int}
    (hx : exec i s = run32 m s) (hl : i.ilen = 4) (hd : i ≠ .dup) (hb : m s = .ok (traced pointer count, u)) :
    CompletesTraced i s u pointer (wordOf count) :=
  completesTraced_of_body hx hl (by simpa using hd) (atomic_ok hb)

end Sys2Proof.Machine

/-! The stack-indirect loads and stores, LBIT and SBIT. -/

namespace Sys2Proof.Machine

variable {α : Type}

/-! ## Bits and pointers -/

/-- A bit that was set, and the others of the word. -/
theorem bit_setBit {w : Nat} (v : BitVec w) (n k : Nat) (b : Bool) (hn : n < w) (hk : k < w) :
    bit (setBit v n b) k = if k = n then b else bit v k := by
  rw [setBit, bit_setField v n 1 k _ (by omega) hk]
  by_cases h : k = n
  · subst h
    rw [if_pos (by omega), if_pos rfl, Nat.sub_self, bit_ofBool]
  · rw [if_neg (by omega), if_neg h]

/-- Words with the same bits are equal (R7). -/
theorem eq_of_bits {w : Nat} {v v' : BitVec w} (h : ∀ k < w, bit v k = bit v' k) : v = v' := by
  refine BitVec.eq_of_getLsbD_eq fun j hj => ?_
  have e : w - (w - 1 - j) - 1 = j := by omega
  have := h (w - 1 - j) (by omega)
  rwa [bit_eq_getElem, bit_eq_getElem, e] at this

/-- The byte offset of a bit offset, sign extended (R211). -/
theorem bitByteOffset_eq (v : Word) : bitByteOffset v = v.sshiftRight 3 := by
  unfold bitByteOffset field
  ext i hi
  interval_cases i <;> simp [BitVec.getElem_signExtend, BitVec.getElem_sshiftRight, BitVec.msb_eq_getLsbD_last]

/-- The bit inside the byte that a bit offset names (R211). -/
theorem field_bitOffset (v : Word) : (field v 29 3).toNat = v.toNat % 8 := by
  simp [field, BitVec.extractLsb'_toNat]

theorem ofBool_setWidth (b : Bool) : (BitVec.ofBool b).setWidth 32 = if b then 1#32 else (0#32 : Word) := by
  cases b <;> rfl

/-- A field taken over from another word, as masks (R7). -/
theorem setField_field {w : Nat} (p q : BitVec w) (n m : Nat) :
    setField p n m (field q n m) = (p &&& ~~~ fieldMask w n m) ||| (q &&& fieldMask w n m) := by
  have h : (field q n m).setWidth w <<< (w - n - m) = q &&& fieldMask w n m := by
    refine BitVec.eq_of_getLsbD_eq fun j hj => ?_
    by_cases hs : j < w - n - m
    · simp [fieldMask, hs]
    · have e : w - n - m + (j - (w - n - m)) = j := by omega
      simp [field, fieldMask, hs, e, hj, Bool.and_comm]
  rw [setField, h]

/-- The pointer that a trace event reports, as masks (R632, R102). -/
theorem Located.tracePointer_eq (l : Located) (p x : Word) :
    l.tracePointer p x =
      if bit p 0 then (p &&& 0xC0000000#32) ||| ((p + x) &&& 0x3FFFFFFF#32)
      else if l.paged then p + x else (p &&& 0xFFF80000#32) ||| ((p + x) &&& 0x7FFFF#32) := by
  have h30 : setField p 2 30 (field (p + x) 2 30) = (p &&& 0xC0000000#32) ||| ((p + x) &&& 0x3FFFFFFF#32) :=
    setField_field p (p + x) 2 30
  have h19 : setField p 13 19 (field (p + x) 13 19) = (p &&& 0xFFF80000#32) ||| ((p + x) &&& 0x7FFFF#32) :=
    setField_field p (p + x) 13 19
  rw [← h30, ← h19]
  rfl

/-! ## Loads -/

section
variable {s t : State} {l : Located} {b3 : Bool}

/-- What a stack-indirect instruction does before it evaluates its pointer, the j-th word, of the n it pops (R260). -/
theorem popPointer_run {n j : Nat} {f : Word → M α} (hc : s.canPop n = true)
    (hj : s.hasWord (s.S - BitVec.ofNat 32 (4 * j)) = true) :
    (checkPop n >>= fun _ => peek j >>= f) s = f (s.top j) s := by
  rw [M.bind_ok (checkPop_can hc), M.bind_ok (peek_present hj)]

theorem State.hasStack_top (h : s.hasStack 1 0 = true) : s.hasWord (s.S - BitVec.ofNat 32 (4 * 0)) = true :=
  State.hasStack_below h (by omega)

theorem loadIndirect_underflows (h : s.canPop 1 = false) :
    ∀ i ∈ [Instr.lsi b3, .lbsi b3, .lhsi b3, .ldsi b3], Raises i s .stackUnderflow none := by
  have key (k : Unit → M End) : (checkPop 1 >>= k) s = .error (.trap .stackUnderflow none s) :=
    M.bind_error (checkPop_cannot h)
  intro i hi
  simp only [List.mem_cons, List.not_mem_nil, or_false] at hi
  obtain rfl | rfl | rfl | rfl := hi
  all_goals exact raises16 rfl (key _)

theorem loadIndirect_passes (h : s.hasStack 1 0 = true) (hc : s.canPop 1 = true) :
    ∀ i ∈ [Instr.lsi b3, .lbsi b3, .lhsi b3], PassesTrapsOf i s (evalPopped (s.top 0) b3 false 0 1) := by
  intro i hi
  simp only [List.mem_cons, List.not_mem_nil, or_false] at hi
  obtain rfl | rfl | rfl := hi
  all_goals exact passesTraps_of_body rfl (popPointer_run hc (State.hasStack_top h))

theorem ldsi_passes (h : s.hasStack 1 0 = true) (hc : s.canPop 1 = true) :
    PassesTrapsOf (.ldsi b3) s (evalPopped (s.top 0) b3 false s.doubleSpan 1) :=
  passesTraps_of_body rfl ((popPointer_run hc (State.hasStack_top h)).trans (M.get_bind _ _))

/-- What the stack-indirect loads of one word have in common: the pointer on top, evaluated, leads to l. -/
structure LoadsThrough (s : State) (b3 : Bool) (span : Nat) (l : Located) (t : State) : Prop where
  stack : s.hasStack 1 0 = true
  pop : s.canPop 1 = true
  stackAfter : t.hasStack 1 0 = true
  address : evalPopped (s.top 0) b3 false span 1 s = .ok (l, t)

theorem LoadsThrough.tos {span : Nat} (h : LoadsThrough s b3 span l t) :
    t.hasWord (t.S - BitVec.ofNat 32 (4 * 0)) = true := State.hasStack_top h.stackAfter

/-- The common beginning of those loads. -/
theorem LoadsThrough.run (h : LoadsThrough s b3 0 l t) (f : Located → M End) :
    (checkPop 1 >>= fun _ => peek 0 >>= fun p => evalPopped p b3 false 0 1 >>= f) s = f l t := by
  rw [popPointer_run h.pop (State.hasStack_top h.stack), M.bind_ok h.address]

theorem lsi_completes (h : LoadsThrough s b3 0 l t) (hw : t.hasWord l.addr = true) :
    CompletesAs (.lsi b3) s ((t.putTop 0 (t.word l.addr)).setCC (ccWord (t.word l.addr))) :=
  completes16 rfl rfl (by simp) (by rw [h.run, M.bind_ok (readWord_present hw), answer_present h.tos]) (done_plain _)

theorem lhsi_completes (h : LoadsThrough s b3 0 l t) (hw : t.hasHalf l.addr = true) :
    let v := (t.mem.half (halfAlign l.addr).toNat).signExtend 32
    CompletesAs (.lhsi b3) s ((t.putTop 0 v).setCC (ccWord v)) :=
  completes16 rfl rfl (by simp) (by rw [h.run, M.bind_ok (readHalf_present hw), answer_present h.tos]; rfl)
    (done_plain _)

theorem lbsi_completes (h : LoadsThrough s b3 0 l t) (hw : t.hasByte l.addr = true) :
    CompletesAs (.lbsi b3) s
      ((t.putTop 0 ((t.byte l.addr.toNat).setWidth 32)).setCC (ccByte (t.byte l.addr.toNat))) :=
  completes16 rfl rfl (by simp)
    (by rw [h.run, M.bind_ok (readByte_present hw), M.bind_ok (poke_present h.tos), putCC_bind, M.pure_apply])
    (done_plain _)

theorem ldsi_completes (h : LoadsThrough s b3 s.doubleSpan l t) (ht : t.hasStack 1 1 = true)
    (hw : t.hasWord l.addr = true) (hw4 : t.hasWord (l.addr + 4#32) = true) :
    let hi := t.word l.addr
    let lo := t.word (l.addr + 4#32)
    CompletesAs (.ldsi b3) s (((t.putTop 0 hi).pushed lo).setCC (ccDouble (dword hi lo))) := by
  intro hi lo
  have ht' : (t.putTop 0 hi).hasStack 1 1 = true := ht
  refine completes16 rfl rfl (by simp) ?_ (done_plain _)
  refine (popPointer_run h.pop (State.hasStack_top h.stack)).trans ?_
  rw [M.get_bind, M.bind_ok h.address, M.bind_ok (readWord_present hw), M.bind_ok (readWord_present hw4),
    M.bind_ok (poke_present h.tos), M.bind_ok (push_room ht'), putCC_bind, M.pure_apply]

/-! ## LBIT -/

/-- The bit offset and the pointer of LBIT are read before the pop is tested (R211). -/
theorem lbit_run (h : s.hasStack 2 0 = true) (f : Word → Word → Unit → M α) :
    (insist true .bitIndexRequired >>= fun _ => peek 0 >>= fun boff => peek 1 >>= fun p => checkPop 2 >>= f boff p) s =
      (checkPop 2 >>= f (s.top 0) (s.top 1)) s := by
  rw [M.bind_ok (insist_true _ s), M.bind_ok (peek_present (State.hasStack_below h (by omega))),
    M.bind_ok (peek_present (State.hasStack_below h (by omega)))]

theorem lbit_underflows (h : s.hasStack 2 0 = true) (hc : s.canPop 2 = false) :
    Raises (.lbit true) s .stackUnderflow none :=
  raises16 rfl ((lbit_run h _).trans (M.bind_error (checkPop_cannot hc)))

/-- The body of LBIT from the evaluation of its pointer on, where its words can be popped (R211). -/
theorem lbit_evaluates (h : s.hasStack 2 0 = true) (hc : s.canPop 2 = true) (f : Word → Located → M α) :
    (insist true .bitIndexRequired >>= fun _ => peek 0 >>= fun boff => peek 1 >>= fun p => checkPop 2 >>= fun _ =>
      (modify fun s => { s with X := bitByteOffset boff } : M PUnit) >>= fun _ =>
        evalPopped p true false 0 2 >>= f boff) s =
      (evalPopped (s.top 1) true false 0 2 >>= f (s.top 0)) (s.putX ((s.top 0).sshiftRight 3)) := by
  rw [lbit_run h, M.bind_ok (checkPop_can hc), M.modify_bind, bitByteOffset_eq]
  rfl

theorem lbit_traps {tr : Trap} {q : Option Word} (h : s.hasStack 2 0 = true) (hc : s.canPop 2 = true)
    (he : evalPopped (s.top 1) true false 0 2 (s.putX ((s.top 0).sshiftRight 3)) = .error (.trap tr q t)) :
    TrapsFrom (.lbit true) s t tr q :=
  runBody_trap (atomic_trap ((lbit_evaluates h hc _).trans (M.bind_error he)))

theorem lbit_completes (h : s.hasStack 2 0 = true) (hc : s.canPop 2 = true)
    (he : evalPopped (s.top 1) true false 0 2 (s.putX ((s.top 0).sshiftRight 3)) = .ok (l, t))
    (ht : (t.popped 2).hasStack 0 1 = true) (hw : t.hasByte l.addr = true) :
    let v : Word := if bit (t.byte l.addr.toNat) ((s.top 0).toNat % 8) then 1#32 else 0#32
    CompletesAs (.lbit true) s (((t.popped 2).pushed v).setCC (ccWord v)) := by
  refine completes16 rfl rfl (by simp) ((lbit_evaluates h hc _).trans ?_) (done_plain _)
  rw [M.bind_ok he, M.bind_ok (readByte_present hw), dropWords_bind, pushAnswer_room ht, ofBool_setWidth,
    field_bitOffset]

end

/-- Settles O12, one instruction at a time. -/
theorem stackIndirectLoadsReplaceThePointer : Obligations.StackIndirectLoadsReplaceThePointer := by
  unfold Obligations.StackIndirectLoadsReplaceThePointer
  intro s t l b3 tr q p span put hi lo boff s1 theBit
  refine ⟨loadIndirect_underflows, lbit_underflows, fun h hc => ⟨loadIndirect_passes h hc, ldsi_passes h hc⟩, lbit_traps,
    fun h hc ht he => ?_, fun h hc ht he => ?_, lbit_completes⟩
  · have hl : LoadsThrough s b3 0 l t := ⟨h, hc, ht, he⟩
    exact ⟨lsi_completes hl, lhsi_completes hl, lbsi_completes hl⟩
  · exact ldsi_completes ⟨h, hc, State.hasStack_narrow ht, he⟩ ht

end Sys2Proof.Machine

/-! The stack-indirect stores and SBIT, and the bytes that a store changes. -/

namespace Sys2Proof.Machine

variable {α : Type}

/-! ## Stack-indirect stores -/

section
variable {s t u : State} {l : Located} {b3 : Bool}

/-- The index register is none of what the evaluation of a pointer changes. -/
theorem evalPopped_X {p : Word} {x w : Bool} {span n : Nat} (h : evalPopped p x w span n s = .ok (l, t)) :
    t.X = s.X := by
  rw [← MemoryOnly.evalPopped s l t h]
  rfl

/-- The trace event of a stack-indirect store, the index register being that of s (R632). -/
theorem tracedThrough_ok {p : Word} {count : Int} (hX : u.X = s.X) :
    tracedThrough l p b3 count u = .ok (traced (l.tracePointer p (if b3 then s.X else 0#32)) count, u) := by
  unfold tracedThrough
  rw [M.get_bind, hX, M.pure_apply]

theorem storeIndirect_underflows (h : s.canPop 2 = false) :
    ∀ i ∈ [Instr.ssi b3, .sbsi b3, .shsi b3], Raises i s .stackUnderflow none := by
  have key (k : Unit → M End) : (checkPop 2 >>= k) s = .error (.trap .stackUnderflow none s) :=
    M.bind_error (checkPop_cannot h)
  intro i hi
  simp only [List.mem_cons, List.not_mem_nil, or_false] at hi
  obtain rfl | rfl | rfl := hi
  all_goals exact raises16 rfl (key _)

theorem sdsi_underflows (h : s.canPop 3 = false) : Raises (.sdsi b3) s .stackUnderflow none :=
  raises16 rfl (M.bind_error (checkPop_cannot h))

/-- The pointer and the value of a stack-indirect store (R232). -/
theorem storeIndirect_run (h : s.hasStack 2 0 = true) (hc : s.canPop 2 = true) (f : Word → Word → M α) :
    (checkPop 2 >>= fun _ => peek 1 >>= fun p => peek 0 >>= f p) s = f (s.top 1) (s.top 0) s := by
  rw [popPointer_run hc (State.hasStack_below h (by omega)),
    M.bind_ok (peek_present (State.hasStack_below h (by omega)))]

theorem storeIndirect_passes (h : s.hasStack 2 0 = true) (hc : s.canPop 2 = true) :
    ∀ i ∈ [Instr.ssi b3, .sbsi b3, .shsi b3], PassesTrapsOf i s (evalPopped (s.top 1) b3 true 0 2) := by
  intro i hi
  simp only [List.mem_cons, List.not_mem_nil, or_false] at hi
  obtain rfl | rfl | rfl := hi
  all_goals exact passesTraps_of_body rfl (storeIndirect_run h hc _)

/-- What the stack-indirect stores of one word have in common: the pointer below the value, evaluated, leads to l. -/
structure StoresThrough (s : State) (b3 : Bool) (l : Located) (t : State) : Prop where
  stack : s.hasStack 2 0 = true
  pop : s.canPop 2 = true
  address : evalPopped (s.top 1) b3 true 0 2 s = .ok (l, t)

/-- The common frame of those stores, `put` being the store itself. -/
theorem StoresThrough.run (h : StoresThrough s b3 l t) {put : Word → Word → M Unit} {count : Int}
    (hp : put l.addr (s.top 0) t = .ok ((), u)) (hX : u.X = t.X) :
    (checkPop 2 >>= fun _ => peek 1 >>= fun p => peek 0 >>= fun v => evalPopped p b3 true 0 2 >>= fun l =>
      put l.addr v >>= fun _ => dropWords 2 >>= fun _ => tracedThrough l p b3 count) s =
      .ok (traced (l.tracePointer (s.top 1) (if b3 then s.X else 0#32)) count, u.popped 2) := by
  rw [storeIndirect_run h.stack h.pop, M.bind_ok h.address, M.bind_ok hp, dropWords_bind]
  exact tracedThrough_ok (hX.trans (evalPopped_X h.address))

theorem ssi_completes (h : StoresThrough s b3 l t) (hw : t.hasWord l.addr = true) :
    CompletesTraced (.ssi b3) s ((t.putWord l.addr (s.top 0)).popped 2)
      (l.tracePointer (s.top 1) (if b3 then s.X else 0#32)) 4#32 :=
  completesTraced16 (count := 4) rfl rfl (by simp) (h.run (writeWord_present hw) rfl)

theorem shsi_completes (h : StoresThrough s b3 l t) (hw : t.hasHalf l.addr = true) :
    CompletesTraced (.shsi b3) s ((t.putHalf l.addr ((s.top 0).setWidth 16)).popped 2)
      (l.tracePointer (s.top 1) (if b3 then s.X else 0#32)) 2#32 :=
  completesTraced16 (count := 2) rfl rfl (by simp)
    (h.run (put := fun a v => writeHalf a (field v 16 16)) (field_half (s.top 0) ▸ writeHalf_present hw) rfl)

theorem sbsi_completes (h : StoresThrough s b3 l t) (hw : t.hasByte l.addr = true) :
    CompletesTraced (.sbsi b3) s ((t.putByte l.addr ((s.top 0).setWidth 8)).popped 2)
      (l.tracePointer (s.top 1) (if b3 then s.X else 0#32)) 1#32 :=
  completesTraced16 (count := 1) rfl rfl (by simp)
    (h.run (put := fun a v => writeByte a (field v 24 8)) (field_byte (s.top 0) ▸ writeByte_present hw) rfl)

/-- The pointer and the doubleword of SDSI (R236). -/
theorem sdsi_run (h : s.hasStack 3 0 = true) (hc : s.canPop 3 = true) (f : Word → Word → Word → State → M α) :
    (checkPop 3 >>= fun _ => peek 2 >>= fun p => peek 1 >>= fun hi => peek 0 >>= fun lo => get >>= f p hi lo) s =
      f (s.top 2) (s.top 1) (s.top 0) s s := by
  rw [popPointer_run hc (State.hasStack_below h (by omega)),
    M.bind_ok (peek_present (State.hasStack_below h (by omega))),
    M.bind_ok (peek_present (State.hasStack_below h (by omega))), M.get_bind]

theorem sdsi_passes (h : s.hasStack 3 0 = true) (hc : s.canPop 3 = true) :
    PassesTrapsOf (.sdsi b3) s (evalPopped (s.top 2) b3 true s.doubleSpan 3) :=
  passesTraps_of_body rfl (sdsi_run h hc _)

theorem sdsi_completes (h : s.hasStack 3 0 = true) (hc : s.canPop 3 = true)
    (he : evalPopped (s.top 2) b3 true s.doubleSpan 3 s = .ok (l, t)) (hw : t.hasWord l.addr = true)
    (hw4 : t.hasWord (l.addr + 4#32) = true) :
    CompletesTraced (.sdsi b3) s (((t.putWord l.addr (s.top 1)).putWord (l.addr + 4#32) (s.top 0)).popped 3)
      (l.tracePointer (s.top 2) (if b3 then s.X else 0#32)) 8#32 := by
  have hw4' : (t.putWord l.addr (s.top 1)).hasWord (l.addr + 4#32) = true := hw4
  refine completesTraced16 (count := 8) rfl rfl (by simp) ((sdsi_run h hc _).trans ?_)
  rw [M.bind_ok he, M.bind_ok (writeWord_present hw), M.bind_ok (writeWord_present hw4'), dropWords_bind]
  have hX : t.X = s.X := evalPopped_X he
  exact tracedThrough_ok hX

/-! ## SBIT -/

/-- The value, the bit offset and the pointer of SBIT are read before the pop is tested (R239). -/
theorem sbit_run (h : s.hasStack 3 0 = true) (f : Word → Word → Word → Unit → M α) :
    (insist true .bitIndexRequired >>= fun _ => peek 0 >>= fun v => peek 1 >>= fun boff => peek 2 >>= fun p =>
      checkPop 3 >>= f v boff p) s = (checkPop 3 >>= f (s.top 0) (s.top 1) (s.top 2)) s := by
  rw [M.bind_ok (insist_true _ s), M.bind_ok (peek_present (State.hasStack_below h (by omega))),
    M.bind_ok (peek_present (State.hasStack_below h (by omega))),
    M.bind_ok (peek_present (State.hasStack_below h (by omega)))]

theorem sbit_underflows (h : s.hasStack 3 0 = true) (hc : s.canPop 3 = false) :
    Raises (.sbit true) s .stackUnderflow none :=
  raises16 rfl ((sbit_run h _).trans (M.bind_error (checkPop_cannot hc)))

/-- The body of SBIT from the evaluation of its pointer on, where its words can be popped (R239). -/
theorem sbit_evaluates (h : s.hasStack 3 0 = true) (hc : s.canPop 3 = true) (f : Word → Word → Word → Located → M α) :
    (insist true .bitIndexRequired >>= fun _ => peek 0 >>= fun v => peek 1 >>= fun boff => peek 2 >>= fun p =>
      checkPop 3 >>= fun _ => (modify fun s => { s with X := bitByteOffset boff } : M PUnit) >>= fun _ =>
      evalPopped p true true 0 3 >>= f v boff p) s =
      (evalPopped (s.top 2) true true 0 3 >>= f (s.top 0) (s.top 1) (s.top 2))
        (s.putX ((s.top 1).sshiftRight 3)) := by
  rw [sbit_run h, M.bind_ok (checkPop_can hc), M.modify_bind, bitByteOffset_eq]
  rfl

theorem sbit_traps {tr : Trap} {q : Option Word} (h : s.hasStack 3 0 = true) (hc : s.canPop 3 = true)
    (he : evalPopped (s.top 2) true true 0 3 (s.putX ((s.top 1).sshiftRight 3)) = .error (.trap tr q t)) :
    TrapsFrom (.sbit true) s t tr q :=
  runBody_trap (atomic_trap ((sbit_evaluates h hc _).trans (M.bind_error he)))

theorem sbit_completes (h : s.hasStack 3 0 = true) (hc : s.canPop 3 = true)
    (he : evalPopped (s.top 2) true true 0 3 (s.putX ((s.top 1).sshiftRight 3)) = .ok (l, t))
    (hw : t.hasByte l.addr = true) (new : Byte)
    (hn : ∀ m < 8, bit new m =
      if m = (s.top 1).toNat % 8 then bit (s.top 0) 31 else bit (t.byte l.addr.toNat) m) :
    CompletesTraced (.sbit true) s ((t.putByte l.addr new).popped 3)
      (l.tracePointer (s.top 2) ((s.top 1).sshiftRight 3)) 1#32 := by
  have hnew : new = setBit (t.byte l.addr.toNat) ((s.top 1).toNat % 8) (bit (s.top 0) 31) :=
    eq_of_bits fun k hk => (hn k hk).trans (bit_setBit _ _ _ _ (by omega) hk).symm
  refine completesTraced16 (count := 1) rfl rfl (by simp) ((sbit_evaluates h hc _).trans ?_)
  rw [M.bind_ok he, M.bind_ok (readByte_present hw), field_bitOffset, ← hnew, M.bind_ok (writeByte_present hw),
    dropWords_bind]
  have hX : t.X = (s.top 1).sshiftRight 3 := evalPopped_X he
  unfold tracedThrough
  rw [M.get_bind, State.popped_X, State.putByte_X, hX]
  rfl

end

/-- Settles O16, one instruction at a time. -/
theorem stackIndirectStoresWriteThroughThePointer : Obligations.StackIndirectStoresWriteThroughThePointer := by
  unfold Obligations.StackIndirectStoresWriteThroughThePointer
  intro s t l b3 tr q v span boff s1 old indexed xx ptr
  have hx (p x : Word) : l.tracePointer p x = indexed p x := l.tracePointer_eq p x
  refine ⟨storeIndirect_underflows, sdsi_underflows, sbit_underflows, storeIndirect_passes,
    fun h hc => ⟨sdsi_passes h hc, sbit_traps h hc⟩, fun h hc he => ?_, fun h hc he hw hw4 => ?_,
    fun h hc he hw new hn => ?_⟩
  · have hl : StoresThrough s b3 l t := ⟨h, hc, he⟩
    have hp : l.tracePointer (s.top 1) xx = ptr := hx _ _
    rw [← hp]
    exact ⟨ssi_completes hl, shsi_completes hl, sbsi_completes hl⟩
  · rw [← hx]
    exact sdsi_completes h hc he hw hw4
  · rw [← hx]
    exact sbit_completes h hc he hw new hn

/-! ## The bytes that a store changes -/

section
variable {s t t' : State}

theorem State.hasHalf_lt {a : Word} (h : s.hasHalf a = true) : (halfAlign a).toNat + 1 < addressSpace := by
  have hm := halfAlign_toNat_mod a
  have hl := ((s.present_iff _).1 h).1
  unfold addressSpace at *
  omega

theorem State.hasByte_lt {a : Word} (h : s.hasByte a = true) : a.toNat < addressSpace := ((s.present_iff _).1 h).1

theorem State.putWord_bytes {a v : Word} (w : s.mem.wf = true) (h : s.hasWord a = true) :
    SameBytesOutside s (s.putWord a v) (wordAlign a).toNat 4 :=
  fun n hn => Memory.read_writeWord_other _ n v hn w (State.hasWord_lt h)

theorem State.putHalf_bytes {a : Word} {v : Half} (w : s.mem.wf = true) (h : s.hasHalf a = true) :
    SameBytesOutside s (s.putHalf a v) (halfAlign a).toNat 2 :=
  fun n hn => Memory.read_writeHalf_other _ n v hn w (State.hasHalf_lt h)

theorem State.putByte_bytes {a : Word} {v : Byte} (w : s.mem.wf = true) :
    SameBytesOutside s (s.putByte a v) a.toNat 1 :=
  fun n hn => Memory.read_write_other a.toNat n v (by omega) w

/-- The word at a after it was stored (R80). -/
theorem State.word_putWord {a v : Word} (w : s.mem.wf = true) (h : s.hasWord a = true) : (s.putWord a v).word a = v :=
  Memory.word_writeWord_same _ v w (State.hasWord_lt h)

/-- A store of a word keeps the canonical form (R80). -/
theorem State.wf_putWord {a v : Word} (w : s.mem.wf = true) (h : s.hasWord a = true) :
    (s.putWord a v).mem.wf = true := Memory.wf_writeWord _ v (State.hasWord_lt h) w

/-- The bytes that an instruction leaves which completes as u are those of u. -/
theorem CompletesAs.sameBytes {i : Instr} {u v : State} {a n : Nat} (h : CompletesAs i s u)
    (hq : (u.advanced i).quiet = true) (hx : exec i s = .next t') (hb : SameBytesOutside t v a n) (hm : u.mem = v.mem) :
    SameBytesOutside t t' a n := by
  have e : (u.advanced i).setEM true = t' := by
    have := (h hq).symm.trans hx
    injection this
  intro k hk
  rw [← hb k hk, ← e]
  exact congrArg (Memory.read · k) hm

variable {e : Effective} {i x : Bool} {b : Base} {off : BitVec 19}

/-- What the stores through an effective address have in common (R230). -/
structure StoresTo (s : State) (i x : Bool) (b : Base) (off : Nat) (e : Effective) (t : State) : Prop where
  data : baseIsCode b = false
  address : effective b off i x true 0 s = .ok (e, t)
  stack : t.hasStack 1 0 = true
  pop : t.canPop 1 = true

/-- The common frame of those stores, `put` being the store itself. -/
theorem StoresTo.run {u : State} {off : Nat} (h : StoresTo s i x b off e t) {put : Word → Word → M Unit} {count : Int}
    (hp : put e.addr (t.top 0) t = .ok ((), u)) :
    (requireDataBase b >>= fun _ => effective b off i x true 0 >>= fun e => peek 0 >>= fun v => checkPop 1 >>= fun _ =>
      put e.addr v >>= fun _ => dropWords 1 >>= fun _ => pure (traced e.pointer count)) s =
      .ok (traced e.pointer count, u.popped 1) := by
  unfold requireDataBase
  rw [require_bind, if_pos (by simp [h.data]), M.bind_ok h.address,
    M.bind_ok (peek_present (State.hasStack_top h.stack)), M.bind_ok (checkPop_can h.pop), M.bind_ok hp, dropWords_bind,
    M.pure_apply]

theorem st_completes (h : StoresTo s i x b off.toNat e t) (hw : t.hasWord e.addr = true) :
    CompletesTraced (.st i x b off) s ((t.putWord e.addr (t.top 0)).popped 1) e.pointer 4#32 :=
  completesTraced32 (count := 4) rfl rfl (by simp) (h.run (writeWord_present hw))

theorem sth_completes (h : StoresTo s i x b off.toNat e t) (hw : t.hasHalf e.addr = true) :
    CompletesTraced (.sth i x b off) s ((t.putHalf e.addr ((t.top 0).setWidth 16)).popped 1) e.pointer 2#32 :=
  completesTraced32 (count := 2) rfl rfl (by simp)
    (h.run (put := fun a v => writeHalf a (field v 16 16)) (field_half (t.top 0) ▸ writeHalf_present hw))

theorem stb_completes (h : StoresTo s i x b off.toNat e t) (hw : t.hasByte e.addr = true) :
    CompletesTraced (.stb i x b off) s ((t.putByte e.addr ((t.top 0).setWidth 8)).popped 1) e.pointer 1#32 :=
  completesTraced32 (count := 1) rfl rfl (by simp)
    (h.run (put := fun a v => writeByte a (field v 24 8)) (field_byte (t.top 0) ▸ writeByte_present hw))

end

/-- Settles O47, from what memory reads after a write. -/
theorem storesChangeOnlyTheirBytes : Obligations.StoresChangeOnlyTheirBytes := by
  unfold Obligations.StoresChangeOnlyTheirBytes
  intro s t t' a v h c e i x b off w
  refine ⟨fun ha => ⟨State.putWord_bytes w ha, State.word_putWord w ha, State.wf_putWord w ha⟩,
    fun ha => ⟨State.putHalf_bytes w ha, Memory.half_writeHalf_same _ h w (State.hasHalf_lt ha),
      Memory.wf_writeHalf _ h (State.hasHalf_lt ha) w⟩,
    fun ha => ⟨State.putByte_bytes w, Memory.read_write_same _ c w, Memory.wf_write _ c (State.hasByte_lt ha) w⟩, ?_⟩
  intro hb he wt htv hs hc quietAfter
  have hst : StoresTo s i x b off.toNat e t := ⟨hb, he, State.hasStack_narrow hs, hc⟩
  refine ⟨fun hw hq hx => ?_, fun hw hq hx => ?_, fun hw hq hx => ?_⟩
  · exact ((st_completes hst hw).1 htv).sameBytes hq hx (State.putWord_bytes wt hw) rfl
  · exact ((sth_completes hst hw).1 htv).sameBytes hq hx (State.putHalf_bytes wt hw) rfl
  · exact ((stb_completes hst hw).1 htv).sameBytes hq hx (State.putByte_bytes wt) rfl

end Sys2Proof.Machine

/-! The unconditional branches BR and BRSI. -/

namespace Sys2Proof.Machine

variable {α : Type} {s : State}

/-! ## A pointer in memory -/

/-- There is memory at an address of 29 bits (R81). -/
theorem State.hasAddr_iff (a : Int) :
    s.hasAddr a = true ↔ 0 ≤ a ∧ a < addressSpace ∧ s.hasWord (wordOf a) = true := by
  simp [State.hasAddr, and_assoc]

/-- An unbounded sum that fits in a word is the word's value. -/
theorem wordOf_toNat {a : Int} (h0 : 0 ≤ a) (h1 : a < 2 ^ 32) : ((wordOf a).toNat : Int) = a := by
  simp only [wordOf, BitVec.toNat_ofInt]
  omega

theorem checkBounds_out {lo hi a : Int} (h : a < lo ∨ hi < a) :
    checkBounds lo hi a s = .error (.trap .boundsViolation none s) := by
  have : (decide (lo ≤ a) && decide (a ≤ hi)) = false := by
    simp only [Bool.and_eq_false_iff, decide_eq_false_iff_not]
    omega
  unfold checkBounds
  rw [this]
  rfl

theorem readPointer_out {b : Base} {a : Int} (h : a < s.baseLow b ∨ s.baseHigh b < a) :
    readPointer b a s = .error (.trap .boundsViolation none s) :=
  M.bind_error (checkBounds_out h)

theorem readPointer_ok {b : Base} {a : Int} (h : s.baseLow b ≤ a ∧ a ≤ s.baseHigh b) (ha : s.hasAddr a = true) :
    readPointer b a s = .ok (s.word (wordOf a), s) := by
  obtain ⟨h0, h1, hw⟩ := (State.hasAddr_iff a).1 ha
  have hb : boundsCheck b a s = .ok ((), s) := (checkBounds_ok_iff _ _ _ s s ()).2 ⟨h, rfl⟩
  unfold readPointer
  rw [M.bind_ok hb, M.bind_ok (absAddress_ok h0 h1 s), readWord_present hw]

/-- The aligned address of a word is the multiple of 4 below it (R82). -/
theorem wordAlign_toNat (a : Word) : (wordAlign a).toNat = a.toNat - a.toNat % 4 := by
  have h : wordAlign a = (a >>> 2) <<< 2 := by
    unfold wordAlign
    ext i hi
    interval_cases i <;> simp
  rw [h, BitVec.toNat_shiftLeft, BitVec.toNat_ushiftRight, Nat.shiftLeft_eq, Nat.shiftRight_eq_div_pow]
  omega

/-! ## Targets -/

theorem halfAlign_halfAlign (a : Word) : halfAlign (halfAlign a) = halfAlign a := by
  unfold halfAlign
  rw [BitVec.and_assoc, BitVec.and_self]

/-- The lowest bit of a target is dropped by the jump (R21). -/
theorem JumpsAs.of_halfAlign {i : Instr} {u : State} {a : Word} (h : JumpsAs i s u (halfAlign a)) :
    JumpsAs i s u a := by
  unfold JumpsAs State.jumped at *
  rwa [halfAlign_halfAlign] at h

/-! ## BR -/

section
variable {x : Bool} {b : Base} {off : BitVec 19}

/-- The address that BR names, indexed (R441). -/
def State.branchSpot (s : State) (b : Base) (off : Nat) (x : Bool) : Int :=
  s.baseAddr b off + (if x then s.X.toInt else 0)

theorem br_jumps {i : Bool} {a : Int} (h : branchTarget b off.toNat i x s = .ok (s.localPlan a, s)) :
    JumpsAs (.br i x b off) s s (wordOf a) :=
  .of_halfAlign (jumps_of_body (n := 4) rfl (atomic_ok (M.bind_ok h)) rfl rfl rfl (by simp))

theorem br_direct (h : baseIsCode b = true) :
    JumpsAs (.br false x b off) s s (wordOf (s.branchSpot b off.toNat x)) := by
  refine br_jumps ?_
  unfold branchTarget
  rw [M.get_bind]
  simp only [h, if_true]
  rfl

theorem br_violates (h : baseIsCode b = false) : Raises (.br false x b off) s .branchViolation none := by
  refine raises32 rfl (M.bind_error ?_)
  unfold branchTarget
  rw [M.get_bind]
  simp only [h, Bool.false_eq_true, if_false]
  rfl

theorem br_indirect_code (h : baseIsCode b = true) :
    branchTarget b off.toNat true x s = (readPointer b (s.branchSpot b off.toNat x) >>= fun w =>
      pure (s.localPlan (s.branchSpot b off.toNat x + w.toInt))) s := by
  unfold branchTarget
  rw [M.get_bind]
  simp only [h, if_true]
  rfl

theorem br_indirect_data (h : baseIsCode b = false) :
    branchTarget b off.toNat true x s =
      (readPointer b (s.branchSpot b off.toNat x) >>= fun p => planTransfer p .branch) s := by
  unfold branchTarget
  rw [M.get_bind]
  simp only [h, Bool.false_eq_true, if_false]
  rfl

theorem br_out (h : s.branchSpot b off.toNat x < s.baseLow b ∨ s.baseHigh b < s.branchSpot b off.toNat x) :
    Raises (.br true x b off) s .boundsViolation none := by
  refine raises32 rfl (M.bind_error ?_)
  cases hb : baseIsCode b
  · rw [br_indirect_data hb]
    exact M.bind_error (readPointer_out h)
  · rw [br_indirect_code hb]
    exact M.bind_error (readPointer_out h)

theorem br_relative (hb : baseIsCode b = true)
    (hp : readPointer b (s.branchSpot b off.toNat x) s = .ok (s.word (wordOf (s.branchSpot b off.toNat x)), s)) :
    JumpsAs (.br true x b off) s s
      (wordOf (s.branchSpot b off.toNat x + (s.word (wordOf (s.branchSpot b off.toNat x))).toInt)) := by
  refine br_jumps ?_
  rw [br_indirect_code hb, M.bind_ok hp]
  rfl

theorem br_transfers {p : Word} (hb : baseIsCode b = false)
    (hp : readPointer b (s.branchSpot b off.toNat x) s = .ok (p, s)) :
    TransfersThrough (.br true x b off) s p .branch id := by
  have hplan : branchTarget b off.toNat true x s = planTransfer p .branch s := by
    rw [br_indirect_data hb, M.bind_ok hp]
  refine ⟨fun t q s1 h => ?_, fun g t u hg hu => ?_⟩
  · exact runBody_trap (n := 4) (d := false) (atomic_trap (M.bind_error (hplan.trans h)))
  · refine jumps_of_body (n := 4) (e := { jump := some g.target }) rfl (atomic_ok ?_) rfl rfl rfl (by simp)
    rw [M.bind_ok (hplan.trans hg)]
    exact M.bind_ok hu

end

/-! ## BRSI -/

section
variable {x : Bool}

/-- The stack address that holds the pointer of BRSI (R443). -/
def State.stackSpot (s : State) (x : Bool) : Int := (s.S.toNat : Int) + (if x then s.X.toInt else 0)

theorem stackSpot_eq (s : State) (x : Bool) : s.baseAddr .sMinus 0 + s.indexOf x = s.stackSpot x := by
  simp [State.baseAddr, State.stackSpot, State.indexOf]

theorem brsi_out (h : s.stackSpot x < s.SB.toNat ∨ (s.S.toNat : Int) < s.stackSpot x) :
    Raises (.brsi x) s .boundsViolation none := by
  refine raises16 rfl ?_
  rw [M.get_bind, stackSpot_eq]
  exact M.bind_error (readPointer_out h)

/-- What BRSI does with its pointer (R443). -/
def branchThrough (p : Word) : M End := do
  let t ← planTransfer p .branch
  t.during (checkPop 1)
  dropWords 1
  commitTransfer t
  pure { jump := some t.target }

/-- An instruction does what the body does that its own one comes to. -/
theorem runBody_congr {n : Nat} {d : Bool} {m m' : M End} (h : m s = m' s) :
    runBody n d (atomic m) s = runBody n d (atomic m') s := by
  unfold runBody atomic
  rw [h]

theorem brsi_apply {p : Word} (hp : readPointer .sMinus (s.stackSpot x) s = .ok (p, s))
    (hr : s.cfg.rev = .le33 → bit p 0 = false) : exec (.brsi x) s = runBody 2 false (atomic (branchThrough p)) s := by
  have hi : (s.cfg.rev != .le33 || !bit p 0) = true := by
    by_cases h : s.cfg.rev = .le33
    · simp [hr h]
    · simp [h]
  refine runBody_congr ?_
  rw [M.get_bind, stackSpot_eq, M.bind_ok hp, hi, M.bind_ok (insist_true _ s)]
  rfl

/-- The pop that fails after the tests of an external pointer finds the entry given back (R133, R260). -/
theorem during_underflows {p : Word} {k : TransferKind} {g : TransferPlan} {e : Word} (hc : s.canPop 1 = false)
    (hb : bit p 0 = true) (hx : s.HasCst (field p 20 12)) (he : s.cstOf (field p 20 12) = e)
    (hp : planTransfer p k s = .ok (g, s.taken e)) :
    g.during (checkPop 1) (s.taken e) = .error (.trap .stackUnderflow none ((s.taken e).withWord e (s.word e))) := by
  subst he
  obtain ⟨seg, hg, he, hw⟩ := planTransfer_segment hb hx hp
  unfold TransferPlan.during SegmentPlan.during
  rw [hg]
  simp only [he, hw]
  exact owning_trap (checkPop_cannot hc)

variable {p : Word} (hx : exec (.brsi x) s = runBody 2 false (atomic (branchThrough p)) s)

include hx

theorem brsi_traps {t : Trap} {q : Option Word} {u : State} (h : branchThrough p s = .error (.trap t q u)) :
    exec (.brsi x) s = conclude s (takeTrap t q) (s.unwound u) :=
  hx.trans (runBody_trap (atomic_trap h))

theorem brsi_transfers (hc : s.canPop 1 = true) : TransfersThrough (.brsi x) s p .branch (·.popped 1) := by
  refine ⟨fun t q s1 h => brsi_traps hx (M.bind_error h), fun g t u hg hu => ?_⟩
  have hc' : t.canPop 1 = true := planTransfer_unwound hg ▸ hc
  refine jumps_of_body (e := { jump := some g.target }) hx (atomic_ok ?_) rfl rfl rfl (by simp)
  unfold branchThrough
  rw [M.bind_ok hg, M.bind_ok (TransferPlan.during_ok (checkPop_can hc')), dropWords_bind, M.bind_ok hu, M.pure_apply]

theorem brsi_underflows (hc : s.canPop 1 = false) : UnderflowsAfterPlan (.brsi x) s p .branch := by
  have hlocal (hb : bit p 0 = false) : Raises (.brsi x) s .stackUnderflow none :=
    brsi_traps hx ((M.bind_ok (planTransfer_local hb)).trans (M.bind_error (checkPop_cannot hc)))
  refine ⟨hlocal, fun w hcst g hp => ?_⟩
  cases hb : bit p 0
  · exact hlocal hb
  · have hc' := (s.hasCst_iff _).1 hcst
    have := brsi_traps hx ((M.bind_ok hp).trans (M.bind_error (during_underflows hc hb hc' rfl hp)))
    rwa [State.taken_back w hc'.first] at this

end

/-- The stack address of BRSI has 29 bits where there is memory for its word (R81). -/
theorem stackSpot_hasAddr {x : Bool} (h0 : (s.SB.toNat : Int) ≤ s.stackSpot x) (h1 : s.stackSpot x ≤ s.S.toNat)
    (hw : s.hasWord (wordOf (s.stackSpot x)) = true) : s.hasAddr (s.stackSpot x) = true := by
  have hn := wordOf_toNat (a := s.stackSpot x) (by omega) (by omega)
  refine (State.hasAddr_iff _).2 ⟨by omega, ?_, hw⟩
  have hl := State.hasWord_lt hw
  rw [wordAlign_toNat] at hl
  omega

/-- Settles O25, one instruction at a time. -/
theorem unconditionalBranches : Obligations.UnconditionalBranches := by
  unfold Obligations.UnconditionalBranches
  intro s i x b off xx loc p spot q
  refine ⟨fun hb hi => ?_, fun hb hi => ?_, fun hi ho => ?_, fun hi h0 h1 ha => ?_, brsi_out, fun h0 h1 hw hr => ?_⟩
  · subst hi
    exact br_direct hb
  · subst hi
    exact br_violates hb
  · subst hi
    exact br_out ho
  · subst hi
    have hp : readPointer b loc s = .ok (p, s) := readPointer_ok ⟨h0, h1⟩ ha
    exact ⟨fun hb => br_relative hb hp, fun hb => br_transfers hb hp⟩
  · have hp : readPointer .sMinus spot s = .ok (q, s) := readPointer_ok ⟨h0, h1⟩ (stackSpot_hasAddr h0 h1 hw)
    exact ⟨brsi_transfers (brsi_apply hp hr), brsi_underflows (brsi_apply hp hr)⟩

end Sys2Proof.Machine

/-! Table entries and their semaphores: what the pieces of the evaluation of an external pointer do. -/

namespace Sys2Proof.Machine

variable {α : Type} {s : State}

/-! ## Fields of fields -/

/-- A bit of a field (R7). -/
theorem bit_field {w : Nat} (v : BitVec w) {n m k : Nat} (h : n + m ≤ w) (hk : k < m) :
    bit (field v n m) k = bit v (n + k) := by
  have e : w - n - m + (m - k - 1) = w - (n + k) - 1 := by omega
  have hk' : m - k - 1 < m := by omega
  simp [bit, field, e, hk']

/-- A field of a field (R7). -/
theorem field_field {w : Nat} (v : BitVec w) {n m i j : Nat} (h : n + m ≤ w) (hj : i + j ≤ m) :
    field (field v n m) i j = field v (n + i) j := by
  refine eq_of_bits fun k hk => ?_
  rw [bit_field _ hj hk, bit_field _ h (by omega), bit_field _ (by omega) hk, Nat.add_assoc]

/-- Words that agree in a field agree in the fields inside it. -/
theorem field_inner {w : Nat} {v v' : BitVec w} {n m : Nat} (i j : Nat) (e : field v n m = field v' n m) (h : n + m ≤ w)
    (hj : i + j ≤ m) : field v (n + i) j = field v' (n + i) j := by
  rw [← field_field v h hj, e, field_field v' h hj]

/-! ## Words apart -/

/-- Words whose aligned addresses differ do not touch each other (R82). -/
theorem State.word_putWord_other {a b v : Word} (w : s.mem.wf = true) (h : s.hasWord a = true)
    (hne : wordAlign b ≠ wordAlign a) : (s.putWord a v).word b = s.word b := by
  have ha := wordAlign_toNat_mod a
  have hb := wordAlign_toNat_mod b
  have hn : (wordAlign b).toNat ≠ (wordAlign a).toNat := fun e => hne (BitVec.eq_of_toNat_eq e)
  exact Memory.word_writeWord_other _ _ v (by omega) w (State.hasWord_lt h)

/-- The word at an aligned distance is another one. -/
theorem wordAlign_add_ne (a : Word) {d : Nat} (h0 : 0 < d) (h4 : d % 4 = 0) (h : d < 2 ^ 32) :
    wordAlign (a + BitVec.ofNat 32 d) ≠ wordAlign a := by
  intro e
  have := congrArg BitVec.toNat e
  rw [wordAlign_toNat, wordAlign_toNat, BitVec.toNat_add, BitVec.toNat_ofNat] at this
  omega

/-- Stores to words apart commute. -/
theorem State.putWord_comm {a b v v' : Word} (w : s.mem.wf = true) (ha : s.hasWord a = true) (hb : s.hasWord b = true)
    (hne : wordAlign b ≠ wordAlign a) : (s.putWord a v).putWord b v' = (s.putWord b v').putWord a v := by
  have hma := wordAlign_toNat_mod a
  have hmb := wordAlign_toNat_mod b
  have hn : (wordAlign b).toNat ≠ (wordAlign a).toNat := fun e => hne (BitVec.eq_of_toNat_eq e)
  have la := State.hasWord_lt ha
  have lb := State.hasWord_lt hb
  have wa := Memory.wf_writeWord (wordAlign a).toNat v la w
  have wb := Memory.wf_writeWord (wordAlign b).toNat v' lb w
  have hm : (s.mem.writeWord (wordAlign a).toNat v).writeWord (wordAlign b).toNat v' =
      (s.mem.writeWord (wordAlign b).toNat v').writeWord (wordAlign a).toNat v := by
    refine Memory.wf_ext (Memory.wf_writeWord _ _ lb wa) (Memory.wf_writeWord _ _ la wb) fun n => ?_
    by_cases h1 : (wordAlign a).toNat ≤ n ∧ n < (wordAlign a).toNat + 4
    · rw [Memory.read_writeWord_other _ _ _ (by omega) wa lb]
      refine Memory.read_of_word_eq ?_ h1.1 h1.2
      rw [Memory.word_writeWord_same _ _ w la, Memory.word_writeWord_same _ _ wb la]
    · rw [Memory.read_writeWord_other _ _ v (by omega) wb la]
      by_cases h2 : (wordAlign b).toNat ≤ n ∧ n < (wordAlign b).toNat + 4
      · refine Memory.read_of_word_eq ?_ h2.1 h2.2
        rw [Memory.word_writeWord_same _ _ wa lb, Memory.word_writeWord_same _ _ w lb]
      · rw [Memory.read_writeWord_other _ _ v' (by omega) wa lb, Memory.read_writeWord_other _ _ v' (by omega) w lb,
          Memory.read_writeWord_other _ _ v (by omega) w la]
  unfold State.putWord
  rw [hm]

/-- Storing the word that is there changes nothing. -/
theorem State.putWord_self {a : Word} (w : s.mem.wf = true) (h : s.hasWord a = true) : s.putWord a (s.word a) = s := by
  rw [← State.putWord_twice (v := 0#32) w h]
  unfold State.putWord
  have : (s.mem.writeWord (wordAlign a).toNat 0#32).writeWord (wordAlign a).toNat (s.word a) = s.mem :=
    Memory.writeWord_back w (State.hasWord_lt h)
  rw [this]

theorem State.withWord_present {a v : Word} (h : s.hasWord a = true) : s.withWord a v = s.putWord a v := by
  obtain ⟨hn, hh⟩ := (s.present_iff _).1 h
  unfold State.withWord
  rw [if_neg (by simp [hh, hn])]
  rfl

/-! ## An entry that is owned -/

/-- An owned entry that is given back with the word v, by a store or by a trap (R124, R133). -/
theorem State.taken_put {e v : Word} (w : s.mem.wf = true) (h : s.hasWord e = true) :
    (s.taken e).putWord e v = s.putWord e v := State.putWord_twice w h

theorem release_taken {e v : Word} (w : s.mem.wf = true) (h : s.hasWord e = true) :
    release e v (s.taken e) = .ok ((), s.putWord e v) := by
  rw [release_present (by exact h), State.taken_put w h]

/-- A trap while an entry is owned finds it given back (R133). -/
theorem owning_taken {e v : Word} {m : M α} {t : Trap} {p : Option Word} (w : s.mem.wf = true) (h : s.hasWord e = true)
    (hm : m (s.taken e) = .error (.trap t p (s.taken e))) :
    owning e v m (s.taken e) = .error (.trap t p (s.putWord e v)) := by
  rw [owning_trap hm, State.withWord_present (by exact h), State.taken_put w h]

/-- A test that is made while an entry is owned. -/
theorem owning_require_bind {e v : Word} {c : Bool} {t : Trap} {p : Option Word} {f : Unit → M α} (w : s.mem.wf = true)
    (h : s.hasWord e = true) :
    (owning e v (require c t p) >>= f) (s.taken e) =
      if c then f () (s.taken e) else .error (.trap t p (s.putWord e v)) := by
  cases c
  · exact M.bind_error (owning_taken w h (require_false t p _))
  · exact M.bind_ok (owning_ok (require_true t p _))

/-! ## A DST entry -/

/-- The head of the DST entry at e (R136). -/
def State.dstHead (s : State) (e : Word) : DstHead :=
  { addr := e, w0 := s.word e, lenM1 := s.word (e + 4#32), loc := s.word (e + 8#32) }

/-- The words of the DST entry at e (R136). -/
def State.dstWords (s : State) (e : Word) : DstWords := { toDstHead := s.dstHead e, link := s.word (e + 12#32) }

/-- The entry of a data segment number stands at e, with memory for its first n words, and nobody owns it (R137,
R140). -/
structure State.DstAt (s : State) (seg : BitVec 12) (e : Word) (n : Nat) : Prop where
  entry : s.dstBase seg + BitVec.ofNat 32 (16 * (field seg 1 11).toNat) = e
  limit : (s.dstBase seg).toNat + 16 * (field seg 1 11).toNat < addressSpace
  words : ∀ k < n, s.hasWord (e + BitVec.ofNat 32 (4 * k)) = true
  free : bit (s.word e) 0 = false

theorem State.DstAt.first {seg : BitVec 12} {e : Word} {n : Nat} (h : s.DstAt seg e (n + 1)) : s.hasWord e = true := by
  simpa using h.words 0 (by omega)

theorem readDstHead_at {seg : BitVec 12} {e : Word} {n : Nat} (w : s.mem.wf = true) (h : s.DstAt seg e (n + 3)) :
    readDstHead seg s = .ok (s.dstHead e, s.taken e) := by
  have h0 : s.hasWord e = true := h.first
  have h4 : (s.taken e).word (e + 4#32) = s.word (e + 4#32) :=
    State.word_putWord_other w h0 (wordAlign_add_ne e (d := 4) (by omega) rfl (by omega))
  have h8 : (s.taken e).word (e + 8#32) = s.word (e + 8#32) :=
    State.word_putWord_other w h0 (wordAlign_add_ne e (d := 8) (by omega) rfl (by omega))
  obtain ⟨rfl, hl, hw, hf⟩ := h
  rw [readDstHead_free hl (fun k hk => hw k (by omega)) hf, h4, h8]
  rfl

theorem readDst_at {seg : BitVec 12} {e : Word} (w : s.mem.wf = true) (h : s.DstAt seg e 4) :
    readDst seg s = .ok (s.dstWords e, s.taken e) := by
  have h12 : (s.taken e).word (e + 12#32) = s.word (e + 12#32) :=
    State.word_putWord_other w h.first (wordAlign_add_ne e (d := 12) (by omega) rfl (by omega))
  have hw : (s.taken e).hasWord (e + 12#32) = true := h.words 3 (by omega)
  refine (M.bind_ok (readDstHead_at (n := 1) w h)).trans ((M.bind_ok (readWord_present hw)).trans ?_)
  exact congrArg (fun v => Except.ok (({ toDstHead := s.dstHead e, link := v } : DstWords), s.taken e)) h12

/-! ## The walk over a chain -/

/-- Where the walk goes on from an entry that does not contain the offset (R112). -/
theorem nextLink_cases {e : DstWords} {p : Word} {o : Int} :
    nextLink e p o s =
      if bit e.link 0 = false then
        if field e.link 1 12 = 0#12 then .error (.trap .edsBoundsViolation none s)
        else .ok ((setField p 1 12 (field e.link 1 12), o - (e.lenM1.toNat + 1)), s)
      else if ((field e.link 1 12).toNat : Int) < (field p 1 12).toNat + o / (e.lenM1.toNat + 1) then
        .error (.trap .edsBoundsViolation none s)
      else .ok ((setField p 1 12 (BitVec.ofInt 12 ((field p 1 12).toNat + o / (e.lenM1.toNat + 1))),
        o % (e.lenM1.toNat + 1)), s) := by
  unfold nextLink
  cases hc : bit e.link 0
  · simp only [if_true, require_bind, M.pure_apply]
    by_cases h : field e.link 1 12 = 0#12 <;> simp [h]
  · simp only [Bool.true_eq_false, if_false, require_bind, M.pure_apply]
    by_cases h : ((field e.link 1 12).toNat : Int) < (field p 1 12).toNat + o / (e.lenM1.toNat + 1)
    · rw [if_neg (by simpa using h), if_pos h]
    · rw [if_pos (by simpa using h), if_neg h]

/-- What the walk does after an entry that it has passed (R112). -/
def walkOn : Nat → Word × Int → M ChainEnd
  | 0, _ => raise .edsBoundsViolation
  | fuel + 1, next => walkChain fuel next.1 next.2 true

/-- One turn of the walk over a chain, from an entry that nobody owns (R111, R112). -/
theorem walkChain_at {fuel : Nat} {p e : Word} {o : Int} {linked : Bool} (w : s.mem.wf = true)
    (h : s.DstAt (field p 1 12) e 4) :
    walkChain fuel p o linked s =
      if bit (s.word e) 26 = true then
        .ok ({ entry := s.dstWords e, ptr := p, offset := o, linked := linked }, s.taken e)
      else if o < 0 then .error (.trap .edsBoundsViolation none s)
      else if o ≤ (s.word (e + 4#32)).toNat then
        .ok ({ entry := s.dstWords e, ptr := p, offset := o, linked := linked }, s.taken e)
      else (nextLink (s.dstWords e) p o >>= walkOn fuel) s := by
  have hback : s.putWord e (s.word e) = s := State.putWord_self w h.first
  have hgive : (s.dstWords e).giveBack (s.taken e) = .ok ((), s) :=
    (release_taken w h.first).trans (congrArg (fun u => Except.ok ((), u)) hback)
  rw [walkChain_eq, M.bind_ok (readDst_at w h)]
  by_cases hp : bit (s.word e) 26 = true
  · exact (congrFun (if_pos hp) _).trans (if_pos hp).symm
  · refine (congrFun (if_neg hp) _).trans (Eq.trans ?_ (if_neg hp).symm)
    refine (owning_require_bind w h.first).trans ?_
    by_cases ho : o < 0
    · rw [if_pos ho, if_neg (by simpa using ho)]
      exact congrArg (fun u => Except.error (Stop.trap .edsBoundsViolation none u)) hback
    · rw [if_neg ho, if_pos (by simpa using ho)]
      by_cases hi : o ≤ (s.word (e + 4#32)).toNat
      · exact (congrFun (if_pos hi) _).trans (if_pos hi).symm
      · refine (congrFun (if_neg hi) _).trans (Eq.trans ?_ (if_neg hi).symm)
        rw [M.bind_ok hgive]
        cases fuel <;> rfl

end Sys2Proof.Machine

/-! External pointers into unpaged segments. -/

namespace Sys2Proof.Machine

variable {s : State} {k : AccessKind} {p : Word}

/-! ## The tests of an access -/

/-- The trap of the first test of an access that fails, `t` with parameter `q` being that of an absent segment or page
(R111, R113, R139). -/
def AccessKind.refusal (k : AccessKind) (w0 : Word) (t : Trap) (q : Word) : Option (Trap × Option Word) :=
  if k.modmem = true ∧ bit w0 27 = false then some (.dataSegmentWrite, none)
  else if k.unpriv = true ∧ bit w0 30 = true then some (.privilegedModeData, none)
  else if bit w0 31 = true then some (t, some q)
  else if k.probe = false ∧ useCount w0 = 4095#12 then some (.systemError, some 1#32)
  else none

/-- Raise the trap that a test has found, if any. -/
def raising : Option (Trap × Option Word) → M Unit
  | none => pure ()
  | some x => raise x.1 x.2

theorem checkCount_apply (w0 : Word) :
    checkCount k w0 s =
      raising (if k.probe = false ∧ useCount w0 = 4095#12 then some (.systemError, some 1#32) else none) s := by
  unfold checkCount
  by_cases h : k.probe = false ∧ useCount w0 = 4095#12
  · rw [if_pos h]
    simp [require, h.1, h.2, raising, raise]
  · rw [if_neg h]
    have : (k.probe || useCount w0 != 4095#12) = true := by
      cases hp : k.probe <;> simp_all
    rw [this]
    rfl

theorem checkEntry_apply (w0 : Word) (t : Trap) (q : Word) :
    checkEntry k w0 (raiseAbsent t q) s = raising (k.refusal w0 t q) s := by
  unfold checkEntry AccessKind.refusal
  by_cases h1 : k.modmem = true ∧ bit w0 27 = false
  · rw [if_pos h1, if_pos h1]
    rfl
  · by_cases h2 : k.unpriv = true ∧ bit w0 30 = true
    · rw [if_neg h1, if_neg h1, if_pos h2, if_pos h2]
      rfl
    · by_cases h3 : bit w0 31 = true
      · rw [if_neg h1, if_neg h1, if_neg h2, if_neg h2, if_pos h3, if_pos h3]
        rfl
      · rw [if_neg h1, if_neg h1, if_neg h2, if_neg h2, if_neg h3, if_neg h3]
        exact checkCount_apply w0

/-- A statement by cases. -/
theorem prop_ite {c A B : Prop} [Decidable c] (h : c → A) (h' : ¬ c → B) : if c then A else B := by
  split
  · next hc => exact h hc
  · next hc => exact h' hc

/-- The tests of an access in their order (R111, R113, R139). -/
theorem AccessKind.refusal_chain {w0 q : Word} {t : Trap} {fails : Trap → Option Word → Prop} {R : Prop}
    (hp : k.probe = false) (hf : ∀ x, k.refusal w0 t q = some x → fails x.1 x.2) (ho : k.refusal w0 t q = none → R) :
    if k.modmem = true ∧ bit w0 27 = false then fails .dataSegmentWrite none
    else if k.unpriv = true ∧ bit w0 30 = true then fails .privilegedModeData none
    else if bit w0 31 = true then fails t (some q)
    else if useCount w0 = 4095#12 then fails .systemError (some 1#32)
    else R := by
  unfold AccessKind.refusal at hf ho
  refine prop_ite (fun h => hf _ (if_pos h)) fun h1 => ?_
  rw [if_neg h1] at hf ho
  refine prop_ite (fun h => hf _ (if_pos h)) fun h2 => ?_
  rw [if_neg h2] at hf ho
  refine prop_ite (fun h => hf _ (if_pos h)) fun h3 => ?_
  rw [if_neg h3] at hf ho
  exact prop_ite (fun h => hf _ (if_pos ⟨hp, h⟩)) fun h4 => ho (if_neg fun h => h4 h.2)

/-- The tests of an access that are made while its entry is owned. -/
theorem owning_raising {e v : Word} {α : Type} {f : Unit → M α} {m : M Unit} {o : Option (Trap × Option Word)}
    (w : s.mem.wf = true) (h : s.hasWord e = true) (hm : m (s.taken e) = raising o (s.taken e)) :
    (∀ x, o = some x → (owning e v m >>= f) (s.taken e) = .error (.trap x.1 x.2 (s.putWord e v))) ∧
      (o = none → (owning e v m >>= f) (s.taken e) = f () (s.taken e)) := by
  refine ⟨fun x hx => ?_, fun hx => ?_⟩
  · subst hx
    exact M.bind_error (owning_taken w h hm)
  · subst hx
    exact M.bind_ok (owning_ok hm)

/-- The first word of an entry after an access, but by a probe (R111, R113). -/
theorem touched_eq {w0 : Word} (hp : k.probe = false) :
    touched k w0 = w0 ||| 4#32 ||| (if k.modmem then 8#32 else 0#32) := by
  unfold touched AccessKind.referenced
  rw [hp]
  cases k.modmem
  · simp [setBit_reference]
  · have h28 : setBit (setBit w0 29 true) 28 true = setBit w0 29 true ||| 8#32 := setBit_true _ 28
    simpa [setBit_reference] using h28

theorem touched_probe {w0 : Word} (hp : k.probe = true) : touched k w0 = w0 := by
  simp [touched, AccessKind.referenced, hp]

/-! ## The end in an unpaged segment -/

/-- What the evaluation gives in the unpaged segment where the walk has ended (R111). -/
def ChainEnd.located (c : ChainEnd) : Located :=
  { addr := wordOf (c.entry.loc.toNat + c.offset), ptr := setField c.ptr 13 19 (BitVec.ofInt 19 c.offset),
    offset := c.offset, room := c.entry.lenM1.toNat - c.offset, entry := c.entry.addr, paged := false }

theorem locateUnpaged_taken {c : ChainEnd} (w : s.mem.wf = true) (h : s.hasWord c.entry.addr = true) :
    let o := k.refusal c.entry.w0 .absentDataSegment ((field c.ptr 1 12).setWidth 32)
    (∀ x, o = some x →
      locateUnpaged k c (s.taken c.entry.addr) = .error (.trap x.1 x.2 (s.putWord c.entry.addr c.entry.w0))) ∧
    (o = none → locateUnpaged k c (s.taken c.entry.addr) =
      (insist (k.probe || decide ((c.entry.loc.toNat : Int) + c.offset < addressSpace)) .addressTooLarge >>= fun _ =>
        pure c.located) (s.putWord c.entry.addr (touched k c.entry.w0))) := by
  obtain ⟨hf, ho⟩ := owning_raising (v := c.entry.w0) (f := fun _ => (do
      release c.entry.addr (touched k c.entry.w0)
      let a ← physical k ((c.entry.loc.toNat : Int) + c.offset)
      pure { c.located with addr := a } : M Located)) w h
    (checkEntry_apply (k := k) c.entry.w0 .absentDataSegment ((field c.ptr 1 12).setWidth 32))
  refine ⟨hf, fun hx => (ho hx).trans ?_⟩
  rw [M.bind_ok (release_taken w h)]
  unfold physical
  rw [M.bind_assoc_apply]
  rfl

/-! ## The evaluation of an external pointer -/

theorem checkSegmentNumber_apply (n : BitVec 11) (len : Word) :
    checkSegmentNumber n len s =
      if n.toNat = 0 then .error (.trap .edsPointerViolation none s)
      else if len.toNat < 16 * n.toNat then .error (.trap .dstViolation none s)
      else .ok ((), s) := by
  have h0 : n.toNat = 0 ↔ n = 0 := by rw [← BitVec.toNat_inj]; rfl
  unfold checkSegmentNumber
  rw [require_bind]
  by_cases hn : n.toNat = 0
  · rw [if_neg (by simpa using h0.1 hn), if_pos hn]
  · rw [if_pos (by simpa using mt h0.2 hn), if_neg hn]
    by_cases hl : len.toNat < 16 * n.toNat
    · rw [if_pos hl]
      have : decide (16 * n.toNat ≤ len.toNat) = false := by simpa using hl
      rw [this]
      rfl
    · rw [if_neg hl]
      have : decide (16 * n.toNat ≤ len.toNat) = true := by simpa using hl
      rw [this]
      rfl

/-- The offset of an external pointer, indexed (R111). -/
def AccessKind.offsetIn (k : AccessKind) (p : Word) : Int := (field p 13 19).toNat + k.xx

/-- EvalEDS from the entry where the walk ends (R111 to R113). -/
def locate (k : AccessKind) (tlength : Word) (c : ChainEnd) : M Located :=
  if bit c.entry.w0 26 then locatePaged k c tlength else locateUnpaged k c

theorem evalEds_apply {base : Word} (hb : s.dstBase (field p 1 12) = base) (hw : s.hasWord base = true) :
    evalEds p k s =
      if (field p 2 11).toNat = 0 then .error (.trap .edsPointerViolation none s)
      else if (s.word base).toNat < 16 * (field p 2 11).toNat then .error (.trap .dstViolation none s)
      else (walkChain ((k.offsetIn p).toNat + 1) p (k.offsetIn p) false >>= locate k (s.word base)) s := by
  subst hb
  unfold evalEds
  rw [M.get_bind, M.bind_ok (readWord_present hw)]
  have hc := checkSegmentNumber_apply (s := s) (field p 2 11) (s.word (s.dstBase (field p 1 12)))
  by_cases h0 : (field p 2 11).toNat = 0
  · rw [if_pos h0] at hc ⊢
    exact M.bind_error hc
  · by_cases hl : (s.word (s.dstBase (field p 1 12))).toNat < 16 * (field p 2 11).toNat
    · rw [if_neg h0, if_pos hl] at hc ⊢
      exact M.bind_error hc
    · rw [if_neg h0, if_neg hl] at hc ⊢
      exact M.bind_ok hc

/-- The end of a walk in an unpaged segment, whose access is tested and made (R111, R112). -/
theorem locate_unpaged {c : ChainEnd} {tl : Word} (w : s.mem.wf = true) (h : s.hasWord c.entry.addr = true)
    (h0 : c.entry.w0 = s.word c.entry.addr) (hu : bit c.entry.w0 26 = false) (hp : k.probe = false) :
    let o := k.refusal c.entry.w0 .absentDataSegment ((field c.ptr 1 12).setWidth 32)
    (∀ x, o = some x → locate k tl c (s.taken c.entry.addr) = .error (.trap x.1 x.2 s)) ∧
    (o = none → (c.entry.loc.toNat : Int) + c.offset < 2 ^ 29 →
      locate k tl c (s.taken c.entry.addr) =
        .ok (c.located, s.putWord c.entry.addr (c.entry.w0 ||| 4#32 ||| (if k.modmem then 8#32 else 0#32)))) := by
  have hl : locate k tl c (s.taken c.entry.addr) = locateUnpaged k c (s.taken c.entry.addr) := by
    unfold locate
    rw [hu]
    rfl
  have hback : s.putWord c.entry.addr c.entry.w0 = s := h0 ▸ State.putWord_self w h
  obtain ⟨hf, ho⟩ := locateUnpaged_taken (k := k) w h
  rw [hl]
  refine ⟨fun x hx => ?_, fun hx ht => ?_⟩
  · rw [hf x hx, hback]
  · rw [ho hx, insist_bind, if_pos (by simp [show _ < (addressSpace : Int) from ht]), touched_eq hp]
    rfl

theorem dstBase_eq : s.dstBase (field p 1 12) = if bit p 1 then s.DST else 0o2200#32 := by
  unfold State.dstBase
  rw [bit_field p (by omega) (by omega)]

/-- Settles O44, from one turn of the walk and the access of the segment where it ends. -/
theorem unpagedSegmentEvaluation : Obligations.UnpagedSegmentEvaluation := by
  unfold Obligations.UnpagedSegmentEvaluation
  refine ⟨?_, ?_⟩
  · intro s p x modmem unpriv seg base n entry w0 lenM1 loc off m fails w hp hb hl hw hf hu
    have hn : (field p 2 11).toNat = n :=
      congrArg BitVec.toNat (field_field (n := 1) (m := 12) (i := 1) p (by omega) (by omega)).symm
    have hbase : s.dstBase seg = base := dstBase_eq
    have hd : s.DstAt seg entry 4 := ⟨by rw [hbase], by rw [hbase]; exact hl, hw, hf⟩
    have hm := evalEds_apply (k := { index := x, modmem := modmem, unpriv := unpriv, probe := false }) hbase hb
    have hwalk := (walkChain_at (fuel := off.toNat + 1) (o := off) (linked := false) w hd).trans
      (if_neg (ne_true_of_eq_false hu))
    rw [hn] at hm
    refine prop_ite (fun h => hm.trans (if_pos h)) fun h0 => ?_
    replace hm := hm.trans (if_neg h0)
    refine prop_ite (fun h => hm.trans (if_pos h)) fun h1 => ?_
    replace hm := hm.trans (if_neg h1)
    refine prop_ite (fun h => hm.trans (M.bind_error (hwalk.trans (if_pos h)))) fun h2 => ?_
    replace hwalk := hwalk.trans (if_neg h2)
    refine prop_ite (fun h3 => ?_) fun h3 hc hz => ?_
    · have hrun := hm.trans (M.bind_ok (hwalk.trans (if_pos h3)))
      obtain ⟨hfails, hok⟩ := locate_unpaged (k := { index := x, modmem := modmem, unpriv := unpriv, probe := false })
        (c := { entry := s.dstWords entry, ptr := p, offset := off, linked := false }) (tl := s.word base) w hd.first rfl
        hu rfl
      exact AccessKind.refusal_chain (fails := fails) rfl (fun y hy => hrun.trans (hfails y hy)) fun hy ht =>
        ⟨_, hrun.trans (hok hy ht), rfl, rfl, rfl, rfl, rfl, rfl⟩
    · have hnext := nextLink_cases (s := s) (e := s.dstWords entry) (p := p) (o := off)
      exact hm.trans (M.bind_error ((hwalk.trans (if_neg h3)).trans
        (M.bind_error (hnext.trans ((if_pos hc).trans (if_pos hz))))))
  · intro s p x modmem unpriv n o linked c kind seg base index entry w0 lenM1 link len further walk read ends stops off
      fails last target w
    have hbase : s.dstBase seg = base := dstBase_eq
    refine ⟨fun hl hw hf => ?_, fun hb h0 hi hc hw hwalk => ?_⟩
    · have hd : s.DstAt seg entry 4 := ⟨by rw [hbase], by rw [hbase]; exact hl, hw, hf⟩
      have hturn := walkChain_at (fuel := n + 1) (o := o) (linked := linked) w hd
      have hnext := nextLink_cases (s := s) (e := s.dstWords entry) (p := p) (o := o)
      refine prop_ite (fun h => hturn.trans (if_pos h)) fun h1 => ?_
      replace hturn := hturn.trans (if_neg h1)
      refine prop_ite (fun h => hturn.trans (if_pos h)) fun h2 => ?_
      replace hturn := hturn.trans (if_neg h2)
      refine prop_ite (fun h => hturn.trans (if_pos h)) fun h3 => ?_
      replace hturn := hturn.trans (if_neg h3)
      refine prop_ite (fun h4 => ?_) fun h4 => ?_
      · replace hnext := hnext.trans (if_pos h4)
        exact prop_ite (fun h => hturn.trans (M.bind_error (hnext.trans (if_pos h)))) fun h =>
          hturn.trans (M.bind_ok (hnext.trans (if_neg h)))
      · replace hnext := hnext.trans (if_neg h4)
        exact prop_ite (fun h => hturn.trans (M.bind_error (hnext.trans (if_pos h)))) fun h =>
          hturn.trans (M.bind_ok (hnext.trans (if_neg h)))
    · have hn : index = 16 * (field p 2 11).toNat :=
        congrArg (fun v : BitVec 11 => 16 * v.toNat) (field_field p (by omega) (by omega))
      have hm := evalEds_apply (k := kind) hbase hb
      rw [if_neg (by omega), if_neg (by omega)] at hm
      have hrun := hm.trans (M.bind_ok hwalk)
      refine prop_ite (fun hu hlink => ?_) fun hu => ?_
      · have hback : s.putWord last.addr last.w0 = s := hc ▸ State.putWord_self w hw
        refine hrun.trans ((congrFun (if_pos hu) _).trans ((owning_require_bind w hw).trans ?_))
        rw [hlink]
        exact congrArg (fun u => Except.error (Stop.trap .unexpectedEdsType none u)) hback
      · obtain ⟨hfails, hok⟩ := locate_unpaged (k := kind) (tl := s.word base) w hw hc (eq_false_of_ne_true hu) rfl
        exact AccessKind.refusal_chain (fails := fails) rfl (fun y hy => hrun.trans (hfails y hy)) fun hy ht =>
          hrun.trans (hok hy ht)

end Sys2Proof.Machine

/-! External pointers into paged segments. -/

namespace Sys2Proof.Machine

variable {s : State} {k : AccessKind} {p q tl : Word}

/-- A bind goes on from what its first action does, wherever that is run. -/
theorem bind_congr_apply {α β : Type} {m n : M α} {f : α → M β} {t : State} (h : m s = n t) :
    (m >>= f) s = (n >>= f) t := by
  show (m s >>= fun r => f r.1 r.2) = (n t >>= fun r => f r.1 r.2)
  rw [h]

/-! ## The segment that an indexed pointer names -/

/-- The trap of the first test that fails where the index leads to q in another segment (R113). -/
def segmentRefusal (p q tl : Word) : Option (Trap × Option Word) :=
  if field q 0 13 = field p 0 13 then none
  else if field q 0 2 ≠ field p 0 2 then some (.edsBoundsViolation, none)
  else if (field q 2 11).toNat = 0 then some (.edsPointerViolation, none)
  else if tl.toNat < 16 * (field q 2 11).toNat then some (.dstViolation, none)
  else none

/-- The entry of the paged segment that the index leads into (R113). -/
def otherEntry (p q tl : Word) : M (Word × DstHead) := do
  require (field q 0 2 = field p 0 2) .edsBoundsViolation
  checkSegmentNumber (field q 2 11) tl
  let e ← readDstHead (field q 1 12)
  e.during (require (bit e.w0 26) .unexpectedEdsType)
  pure (q, e)

theorem pagedEntry_stays {c : ChainEnd} (hq : q = c.ptr + k.index.getD 0#32) (h : field q 0 13 = field c.ptr 0 13) :
    pagedEntry k c tl s = .ok ((q, c.entry.toDstHead), s) := by
  subst hq
  unfold pagedEntry
  cases hx : k.index with
  | none => simp
  | some x =>
    rw [hx, Option.getD_some] at h
    exact congrFun (if_neg (not_not.2 h)) _

theorem pagedEntry_leaves {c : ChainEnd} (w : s.mem.wf = true) (he : s.hasWord c.entry.addr = true)
    (h0 : c.entry.w0 = s.word c.entry.addr) (hq : q = c.ptr + k.index.getD 0#32)
    (h : field q 0 13 ≠ field c.ptr 0 13) :
    pagedEntry k c tl (s.taken c.entry.addr) = otherEntry c.ptr q tl s := by
  subst hq
  have hgive : c.entry.giveBack (s.taken c.entry.addr) = .ok ((), s) :=
    (release_taken w he).trans (by rw [h0, State.putWord_self w he])
  unfold pagedEntry
  cases hx : k.index with
  | none => exact absurd (by rw [hx, Option.getD_none, BitVec.add_zero]) h
  | some x =>
    rw [hx, Option.getD_some] at h
    exact (congrFun (if_pos h) _).trans (M.bind_ok hgive)

theorem otherEntry_refused {x : Trap × Option Word} (h : segmentRefusal p q tl = some x) :
    otherEntry p q tl s = .error (.trap x.1 x.2 s) := by
  have hc := checkSegmentNumber_apply (s := s) (field q 2 11) tl
  unfold segmentRefusal at h
  unfold otherEntry
  rw [require_bind]
  split_ifs at h with h1 h2 h3 h4
  · cases h
    exact if_neg (by simpa using h2)
  · cases h
    rw [if_pos (by simpa using h2)]
    exact M.bind_error (hc.trans (if_pos h3))
  · cases h
    rw [if_pos (by simpa using h2)]
    exact M.bind_error (hc.trans ((if_neg h3).trans (if_pos h4)))

theorem otherEntry_at {e : Word} (w : s.mem.wf = true) (hn : field q 0 13 ≠ field p 0 13)
    (h : segmentRefusal p q tl = none) (hd : s.DstAt (field q 1 12) e 3) :
    otherEntry p q tl s =
      if bit (s.word e) 26 = true then .ok ((q, s.dstHead e), s.taken e)
      else .error (.trap .unexpectedEdsType none s) := by
  have hc := checkSegmentNumber_apply (s := s) (field q 2 11) tl
  have hback : s.putWord e (s.word e) = s := State.putWord_self w hd.first
  unfold segmentRefusal at h
  unfold otherEntry
  rw [require_bind]
  split_ifs at h with h1 h2 h3 h4
  · exact absurd h1 hn
  · rw [if_pos (by simpa using h2), M.bind_ok (hc.trans ((if_neg h3).trans (if_neg h4))),
      M.bind_ok (readDstHead_at (n := 0) w hd)]
    refine (owning_require_bind w hd.first).trans ?_
    exact congrArg
      (fun u => if bit (s.word e) 26 = true then _ else Except.error (Stop.trap .unexpectedEdsType none u)) hback

/-! ## The page -/

/-- The number of offset bits inside a page (R113). -/
def DstHead.pageBits (e : DstHead) : Nat := (field e.w0 22 4).toNat

/-- EvalEDS in the page whose entry is taken (R113). -/
def locateInPage (k : AccessKind) (ptr : Word) (e : DstHead) (pte : Word × Word) : M Located := do
  release e.addr (k.referenced e.w0)
  let loc ← readWord (pte.1 + 4#32)
  owning pte.1 pte.2 (checkEntry k pte.2 (raiseAbsent .absentPage ptr))
  release pte.1 (touched k pte.2)
  let offset := (field ptr 13 19).toNat % 2 ^ e.pageBits
  let a ← physical k (loc ||| BitVec.ofNat 32 offset).toNat
  pure { addr := a, ptr := ptr, offset := offset, room := 2 ^ e.pageBits - 1 - offset, entry := pte.1, paged := true }

/-- The page table entry of the page that ptr names (R113). -/
def takePte (ptr : Word) (e : DstHead) : M (Word × Word) := do
  insist (2 ≤ e.pageBits) .pageSize
  readPte e ((field ptr 13 19).toNat / 2 ^ e.pageBits)

/-- EvalEDS in the paged segment whose entry is taken (R113). -/
def locatePage (k : AccessKind) (ptr : Word) (e : DstHead) : M Located := do
  e.during (do
    if bit e.w0 31 then raiseAbsent .absentPageTable ptr
    checkCount k e.w0)
  let pte ← owning e.addr (k.referenced e.w0) (takePte ptr e)
  locateInPage k ptr e pte

theorem locatePaged_eq (c : ChainEnd) : locatePaged k c tl = (do
    c.entry.during (require (!c.linked) .unexpectedEdsType)
    let pe ← pagedEntry k c tl
    locatePage k pe.1 pe.2) := rfl

/-- The trap of the first test of a paged segment that fails (R113, R139). -/
def AccessKind.tableRefusal (k : AccessKind) (w0 ptr : Word) : Option (Trap × Option Word) :=
  if bit w0 31 = true then some (.absentPageTable, some ptr)
  else if k.probe = false ∧ useCount w0 = 4095#12 then some (.systemError, some 1#32)
  else none

theorem locatePage_taken {e ptr : Word} (w : s.mem.wf = true) (he : s.hasWord e = true) :
    let o := k.tableRefusal (s.word e) ptr
    (∀ x, o = some x → locatePage k ptr (s.dstHead e) (s.taken e) = .error (.trap x.1 x.2 s)) ∧
    (o = none → locatePage k ptr (s.dstHead e) (s.taken e) =
      (owning e (k.referenced (s.word e)) (takePte ptr (s.dstHead e)) >>= locateInPage k ptr (s.dstHead e))
        (s.taken e)) := by
  have hm : (do
      if bit (s.word e) 31 then raiseAbsent .absentPageTable ptr
      checkCount k (s.word e) : M Unit) (s.taken e) = raising (k.tableRefusal (s.word e) ptr) (s.taken e) := by
    unfold AccessKind.tableRefusal
    by_cases h : bit (s.word e) 31 = true
    · rw [if_pos h, if_pos h]
      rfl
    · rw [if_neg h, if_neg h]
      exact checkCount_apply _
  obtain ⟨hf, ho⟩ := owning_raising (v := s.word e) (f := fun _ => (do
    let pte ← owning e (k.referenced (s.word e)) (takePte ptr (s.dstHead e))
    locateInPage k ptr (s.dstHead e) pte : M Located)) w he hm
  exact ⟨fun x hx => (hf x hx).trans (by rw [State.putWord_self w he]), ho⟩

/-- The page table entry at pte can be taken while the segment's entry at e is owned (R140). -/
structure State.PteAt (s : State) (ptr e pte : Word) : Prop where
  inTable : 8 * ((field ptr 13 19).toNat / 2 ^ (s.dstHead e).pageBits) + 4 ≤ (s.dstHead e).lenM1.toNat
  limit : (s.dstHead e).loc.toNat + 8 * ((field ptr 13 19).toNat / 2 ^ (s.dstHead e).pageBits) < addressSpace
  entry : (s.dstHead e).loc + BitVec.ofNat 32 (8 * ((field ptr 13 19).toNat / 2 ^ (s.dstHead e).pageBits)) = pte
  first : s.hasWord pte = true
  second : s.hasWord (pte + 4#32) = true
  free : bit ((s.taken e).word pte) 0 = false

theorem takePte_apply {e ptr : Word} (hs : 2 ≤ (s.dstHead e).pageBits) (u : State) :
    takePte ptr (s.dstHead e) u = readPte (s.dstHead e) ((field ptr 13 19).toNat / 2 ^ (s.dstHead e).pageBits) u := by
  unfold takePte
  rw [insist_bind, if_pos (by simpa using hs)]

theorem takePte_outside {e ptr : Word} (hs : 2 ≤ (s.dstHead e).pageBits)
    (h : (s.dstHead e).lenM1.toNat < 8 * ((field ptr 13 19).toNat / 2 ^ (s.dstHead e).pageBits) + 4) (u : State) :
    takePte ptr (s.dstHead e) u = .error (.trap .pageTableViolation none u) := by
  rw [takePte_apply hs]
  unfold readPte
  rw [require_bind, if_neg (by simpa using h)]

theorem takePte_at {e ptr pte : Word} (hs : 2 ≤ (s.dstHead e).pageBits) (h : s.PteAt ptr e pte) :
    takePte ptr (s.dstHead e) (s.taken e) = .ok ((pte, (s.taken e).word pte), (s.taken e).taken pte) := by
  have ha := absAddress_add (s := s.taken e) h.limit
  rw [h.entry] at ha
  have hf : (s.taken e).hasWord pte = true := h.first
  rw [takePte_apply hs]
  unfold readPte
  rw [require_bind, if_pos (by simpa using h.inTable)]
  refine (M.bind_ok ?_).trans (M.bind_ok (acquire_free hf h.free))
  exact_mod_cast ha

/-- An entry that can be taken while another one is owned is another word: an owned one reads -1 (R140). -/
theorem State.PteAt.apart {e ptr pte : Word} (w : s.mem.wf = true) (he : s.hasWord e = true) (h : s.PteAt ptr e pte) :
    wordAlign pte ≠ wordAlign e := by
  intro heq
  have : (s.taken e).word pte = 0xFFFFFFFF#32 := by
    have hw := State.word_putWord (v := 0xFFFFFFFF#32) w he
    unfold State.word at hw ⊢
    rwa [heq]
  have hf := h.free
  rw [this] at hf
  exact absurd hf (by decide)

/-- What the evaluation gives in the page (R113). -/
def State.inPage (u : State) (ptr : Word) (bits : Nat) (pte : Word) : Located :=
  let offset := (field ptr 13 19).toNat % 2 ^ bits
  { addr := u.word (pte + 4#32) ||| BitVec.ofNat 32 offset, ptr := ptr, offset := offset, room := 2 ^ bits - 1 - offset,
    entry := pte, paged := true }

theorem wordOf_word (a : Word) : wordOf a.toNat = a := by
  simp [wordOf]

theorem locateInPage_taken {e ptr pte : Word} (w : s.mem.wf = true) (he : s.hasWord e = true) (h : s.PteAt ptr e pte) :
    let e0 := (s.taken e).word pte
    let marked := s.putWord e (k.referenced (s.word e))
    let l := marked.inPage ptr (s.dstHead e).pageBits pte
    let o := k.refusal e0 .absentPage ptr
    (∀ x, o = some x → locateInPage k ptr (s.dstHead e) (pte, e0) ((s.taken e).taken pte) =
      .error (.trap x.1 x.2 marked)) ∧
    (o = none → locateInPage k ptr (s.dstHead e) (pte, e0) ((s.taken e).taken pte) =
      (insist (k.probe || decide ((l.addr.toNat : Int) < addressSpace)) .addressTooLarge >>= fun _ => pure l)
        (marked.putWord pte (touched k e0))) := by
  intro e0 marked l o
  have hne := h.apart w he
  have wm : marked.mem.wf = true := State.wf_putWord w he
  have hm : marked.hasWord pte = true := h.first
  have hback : ((s.taken e).taken pte).putWord e (k.referenced (s.word e)) = marked.taken pte := by
    refine (State.putWord_comm (s := s.taken e) (State.wf_putWord w he) h.first he hne.symm).trans ?_
    rw [State.taken_put w he]
    rfl
  have hrel : release e (k.referenced (s.word e)) ((s.taken e).taken pte) = .ok ((), marked.taken pte) :=
    (release_present (by exact he)).trans (congrArg (fun u => Except.ok ((), u)) hback)
  have h0 : e0 = marked.word pte :=
    (State.word_putWord_other w he hne).trans (State.word_putWord_other w he hne).symm
  have hread : readWord (pte + 4#32) (marked.taken pte) = .ok (marked.word (pte + 4#32), marked.taken pte) := by
    have h4 : (marked.taken pte).word (pte + 4#32) = marked.word (pte + 4#32) :=
      State.word_putWord_other wm hm (wordAlign_add_ne pte (d := 4) (by omega) rfl (by omega))
    rw [readWord_present (by exact h.second), h4]
  obtain ⟨hf, ho⟩ := owning_raising (v := e0) (f := fun _ => (do
      release pte (touched k e0)
      let a ← physical k l.addr.toNat
      pure { l with addr := a } : M Located)) wm hm (checkEntry_apply (k := k) e0 .absentPage ptr)
  have hrun : locateInPage k ptr (s.dstHead e) (pte, e0) ((s.taken e).taken pte) =
      (owning pte e0 (checkEntry k e0 (raiseAbsent .absentPage ptr)) >>= fun _ => (do
        release pte (touched k e0)
        let a ← physical k l.addr.toNat
        pure { l with addr := a } : M Located)) (marked.taken pte) :=
    (M.bind_ok hrel).trans (M.bind_ok hread)
  refine ⟨fun x hx => hrun.trans ((hf x hx).trans ?_), fun hx => hrun.trans ((ho hx).trans ?_)⟩
  · rw [h0, State.putWord_self wm hm]
  · rw [M.bind_ok (release_taken wm hm)]
    unfold physical
    rw [M.bind_assoc_apply]
    simp only [M.pure_bind_apply, insist_bind, wordOf_word]

/-- An access in the page, but by a probe (R113). -/
theorem locateInPage_ok {e ptr pte : Word} (w : s.mem.wf = true) (he : s.hasWord e = true) (h : s.PteAt ptr e pte)
    (hp : k.probe = false) {marked : State} (hm : s.putWord e (k.referenced (s.word e)) = marked) :
    let e0 := (s.taken e).word pte
    let l := marked.inPage ptr (s.dstHead e).pageBits pte
    k.refusal e0 .absentPage ptr = none → l.addr.toNat < 2 ^ 29 →
      locateInPage k ptr (s.dstHead e) (pte, e0) ((s.taken e).taken pte) =
        .ok (l, marked.putWord pte (e0 ||| 4#32 ||| (if k.modmem then 8#32 else 0#32))) := by
  subst hm
  intro e0 l hx hlt
  have hspace : (l.addr.toNat : Int) < addressSpace := by exact_mod_cast hlt
  have hc : (k.probe || decide ((l.addr.toNat : Int) < addressSpace)) = true := by
    rw [decide_eq_true hspace, Bool.or_true]
  rw [(locateInPage_taken w he h).2 hx, insist_bind, touched_eq hp]
  exact if_pos hc

/-! ## The evaluation -/

section
variable {base e : Word} (w : s.mem.wf = true) (hb : s.dstBase (field p 1 12) = base) (hw : s.hasWord base = true)
  (h0 : (field p 2 11).toNat ≠ 0) (hi : 16 * (field p 2 11).toNat ≤ (s.word base).toNat)
  (hd : s.DstAt (field p 1 12) e 4) (hp : bit (s.word e) 26 = true) (hq : q = p + k.index.getD 0#32)

include w hb hw h0 hi hd hp

theorem evalEds_paged :
    evalEds p k s =
      (pagedEntry k { entry := s.dstWords e, ptr := p, offset := k.offsetIn p, linked := false } (s.word base) >>=
        fun pe => locatePage k pe.1 pe.2) (s.taken e) := by
  rw [evalEds_apply hb hw, if_neg h0, if_neg (by omega), M.bind_ok ((walkChain_at w hd).trans (if_pos hp))]
  refine (congrFun (if_pos hp) _).trans ?_
  rw [locatePaged_eq]
  exact M.bind_ok (owning_ok (require_true _ _ _))

include hq

theorem evalEds_stays (h : field q 0 13 = field p 0 13) :
    evalEds p k s = locatePage k q (s.dstHead e) (s.taken e) := by
  have hs := pagedEntry_stays (s := s.taken e) (tl := s.word base)
    (c := { entry := s.dstWords e, ptr := p, offset := k.offsetIn p, linked := false }) hq h
  exact (evalEds_paged w hb hw h0 hi hd hp).trans ((M.bind_ok hs).trans rfl)

theorem evalEds_leaves (h : field q 0 13 ≠ field p 0 13) :
    evalEds p k s = (otherEntry p q (s.word base) >>= fun pe => locatePage k pe.1 pe.2) s :=
  (evalEds_paged w hb hw h0 hi hd hp).trans (bind_congr_apply
    (pagedEntry_leaves (c := { entry := s.dstWords e, ptr := p, offset := k.offsetIn p, linked := false }) w hd.first rfl
      hq h))

/-- The evaluation comes to the entry of the paged segment that the indexed pointer names (R113). -/
theorem evalEds_names {e' : Word} (h : segmentRefusal p q (s.word base) = none) (hdq : s.DstAt (field q 1 12) e' 3) :
    evalEds p k s = if bit (s.word e') 26 = true then locatePage k q (s.dstHead e') (s.taken e')
      else .error (.trap .unexpectedEdsType none s) := by
  by_cases hl : field q 0 13 = field p 0 13
  · have he : e' = e := by
      rw [← hdq.entry, field_inner 1 12 hl (by omega) (by omega), hd.entry]
    subst he
    rw [if_pos hp]
    exact evalEds_stays w hb hw h0 hi hd hp hq hl
  · have hother := otherEntry_at w hl h hdq
    rw [evalEds_leaves w hb hw h0 hi hd hp hq hl]
    by_cases h26 : bit (s.word e') 26 = true
    · rw [if_pos h26] at hother ⊢
      rw [M.bind_ok hother]
    · rw [if_neg h26] at hother ⊢
      exact M.bind_error hother

end

theorem dstBase_congr (h : field q 0 2 = field p 0 2) : s.dstBase (field q 1 12) = s.dstBase (field p 1 12) := by
  have hb : bit q 1 = bit p 1 := by
    rw [← bit_field (n := 0) (m := 2) (k := 1) q (by omega) (by omega), h, bit_field p (by omega) (by omega)]
  rw [dstBase_eq, dstBase_eq, hb]

/-- Settles O45, from the segment that the indexed pointer names and the page in it. -/
theorem pagedSegmentEvaluation : Obligations.PagedSegmentEvaluation := by
  unfold Obligations.PagedSegmentEvaluation
  intro s p x modmem unpriv base index entryOf readable q leaves entry w0 size inside page off marked pte e0 frame m fails
    w hp hb h0 hi hr hpaged
  let kind : AccessKind := { index := x, modmem := modmem, unpriv := unpriv, probe := false }
  have hbase : s.dstBase (field p 1 12) = base := dstBase_eq
  have hn (a : Word) : field (field a 1 12) 1 11 = field a 2 11 := field_field a (by omega) (by omega)
  have hat {a : Word} {n : Nat} (ha : s.dstBase (field a 1 12) = base) (h : readable a n) :
      s.DstAt (field a 1 12) (entryOf a) n := by
    refine ⟨?_, ?_, h.2.1, h.2.2⟩
    · rw [ha, hn]
    · rw [ha, hn]
      exact h.1
  have hd := hat hbase hr
  have h0' : (field p 2 11).toNat ≠ 0 := fun h => absurd h0 (by show ¬ 0 < 16 * (field p 2 11).toNat; omega)
  have hleave := evalEds_leaves (k := kind) (q := q) w hbase hb h0' hi hd hpaged rfl
  have hrefused {o : Trap × Option Word} (hl : leaves) (h : segmentRefusal p q (s.word base) = some o) :
      fails o.1 o.2 s := (hleave hl).trans (M.bind_error (otherEntry_refused h))
  refine prop_ite (fun h => hrefused h.1 ((if_neg h.1).trans (if_pos h.2))) fun h1 => ?_
  have hhalf (hl : leaves) : ¬ field q 0 2 ≠ field p 0 2 := fun h => h1 ⟨hl, h⟩
  refine prop_ite (fun h => ?_) fun h2 => ?_
  · have hz : (field q 2 11).toNat = 0 := by
      have h' : 16 * (field q 2 11).toNat = 0 := h.2
      omega
    exact hrefused h.1 ((if_neg h.1).trans ((if_neg (hhalf h.1)).trans (if_pos hz)))
  have hnum (hl : leaves) : ¬ (field q 2 11).toNat = 0 := fun h => h2 ⟨hl, congrArg (16 * ·) h⟩
  refine prop_ite (fun h => hrefused h.1 ((if_neg h.1).trans ((if_neg (hhalf h.1)).trans
    ((if_neg (hnum h.1)).trans (if_pos h.2))))) fun h3 hrq => ?_
  have h02 : field q 0 2 = field p 0 2 := by
    by_cases hl : leaves
    · exact not_not.1 (hhalf hl)
    · exact field_inner 0 2 (not_not.1 hl) (by omega) (by omega)
  have hdq : s.DstAt (field q 1 12) entry 3 := hat ((dstBase_congr h02).trans hbase) hrq
  have hseg : segmentRefusal p q (s.word base) = none := by
    by_cases hl : leaves
    · exact (if_neg hl).trans ((if_neg (hhalf hl)).trans ((if_neg (hnum hl)).trans (if_neg fun h => h3 ⟨hl, h⟩)))
    · exact if_pos (not_not.1 hl)
  have hplan := evalEds_names (k := kind) w hbase hb h0' hi hd hpaged rfl hseg hdq
  refine prop_ite (fun h => hplan.trans (if_neg (ne_true_of_eq_false h))) fun h26 => ?_
  have hrun := hplan.trans (if_pos (eq_true_of_ne_false h26))
  have he := hdq.first
  obtain ⟨hf, ho⟩ := locatePage_taken (k := kind) (ptr := q) w he
  refine prop_ite (fun h => hrun.trans (hf _ (if_pos h))) fun h31 => ?_
  refine prop_ite (fun h => hrun.trans (hf _ ((if_neg h31).trans (if_pos ⟨rfl, h⟩)))) fun hcount hsize => ?_
  replace hrun := hrun.trans (ho ((if_neg h31).trans (if_neg fun h => hcount h.2)))
  have hmark : s.putWord entry (kind.referenced w0) = marked := congrArg (s.putWord entry) (setBit_reference w0)
  refine prop_ite (fun h => ?_) fun hin hlim hpte hpte4 hfree => ?_
  · rw [← hmark]
    exact hrun.trans (M.bind_error (owning_taken w he (takePte_outside hsize h _)))
  · have hP : s.PteAt q entry pte := ⟨not_lt.1 hin, hlim, rfl, hpte, hpte4, hfree⟩
    replace hrun := hrun.trans (M.bind_ok (owning_ok (takePte_at hsize hP)))
    have hf2 := (locateInPage_taken (k := kind) w he hP).1
    rw [hmark] at hf2
    exact AccessKind.refusal_chain (k := kind) (fails := fun t param => fails t param marked) rfl
      (fun y hy => hrun.trans (hf2 y hy)) fun hy hlt => hrun.trans (locateInPage_ok w he hP rfl hmark hy hlt)

end Sys2Proof.Machine

/-! What the evaluation of a pointer changes where all addresses hold memory. -/

namespace Sys2Proof.Machine

variable {s t u : State} {k : AccessKind} {p q tl : Word}

/-! ## Accesses where all addresses hold memory -/

/-- A word that is read where MEM_MAP has no hole is in memory (R84). -/
theorem readWord_solid {a v : Word} (hs : s.cfg.holes = []) (h : readWord a s = .ok (v, t)) :
    s.hasWord a = true ∧ v = s.word a ∧ t = s := by
  have hole (n : Nat) : Config.isHole s.cfg n = false := by simp [Config.isHole, hs]
  obtain ⟨hn, ⟨-, rfl, rfl⟩ | ⟨hh, -, -⟩⟩ := readWord_ok h
  · exact ⟨(State.present_iff _ _).2 ⟨hn, hole _⟩, rfl, rfl⟩
  · rw [hole] at hh
    cases hh

theorem acquire_solid {e v : Word} (hs : s.cfg.holes = []) (h : acquire e s = .ok (v, t)) :
    s.hasWord e = true ∧ bit (s.word e) 0 = false ∧ v = s.word e ∧ t = s.taken e := by
  obtain ⟨_, _, hr, -⟩ := M.bind_eq_ok h
  obtain ⟨hw, -⟩ := readWord_solid hs hr
  obtain ⟨hv, hb, ht⟩ := acquire_ok hw h
  exact ⟨hw, hb, hv, ht⟩

theorem State.hasWord_taken (e a : Word) : (s.taken e).hasWord a = s.hasWord a := State.hasWord_congr rfl a

theorem dstAddress_ok {seg : BitVec 12} {e : Word} (h : dstAddress seg s = .ok (e, t)) :
    (s.dstBase seg).toNat + 16 * (field seg 1 11).toNat < addressSpace ∧
      s.dstBase seg + BitVec.ofNat 32 (16 * (field seg 1 11).toNat) = e ∧ t = s := by
  unfold dstAddress at h
  rw [M.get_bind] at h
  obtain ⟨⟨-, hl⟩, he, ht⟩ := (absAddress_ok_iff ..).1 h
  refine ⟨by exact_mod_cast hl, ?_, ht⟩
  rw [he, ← wordOf_add]
  push_cast
  rfl

theorem readExtent_solid {e : Word} {lx : Word × Word} (hs : s.cfg.holes = []) (h : readExtent e s = .ok (lx, t)) :
    s.hasWord (e + 4#32) = true ∧ s.hasWord (e + 8#32) = true := by
  obtain ⟨_, u, h4, h1⟩ := M.bind_eq_ok h
  obtain ⟨hw4, -, rfl⟩ := readWord_solid hs h4
  obtain ⟨_, _, h8, -⟩ := M.bind_eq_ok h1
  exact ⟨hw4, (readWord_solid hs h8).1⟩

theorem readDstHead_solid {seg : BitVec 12} {d : DstHead} (w : s.mem.wf = true) (hs : s.cfg.holes = [])
    (h : readDstHead seg s = .ok (d, t)) : ∃ e, s.DstAt seg e 3 ∧ d = s.dstHead e ∧ t = s.taken e := by
  obtain ⟨e, u, ha, h1⟩ := M.bind_eq_ok h
  obtain ⟨hl, he, rfl⟩ := dstAddress_ok ha
  obtain ⟨w0, u1, hq, h2⟩ := M.bind_eq_ok h1
  obtain ⟨hw, hb, -, rfl⟩ := acquire_solid hs hq
  obtain ⟨lx, u2, hx, -⟩ := M.bind_eq_ok h2
  obtain ⟨hw4, hw8⟩ := readExtent_solid (s := u.taken e) hs hx
  rw [State.hasWord_taken] at hw4 hw8
  have hd : u.DstAt seg e 3 := by
    refine ⟨he, hl, fun k hk => ?_, hb⟩
    obtain rfl | rfl | rfl : k = 0 ∨ k = 1 ∨ k = 2 := by omega
    · simpa using hw
    · exact hw4
    · exact hw8
  rw [readDstHead_at (n := 0) w hd] at h
  cases h
  exact ⟨e, hd, rfl, rfl⟩

theorem readDst_solid {seg : BitVec 12} {d : DstWords} (w : s.mem.wf = true) (hs : s.cfg.holes = [])
    (h : readDst seg s = .ok (d, t)) : ∃ e, s.DstAt seg e 4 ∧ d = s.dstWords e ∧ t = s.taken e := by
  obtain ⟨hd, u, h1, h2⟩ := M.bind_eq_ok h
  obtain ⟨e, he, rfl, rfl⟩ := readDstHead_solid w hs h1
  obtain ⟨_, _, h12, -⟩ := M.bind_eq_ok h2
  obtain ⟨hw, -⟩ := readWord_solid (s := s.taken e) hs h12
  rw [State.hasWord_taken] at hw
  have hd : s.DstAt seg e 4 := by
    refine ⟨he.entry, he.limit, fun k hk => ?_, he.free⟩
    obtain hk' | rfl : k < 3 ∨ k = 3 := by omega
    · exact he.words k hk'
    · exact hw
  rw [readDst_at w hd] at h
  cases h
  exact ⟨e, hd, rfl, rfl⟩

/-! ## The walk -/

theorem nextLink_ok {e : DstWords} {o : Int} {a : Word × Int} (h : nextLink e p o s = .ok (a, t)) : t = s := by
  rw [nextLink_cases] at h
  split_ifs at h <;> cases h <;> rfl

/-- A walk that ends here, or goes on to an end that owns its entry alone. -/
theorem walkTurn_solid {fuel : Nat} {o : Int} {linked : Bool} {c : ChainEnd} (w : s.mem.wf = true)
    (hs : s.cfg.holes = [])
    (rest : ∀ a, walkOn fuel a s = .ok (c, t) →
      ∃ e, s.DstAt (field c.ptr 1 12) e 4 ∧ c.entry = s.dstWords e ∧ t = s.taken e)
    (h : walkChain fuel p o linked s = .ok (c, t)) :
    ∃ e, s.DstAt (field c.ptr 1 12) e 4 ∧ c.entry = s.dstWords e ∧ t = s.taken e := by
  have h' := h
  rw [walkChain_eq] at h'
  obtain ⟨d, u, hr, -⟩ := M.bind_eq_ok h'
  obtain ⟨e, hd, -, -⟩ := readDst_solid w hs hr
  rw [walkChain_at w hd] at h
  split_ifs at h
  · cases h
    exact ⟨e, hd, rfl, rfl⟩
  · cases h
    exact ⟨e, hd, rfl, rfl⟩
  · obtain ⟨a, u, hn, hw⟩ := M.bind_eq_ok h
    obtain rfl := nextLink_ok hn
    exact rest a hw

/-- A walk that ends owns the entry where it ends and has given back every other one (R112, R140). -/
theorem walkChain_solid {fuel : Nat} {o : Int} {linked : Bool} {c : ChainEnd} (w : s.mem.wf = true)
    (hs : s.cfg.holes = []) (h : walkChain fuel p o linked s = .ok (c, t)) :
    ∃ e, s.DstAt (field c.ptr 1 12) e 4 ∧ c.entry = s.dstWords e ∧ t = s.taken e := by
  induction fuel generalizing p o linked with
  | zero => exact walkTurn_solid w hs (fun _ ha => by cases ha) h
  | succ n ih => exact walkTurn_solid (fuel := n + 1) w hs (fun a ha => ih (p := a.1) (o := a.2) (linked := true) ha) h

/-! ## What is left of an access -/

/-- The state that an access through an external pointer leaves (R111, R113): the first word of a segment's entry, and
of the page's entry, with their R and D bits. -/
inductive Touched (k : AccessKind) (s : State) (l : Located) : State → Prop where
  | segment {e : Word} : s.hasWord e = true → s.dstEntry (field l.ptr 1 12) = e → l.entry = e →
      Touched k s l (s.putWord e (touched k (s.word e)))
  | page {e pte : Word} : s.hasWord e = true → s.hasWord pte = true → wordAlign pte ≠ wordAlign e →
      s.dstEntry (field l.ptr 1 12) = e → l.entry = pte →
      Touched k s l ((s.putWord e (k.referenced (s.word e))).putWord pte (touched k (s.word pte)))

theorem State.DstAt.dstEntry {seg : BitVec 12} {e : Word} {n : Nat} (h : s.DstAt seg e n) : s.dstEntry seg = e := by
  rw [← h.entry]
  unfold State.dstEntry
  bv_omega

theorem locateUnpaged_solid {c : ChainEnd} {e : Word} {l : Located} (w : s.mem.wf = true)
    (hd : s.DstAt (field c.ptr 1 12) e 4) (hc : c.entry = s.dstWords e)
    (h : locateUnpaged k c (s.taken e) = .ok (l, t)) : Touched k s l t := by
  have he : c.entry.addr = e := congrArg (fun d : DstWords => d.addr) hc
  have h0 : c.entry.w0 = s.word e := congrArg (fun d : DstWords => d.w0) hc
  obtain ⟨hf, ho⟩ := locateUnpaged_taken (k := k) (c := c) w (he ▸ hd.first)
  rw [he, h0] at hf ho
  cases hx : k.refusal (s.word e) .absentDataSegment ((field c.ptr 1 12).setWidth 32) with
  | some x => rw [hf x hx] at h; cases h
  | none =>
    rw [ho hx, insist_bind] at h
    split_ifs at h
    cases h
    have hp : field c.located.ptr 1 12 = field c.ptr 1 12 :=
      field_setField_apart c.ptr 13 19 1 12 _ (by omega) (by omega) (by omega)
    exact .segment hd.first (hp ▸ hd.dstEntry) he

theorem otherEntry_solid {pe : Word × DstHead} (w : s.mem.wf = true) (hs : s.cfg.holes = [])
    (h : otherEntry p q tl s = .ok (pe, t)) :
    ∃ e, s.DstAt (field pe.1 1 12) e 3 ∧ pe.2 = s.dstHead e ∧ t = s.taken e := by
  obtain ⟨_, u1, h1, h2⟩ := M.bind_eq_ok h
  obtain ⟨-, rfl⟩ := (require_ok_iff ..).1 h1
  obtain ⟨_, u2, h3, h4⟩ := M.bind_eq_ok h2
  obtain rfl : u2 = u1 := by
    rw [checkSegmentNumber_apply] at h3
    split_ifs at h3
    cases h3
    rfl
  obtain ⟨d, u3, h5, h6⟩ := M.bind_eq_ok h4
  obtain ⟨e, he, rfl, rfl⟩ := readDstHead_solid w hs h5
  obtain ⟨_, u4, h7, h8⟩ := M.bind_eq_ok h6
  obtain ⟨-, rfl⟩ := (require_ok_iff ..).1 ((owning_ok_iff ..).1 h7)
  cases h8
  exact ⟨e, he, rfl, rfl⟩

theorem pagedEntry_solid {c : ChainEnd} {e : Word} {pe : Word × DstHead} (w : s.mem.wf = true) (hs : s.cfg.holes = [])
    (hd : s.DstAt (field c.ptr 1 12) e 4) (hc : c.entry = s.dstWords e)
    (h : pagedEntry k c tl (s.taken e) = .ok (pe, t)) :
    ∃ e, s.DstAt (field pe.1 1 12) e 3 ∧ pe.2 = s.dstHead e ∧ t = s.taken e := by
  have he : c.entry.addr = e := congrArg (fun d : DstWords => d.addr) hc
  have h0 : c.entry.w0 = s.word c.entry.addr := by rw [hc]; rfl
  by_cases hl : field (c.ptr + k.index.getD 0#32) 0 13 = field c.ptr 0 13
  · rw [pagedEntry_stays rfl hl] at h
    cases h
    have hq : field (c.ptr + k.index.getD 0#32) 1 12 = field c.ptr 1 12 := field_inner 1 12 hl (by omega) (by omega)
    exact ⟨e, hq ▸ ⟨hd.entry, hd.limit, fun k hk => hd.words k (by omega), hd.free⟩, by rw [hc]; rfl, rfl⟩
  · have hother := pagedEntry_leaves (k := k) (c := c) (tl := tl) w (he ▸ hd.first) h0 rfl hl
    rw [he] at hother
    exact otherEntry_solid w hs (hother.symm.trans h)

theorem takePte_solid {e ptr : Word} {pt : Word × Word} (hs : s.cfg.holes = [])
    (h : takePte ptr (s.dstHead e) (s.taken e) = .ok (pt, t)) (h4 : t.hasWord (pt.1 + 4#32) = true) :
    s.PteAt ptr e pt.1 ∧ pt.2 = (s.taken e).word pt.1 ∧ t = (s.taken e).taken pt.1 := by
  obtain ⟨_, u1, h1, h2⟩ := M.bind_eq_ok h
  obtain ⟨-, rfl⟩ := (insist_ok_iff ..).1 h1
  obtain ⟨_, u2, h3, h5⟩ := M.bind_eq_ok h2
  obtain ⟨hin, rfl⟩ := (require_ok_iff ..).1 h3
  obtain ⟨pte, u3, h6, h7⟩ := M.bind_eq_ok h5
  obtain ⟨⟨-, hlim⟩, hpte, rfl⟩ := (absAddress_ok_iff ..).1 h6
  obtain ⟨w0, u4, h8, h9⟩ := M.bind_eq_ok h7
  obtain ⟨hw, hb, rfl, rfl⟩ := acquire_solid (s := s.taken e) hs h8
  cases h9
  rw [State.hasWord_taken] at hw
  rw [State.hasWord_taken, State.hasWord_taken] at h4
  refine ⟨⟨of_decide_eq_true hin, by exact_mod_cast hlim, ?_, hw, h4, hb⟩, rfl, rfl⟩
  rw [hpte, ← wordOf_add]
  push_cast
  rfl

theorem locateInPage_reads {e ptr : Word} {pt : Word × Word} {l : Located} (hs : s.cfg.holes = [])
    (h : locateInPage k ptr (s.dstHead e) pt u = .ok (l, t)) (hu : u.cfg = s.cfg) :
    u.hasWord (pt.1 + 4#32) = true := by
  obtain ⟨_, v, h1, h2⟩ := M.bind_eq_ok h
  have hv : v.cfg = u.cfg := by rw [← MemoryOnly.writeWord _ _ _ h1]; rfl
  obtain ⟨_, _, h3, -⟩ := M.bind_eq_ok h2
  obtain ⟨hw, -⟩ := readWord_solid (by rw [hv, hu, hs]) h3
  exact (State.hasWord_congr hv _).symm.trans hw

theorem locatePage_solid {e ptr : Word} {l : Located} (w : s.mem.wf = true) (hs : s.cfg.holes = [])
    (hd : s.DstAt (field ptr 1 12) e 3) (h : locatePage k ptr (s.dstHead e) (s.taken e) = .ok (l, t)) :
    Touched k s l t := by
  obtain ⟨hf, ho⟩ := locatePage_taken (k := k) (ptr := ptr) w hd.first
  cases hx : k.tableRefusal (s.word e) ptr with
  | some x => rw [hf x hx] at h; cases h
  | none =>
    rw [ho hx] at h
    obtain ⟨pt, u, h1, h2⟩ := M.bind_eq_ok h
    replace h1 := (owning_ok_iff ..).1 h1
    have hu : u.cfg = s.cfg := by
      have : MemoryOnly (takePte ptr (s.dstHead e)) := MemoryOnly.insist.bind fun _ => .readPte
      rw [← this _ _ _ h1]
      rfl
    obtain ⟨pte, w0⟩ := pt
    obtain ⟨hP, hw0, rfl⟩ := takePte_solid hs h1 (locateInPage_reads hs h2 hu)
    obtain rfl : w0 = (s.taken e).word pte := hw0
    obtain ⟨hf, ho⟩ := locateInPage_taken (k := k) w hd.first hP
    cases hy : k.refusal ((s.taken e).word pte) .absentPage ptr with
    | some x => rw [hf x hy] at h2; cases h2
    | none =>
      rw [ho hy, insist_bind] at h2
      split_ifs at h2
      cases h2
      have hne := hP.apart w hd.first
      have h0 : (s.taken e).word pte = s.word pte := State.word_putWord_other w hd.first hne
      rw [h0]
      exact .page hd.first hP.first hne hd.dstEntry rfl

theorem evalEds_solid {l : Located} (w : s.mem.wf = true) (hs : s.cfg.holes = [])
    (h : evalEds p k s = .ok (l, t)) : Touched k s l t := by
  unfold evalEds at h
  rw [M.get_bind] at h
  obtain ⟨tl, u1, h1, h2⟩ := M.bind_eq_ok h
  obtain ⟨-, -, rfl⟩ := readWord_solid hs h1
  obtain ⟨_, u2, h3, h4⟩ := M.bind_eq_ok h2
  obtain rfl : u2 = u1 := by
    rw [checkSegmentNumber_apply] at h3
    split_ifs at h3
    cases h3
    rfl
  obtain ⟨c, u3, h5, h6⟩ := M.bind_eq_ok h4
  obtain ⟨e, hd, hc, rfl⟩ := walkChain_solid w hs h5
  rw [M.ite_apply] at h6
  split_ifs at h6
  · rw [locatePaged_eq] at h6
    obtain ⟨_, u4, h7, h8⟩ := M.bind_eq_ok h6
    obtain ⟨-, rfl⟩ := (require_ok_iff ..).1 ((owning_ok_iff ..).1 h7)
    obtain ⟨pe, u5, h9, h10⟩ := M.bind_eq_ok h8
    obtain ⟨e', hd', he', rfl⟩ := pagedEntry_solid w hs hd hc h9
    rw [he'] at h10
    exact locatePage_solid w hs hd' h10
  · exact locateUnpaged_solid w hd hc h6

/-! ## The frame -/

theorem Touched.frame {l : Located} (w : s.mem.wf = true) (h : Touched k s l t) :
    t = { s with mem := t.mem } ∧ t.mem.wf = true ∧ (k.probe = true → t = s) ∧
    ∀ n : Nat, (n < (wordAlign l.entry).toNat ∨ (wordAlign l.entry).toNat + 4 ≤ n) →
      (n < (wordAlign (s.dstEntry (field l.ptr 1 12))).toNat ∨
        (wordAlign (s.dstEntry (field l.ptr 1 12))).toNat + 4 ≤ n) → t.byte n = s.byte n := by
  cases h with
  | segment he hentry hl =>
    refine ⟨rfl, State.wf_putWord w he, fun hp => ?_, fun n h1 _ => ?_⟩
    · rw [touched_probe hp, State.putWord_self w he]
    · exact State.putWord_bytes w he n (hl ▸ h1)
  | @page e pte he hpte hne hentry hl =>
    have wm : (s.putWord e (k.referenced (s.word e))).mem.wf = true := State.wf_putWord w he
    refine ⟨rfl, State.wf_putWord wm hpte, fun hp => ?_, fun n h1 h2 => ?_⟩
    · have hr : k.referenced (s.word e) = s.word e := by simp [AccessKind.referenced, hp]
      rw [touched_probe hp, hr, State.putWord_self w he, State.putWord_self w hpte]
    · exact (State.putWord_bytes wm hpte n (hl ▸ h1)).trans (State.putWord_bytes w he n (hentry ▸ h2))

/-- Settles O46, from the entries that an access touches. -/
theorem pointerEvaluationFrame : Obligations.PointerEvaluationFrame := by
  unfold Obligations.PointerEvaluationFrame
  intro s t p k lower l hs w h
  unfold evalDsp at h
  rw [M.get_bind] at h
  cases hp : bit p 0 with
  | false =>
    rw [if_pos hp] at h
    obtain ⟨h1, h2, h3, h4⟩ := (evalEds_solid w hs h).frame w
    exact ⟨h1, h2, fun hor => h3 (hor.resolve_left (by simp)), h4⟩
  | true =>
    rw [if_neg (by simp [hp])] at h
    obtain ⟨_, u, h1, h2⟩ := M.bind_eq_ok h
    obtain ⟨-, rfl⟩ := (checkBounds_ok_iff ..).1 h1
    cases h2
    exact ⟨rfl, w, fun _ => rfl, fun _ _ _ => rfl⟩

end Sys2Proof.Machine

/-! Effective addresses and popped pointers: the bounds, the address and the pointer that a trace reports. -/

namespace Sys2Proof.Machine

variable {α : Type} {s t : State} {k : AccessKind} {p q tl : Word}

/-! ## Sums in words -/

/-- The alignment of an unbounded sum is that of its word (R82). -/
theorem wordOf_mod (a : Int) : (((wordOf a).toNat % 4 : Nat) : Int) = a % 4 := by
  simp only [wordOf, BitVec.toNat_ofInt]
  omega

/-- The low 30 bits of a word, as a mask and as a remainder (R104). -/
theorem mask30_toNat (v : Word) : (v &&& 0x3FFFFFFF#32).toNat = v.toNat % 2 ^ 30 := by
  rw [BitVec.toNat_and]
  exact Nat.and_two_pow_sub_one_eq_mod v.toNat 30

/-- The offset of an indexed pointer, from the sum in words and from the unbounded one (R102). -/
theorem mask30_index (p x : Word) :
    wordOf ((p &&& 0x3FFFFFFF#32).toNat + x.toInt) &&& 0x3FFFFFFF#32 = (p + x) &&& 0x3FFFFFFF#32 := by
  apply BitVec.eq_of_toNat_eq
  rw [mask30_toNat, mask30_toNat, mask30_toNat, BitVec.toInt_eq_toNat_cond]
  simp only [wordOf, BitVec.toNat_ofInt, BitVec.toNat_add]
  split <;> omega

/-- A pointer with a new offset, as masks (R104). -/
theorem retag_eq (p : Word) (o : Int) : retag p o = (p &&& 0xC0000000#32) ||| (wordOf o &&& 0x3FFFFFFF#32) := by
  have h : BitVec.ofInt 30 o = field (wordOf o) 2 30 := by
    apply BitVec.eq_of_toNat_eq
    simp only [field, wordOf, BitVec.extractLsb'_toNat, BitVec.toNat_ofInt]
    omega
  unfold retag
  rw [h]
  exact setField_field p (wordOf o) 2 30

/-! ## Bounds -/

/-- The second word of a doubleword at a does not lie beyond the upper limit (R107). -/
abbrev secondInside (span : Nat) (a top : Int) : Prop := span = 0 ∨ a - a % 4 + span ≤ top

theorem checkBoundsSpan_ok {lo hi a : Int} {span : Nat} (h : lo ≤ a ∧ a ≤ hi)
    (h2 : span = 0 ∨ lo ≤ a - a % 4 + span ∧ a - a % 4 + span ≤ hi) : checkBoundsSpan lo hi a span s = .ok ((), s) := by
  unfold checkBoundsSpan
  rw [M.bind_ok ((checkBounds_ok_iff _ _ _ s s ()).2 ⟨h, rfl⟩), M.ite_apply]
  split
  · next hs => exact (checkBounds_ok_iff _ _ _ s s ()).2 ⟨h2.resolve_left hs, rfl⟩
  · rfl

theorem checkBoundsSpan_out {lo hi a : Int} {span : Nat}
    (h : ¬ ((lo ≤ a ∧ a ≤ hi) ∧ (span = 0 ∨ lo ≤ a - a % 4 + span ∧ a - a % 4 + span ≤ hi))) :
    checkBoundsSpan lo hi a span s = .error (.trap .boundsViolation none s) := by
  unfold checkBoundsSpan
  by_cases h1 : lo ≤ a ∧ a ≤ hi
  · have h2 : span ≠ 0 := fun e => h ⟨h1, .inl e⟩
    have h3 : ¬ (lo ≤ a - a % 4 + span ∧ a - a % 4 + span ≤ hi) := fun g => h ⟨h1, .inr g⟩
    rw [M.bind_ok ((checkBounds_ok_iff _ _ _ s s ()).2 ⟨h1, rfl⟩), if_pos h2]
    exact checkBounds_out (by omega)
  · exact M.bind_error (checkBounds_out (by omega))

/-! ## Addresses that need no data segment pointer -/

/-- m finds the address a where `ok` holds, with the pointer q for a trace unless the base is P+ or P-, and is a
BoundsViolation where not (R100, R107, R632). -/
def FindsAddress (s : State) (b : Base) (m : M Effective) (a : Int) (ok : Prop) (q : Word) : Prop :=
  (ok → a < 2 ^ 29 → ∃ v, m s = .ok ({ addr := wordOf a, pointer := v }, s) ∧ (baseIsCode b = false → v = q)) ∧
    (¬ ok → m s = .error (.trap .boundsViolation none s))

theorem FindsAddress.congr {b : Base} {m m' : M Effective} {a : Int} {ok ok' : Prop} {q q' : Word}
    (h : FindsAddress s b m a ok q) (hm : m' s = m s) (ho : ok' ↔ ok) (hq : baseIsCode b = false → q = q') :
    FindsAddress s b m' a ok' q' := by
  refine ⟨fun h1 h2 => ?_, fun h1 => hm.trans (h.2 (mt ho.2 h1))⟩
  obtain ⟨v, hv, hc⟩ := h.1 (ho.1 h1) h2
  exact ⟨v, hm.trans hv, fun hb => (hc hb).trans (hq hb)⟩

/-- The limits of a base's segment contain a (R107). -/
def State.inBounds (s : State) (b : Base) (a : Int) : Prop := s.baseLow b ≤ a ∧ a ≤ s.baseHigh b

theorem State.baseLow_nonneg (s : State) (b : Base) : 0 ≤ s.baseLow b := by
  cases b <;> exact Int.natCast_nonneg _

theorem direct_finds {b : Base} {a : Int} {span : Nat} {v : Word} :
    FindsAddress s b (direct b a span v) a
      (s.inBounds b a ∧ (span = 0 ∨ s.inBounds b (a - a % 4 + span))) v := by
  refine ⟨fun h h1 => ⟨v, ?_, fun _ => rfl⟩, fun h => ?_⟩
  · have h0 : 0 ≤ a := (s.baseLow_nonneg b).trans h.1.1
    unfold direct
    rw [M.get_bind, M.bind_ok (checkBoundsSpan_ok h.1 h.2), M.bind_ok (absAddress_ok h0 h1 s), M.pure_apply]
  · unfold direct
    rw [M.get_bind]
    exact M.bind_error (checkBoundsSpan_out h)


/-! ## The kind of pointer that an evaluation gives -/

/-- Every answer of m has the property P. -/
def Answers (m : M α) (P : α → Prop) : Prop := ∀ s a t, m s = .ok (a, t) → P a

theorem Answers.pure {P : α → Prop} {a : α} (h : P a) : Answers (pure a) P := by
  intro s b t hb
  cases hb
  exact h

theorem Answers.bind {β : Type} {m : M α} {f : α → M β} {P : β → Prop} (h : ∀ a, Answers (f a) P) :
    Answers (m >>= f) P := by
  intro s b t hb
  obtain ⟨a, u, -, hu⟩ := M.bind_eq_ok hb
  exact h a _ _ _ hu

theorem Answers.bind_of {β : Type} {m : M α} {f : α → M β} {P : α → Prop} {Q : β → Prop} (hm : Answers m P)
    (h : ∀ a, P a → Answers (f a) Q) : Answers (m >>= f) Q := by
  intro s b t hb
  obtain ⟨a, u, ha, hu⟩ := M.bind_eq_ok hb
  exact h a (hm _ _ _ ha) _ _ _ hu

theorem Answers.ite {c : Prop} [Decidable c] {m n : M α} {P : α → Prop} (h : c → Answers m P) (g : ¬ c → Answers n P) :
    Answers (if c then m else n) P := by
  by_cases hc : c
  · rw [if_pos hc]; exact h hc
  · rw [if_neg hc]; exact g hc

theorem Answers.require {c : Bool} {tr : Trap} : Answers (require c tr) fun _ => c = true :=
  fun _ _ _ h => ((require_ok_iff ..).1 h).1

theorem Answers.nextLink {e : DstWords} {o : Int} : Answers (nextLink e p o) fun a => bit a.1 0 = bit p 0 := by
  have keeps (v : BitVec 12) : bit (setField p 1 12 v) 0 = bit p 0 := by
    rw [bit_setField p 1 12 0 v (by omega) (by omega), if_neg (by omega)]
  exact .ite (fun _ => .bind fun _ => .pure (keeps _)) fun _ => .bind fun _ => .pure (keeps _)

theorem Answers.walkChain {fuel : Nat} {o : Int} {linked : Bool} :
    Answers (walkChain fuel p o linked) fun c => bit c.ptr 0 = bit p 0 := by
  induction fuel generalizing p o linked with
  | zero =>
    rw [walkChain_eq]
    refine .bind fun e => .ite (fun _ => .pure rfl) fun _ => .bind fun _ => .ite (fun _ => .pure rfl) fun _ => ?_
    exact .bind fun _ => .bind fun _ => fun _ _ _ h => by cases h
  | succ n ih =>
    rw [walkChain_eq]
    refine .bind fun e => .ite (fun _ => .pure rfl) fun _ => .bind fun _ => .ite (fun _ => .pure rfl) fun _ => ?_
    exact .bind fun _ => .bind_of Answers.nextLink fun a ha => fun _ _ _ h => (ih _ _ _ h).trans ha

theorem Answers.locateUnpaged {c : ChainEnd} : Answers (locateUnpaged k c) fun l => bit l.ptr 0 = bit c.ptr 0 := by
  refine .bind fun _ => .bind fun _ => .bind fun _ => .pure ?_
  rw [bit_setField c.ptr 13 19 0 _ (by omega) (by omega), if_neg (by omega)]

/-- Words that agree in a field at their upper end agree in bit 0. -/
theorem bit_zero_congr {m : Nat} (hm : 0 < m) (hw : 0 + m ≤ 32) (h : field p 0 m = field q 0 m) :
    bit p 0 = bit q 0 := by
  have hp := bit_field p hw hm
  have hq := bit_field q hw hm
  rw [h] at hp
  exact hp.symm.trans hq

theorem Answers.pagedEntry {c : ChainEnd} : Answers (pagedEntry k c tl) fun pe => bit pe.1 0 = bit c.ptr 0 := by
  unfold Sys2Proof.Machine.pagedEntry
  cases k.index with
  | none => exact .pure rfl
  | some x =>
    refine .ite (fun _ => .bind fun _ => .bind_of .require fun _ h => ?_) fun h => .pure ?_
    · exact .bind fun _ => .bind fun _ => .bind fun _ =>
        .pure (bit_zero_congr (by omega) (by omega) (of_decide_eq_true h))
    · exact bit_zero_congr (by omega) (by omega) (not_not.1 h)

theorem Answers.locatePaged {c : ChainEnd} : Answers (locatePaged k c tl) fun l => bit l.ptr 0 = bit c.ptr 0 := by
  refine .bind fun _ => .bind_of Answers.pagedEntry fun pe h => ?_
  exact .bind fun _ => .bind fun _ => .bind fun _ => .bind fun _ => .bind fun _ => .bind fun _ => .bind fun _ => .pure h

/-- An external pointer leads to an external pointer (R111, R113). -/
theorem Answers.evalEds : Answers (evalEds p k) fun l => bit l.ptr 0 = bit p 0 := by
  refine .bind fun _ => .bind fun _ => .bind fun _ => .bind_of Answers.walkChain fun c hc => ?_
  rw [← hc]
  exact .ite (fun _ => .locatePaged) fun _ => .locateUnpaged

/-! ## Pointers to the stack and to the global segment -/

/-- The register a pointer to the stack or to the global segment starts from (R104, R105). -/
def State.pointerBase (s : State) (p : Word) : Word := if bit p 1 then s.SB else s.DB

/-- The upper limit of a pointer to the stack, n bytes lower for the words to pop, or to the global segment (R110). -/
def State.pointerTop (s : State) (p : Word) (n : Nat) : Int := if bit p 1 then s.S.toNat - n else s.DL.toNat

/-- What a pointer to the stack or to the global segment gives at the address a (R110). -/
def State.baseLocated (s : State) (p : Word) (n : Nat) (a : Int) : Located :=
  { addr := wordOf a, ptr := p, offset := a - (s.pointerBase p).toNat, room := s.pointerTop p n - a, entry := 0#32,
    paged := false }

section
variable {n span : Nat} {a : Int} {β : Type} {f : Located → M β} {l : Located} {e : Stop}

theorem evalDsp_inside (hp : bit p 0 = true) (ha : a = (s.pointerBase p).toNat + (p &&& 0x3FFFFFFF#32).toNat + k.xx)
    (h : ((s.pointerBase p).toNat : Int) ≤ a ∧ a ≤ s.pointerTop p n) :
    evalDsp p k n s = .ok (s.baseLocated p n a, s) :=
  evalDsp_base hp rfl rfl (by rw [ha, pointerOffset_mask]) h

theorem require_decide {c : Prop} [Decidable c] {tr : Trap} {w : Option Word} (s : State) :
    require (decide c) tr w s = if c then .ok ((), s) else .error (.trap tr w s) := by
  by_cases h : c <;> simp [h, require]

theorem evalDsp_outside (hp : bit p 0 = true) (ha : a = (s.pointerBase p).toNat + (p &&& 0x3FFFFFFF#32).toNat + k.xx)
    (h : ¬ (((s.pointerBase p).toNat : Int) ≤ a ∧ a ≤ s.pointerTop p n)) :
    evalDsp p k n s = .error (.trap .boundsViolation none s) := by
  rw [← pointerOffset_mask] at ha
  subst ha
  unfold evalDsp
  simp only [M.get_bind, hp, Bool.true_eq_false, if_false]
  exact M.bind_error (checkBounds_out (by unfold State.pointerTop State.pointerBase at h; omega))

/-- The second word of a pointer to the stack or to the global segment (R107). -/
theorem checkSecond_base (hp : bit p 0 = true) :
    checkSecond (s.baseLocated p n a) span t =
      if secondInside span a (s.pointerTop p n) then .ok ((), t) else .error (.trap .boundsViolation none t) := by
  have hc : (decide (span = 0) || decide ((span : Int) ≤ s.pointerTop p n - a + (wordOf a).toNat % 4)) =
      decide (secondInside span a (s.pointerTop p n)) := by
    have hm := wordOf_mod a
    rw [← Bool.decide_or, decide_eq_decide]
    omega
  unfold checkSecond
  rw [show bit (s.baseLocated p n a).ptr 0 = true from hp, if_pos rfl]
  exact (congrArg (fun c => require c .boundsViolation none t) hc).trans (require_decide t)

/-- An operand whose pointer leads to the stack or to the global segment (R107, R110). -/
theorem evalDsp_checked_inside (hp : bit p 0 = true)
    (ha : a = (s.pointerBase p).toNat + (p &&& 0x3FFFFFFF#32).toNat + k.xx)
    (h : ((s.pointerBase p).toNat : Int) ≤ a ∧ a ≤ s.pointerTop p n) (h2 : secondInside span a (s.pointerTop p n)) :
    (evalDsp p k n >>= fun l => checkSecond l span >>= fun _ => f l) s = f (s.baseLocated p n a) s := by
  rw [M.bind_ok (evalDsp_inside hp ha h), M.bind_ok ((checkSecond_base hp).trans (if_pos h2))]

theorem evalDsp_checked_outside (hp : bit p 0 = true)
    (ha : a = (s.pointerBase p).toNat + (p &&& 0x3FFFFFFF#32).toNat + k.xx)
    (h : ¬ ((((s.pointerBase p).toNat : Int) ≤ a ∧ a ≤ s.pointerTop p n) ∧ secondInside span a (s.pointerTop p n))) :
    (evalDsp p k n >>= fun l => checkSecond l span >>= fun _ => f l) s =
      .error (.trap .boundsViolation none s) := by
  by_cases h1 : ((s.pointerBase p).toNat : Int) ≤ a ∧ a ≤ s.pointerTop p n
  · rw [M.bind_ok (evalDsp_inside hp ha h1)]
    exact M.bind_error ((checkSecond_base hp).trans (if_neg fun h2 => h ⟨h1, h2⟩))
  · exact M.bind_error (evalDsp_outside hp ha h1)

/-! ## External pointers -/

theorem evalDsp_external (hp : bit p 0 = false) : evalDsp p k n s = evalEds p k s := by
  unfold evalDsp
  rw [M.get_bind]
  exact congrFun (if_pos hp) _

theorem checkSecond_external (hl : bit l.ptr 0 = false) :
    checkSecond l span t = if span = 0 ∨ (span : Int) ≤ l.room + l.addr.toNat % 4 then .ok ((), t)
      else .error (.trap .edsBoundsViolation none t) := by
  unfold checkSecond
  rw [hl, ← Bool.decide_or]
  exact require_decide t

/-- An operand whose pointer is external (R107, R111): the second word is tested after the whole evaluation. -/
theorem evalDsp_checked_external (hp : bit p 0 = false) (h : evalEds p k s = .ok (l, t)) :
    (evalDsp p k n >>= fun l => checkSecond l span >>= fun _ => f l) s =
      if span = 0 ∨ (span : Int) ≤ l.room + l.addr.toNat % 4 then f l t
      else .error (.trap .edsBoundsViolation none t) := by
  have hl : bit l.ptr 0 = false := (Answers.evalEds _ _ _ h).trans hp
  have hc := checkSecond_external (t := t) (span := span) hl
  rw [M.bind_ok ((evalDsp_external hp).trans h)]
  by_cases h2 : span = 0 ∨ (span : Int) ≤ l.room + l.addr.toNat % 4
  · rw [M.bind_ok (hc.trans (if_pos h2)), if_pos h2]
  · rw [M.bind_error (hc.trans (if_neg h2)), if_neg h2]

theorem evalDsp_checked_error (hp : bit p 0 = false) (h : evalEds p k s = .error e) :
    (evalDsp p k n >>= fun l => checkSecond l span >>= fun _ => f l) s = .error e :=
  M.bind_error ((evalDsp_external hp).trans h)

end
end Sys2Proof.Machine

/-! Effective addresses through every base and every kind of pointer. -/

namespace Sys2Proof.Machine

variable {s t : State} {b : Base} {off n : Nat} {x modmem : Bool} {p : Word} {l : Located} {e : Stop}

/-- The pointer with a tag to the address a in the segment that starts at base (R104, R632). -/
def tagged (tag base : Word) (a : Int) : Word := tag ||| (wordOf (a - base.toNat) &&& 0x3FFFFFFF#32)

/-- The pointer that a trace reports for an address found without a data segment pointer (R632). -/
def State.pointerTo (s : State) (b : Base) (a : Int) : Word :=
  if baseIsGlobal b then tagged 0x80000000#32 s.DB a else tagged 0xC0000000#32 s.SB a

theorem retag_eq_tagged {tag base : Word} {a : Int} (h : tag &&& 0xC0000000#32 = tag) :
    retag tag (a - base.toNat) = tagged tag base a := by
  rw [retag_eq, h, tagged]

/-- A direct address (R100). -/
theorem effective_direct_finds {span : Nat} {a : Int} (ha : a = s.baseAddr b off + s.indexOf x) :
    FindsAddress s b (effective b off false x modmem span) a
      (s.inBounds b a ∧ (span = 0 ∨ s.inBounds b (a - a % 4 + span))) (s.pointerTo b a) := by
  subst ha
  refine direct_finds.congr ?_ Iff.rfl fun _ => rfl
  unfold State.pointerTo
  rw [← retag_eq_tagged (by decide), ← retag_eq_tagged (by decide)]
  rfl

/-- The pointer of an indirect address lies outside the bounds of its base (R107). -/
theorem effective_indirect_out {span : Nat} (h : ¬ s.inBounds b (s.baseAddr b off)) :
    effective b off true x modmem span s = .error (.trap .boundsViolation none s) :=
  have hr := readPointer_out (s := s) (b := b) (a := s.baseAddr b off) (by unfold State.inBounds at h; omega)
  (M.get_bind _ s).trans (M.bind_error hr)

/-- An indirect address goes on with the word that the base and the offset name (R100). -/
theorem effective_indirect {span : Nat} (h : s.inBounds b (s.baseAddr b off)) (ha : s.hasAddr (s.baseAddr b off) = true)
    (hp : p = s.word (wordOf (s.baseAddr b off))) :
    effective b off true x modmem span s =
      if baseIsCode b then direct b (s.baseAddr b off + p.toInt + s.indexOf x) span 0#32 s
      else (evalDsp p (s.access (s.indexWord x) modmem) 0 >>= fun l => checkSecond l span >>= fun _ =>
        pure { addr := l.addr, pointer := l.tracePointer p (if x then s.X else 0#32) }) s := by
  subst hp
  unfold effective
  rw [M.get_bind]
  simp only [Bool.true_eq_false, if_false]
  rw [M.bind_ok (readPointer_ok h ha), M.ite_apply]
  rfl

/-- The index of an operand, as the instruction and as its access name it (R102). -/
theorem access_xx : (s.access (s.indexWord x) modmem).xx = s.indexOf x := by
  cases x <;> rfl

/-- The pointer that a trace reports for an operand in the stack or the global segment (R632). -/
theorem tracePointer_base (hp : bit p 0 = true) {a : Int} {base : Word}
    (ha : a = base.toNat + (p &&& 0x3FFFFFFF#32).toNat + s.indexOf x) :
    l.tracePointer p (if x then s.X else 0#32) = tagged (p &&& 0xC0000000#32) base a := by
  have hx : s.indexOf x = (if x then s.X else 0#32).toInt := by cases x <;> rfl
  have ho : a - base.toNat = (p &&& 0x3FFFFFFF#32).toNat + (if x then s.X else 0#32).toInt := by omega
  rw [l.tracePointer_eq, if_pos hp, tagged, ho, mask30_index]

/-- An indirect address through a pointer to the stack or to the global segment (R100, R110). -/
theorem effective_base_finds {span : Nat} {a : Int} (h : s.inBounds b (s.baseAddr b off))
    (hm : s.hasAddr (s.baseAddr b off) = true) (hw : p = s.word (wordOf (s.baseAddr b off)))
    (hb : baseIsCode b = false) (hp : bit p 0 = true)
    (ha : a = (s.pointerBase p).toNat + (p &&& 0x3FFFFFFF#32).toNat + s.indexOf x) :
    FindsAddress s b (effective b off true x modmem span) a
      ((((s.pointerBase p).toNat : Int) ≤ a ∧ a ≤ s.pointerTop p 0) ∧ secondInside span a (s.pointerTop p 0))
      (tagged (p &&& 0xC0000000#32) (s.pointerBase p) a) := by
  have he := effective_indirect (x := x) (modmem := modmem) (span := span) h hm hw
  rw [if_neg (by simp [hb])] at he
  refine ⟨fun hi _ => ⟨_, he.trans (evalDsp_checked_inside hp (access_xx ▸ ha) hi.1 hi.2), fun _ => ?_⟩, fun ho =>
    he.trans (evalDsp_checked_outside hp (access_xx ▸ ha) ho)⟩
  exact tracePointer_base hp ha

/-- An indirect address in the code segment is self-relative (R100). -/
theorem effective_code_finds {a : Int} (h : s.inBounds b (s.baseAddr b off))
    (hm : s.hasAddr (s.baseAddr b off) = true) (hw : p = s.word (wordOf (s.baseAddr b off)))
    (hb : baseIsCode b = true) (ha : a = s.baseAddr b off + p.toInt + s.indexOf x) :
    FindsAddress s b (effective b off true x modmem 0) a (s.inBounds b a) 0#32 := by
  subst ha
  have he := effective_indirect (x := x) (modmem := modmem) (span := 0) h hm hw
  rw [if_pos hb] at he
  exact direct_finds.congr he (by simp) fun _ => rfl

/-- An indirect address through an external pointer (R100, R111). -/
theorem effective_external {span : Nat} (h : s.inBounds b (s.baseAddr b off))
    (hm : s.hasAddr (s.baseAddr b off) = true) (hw : p = s.word (wordOf (s.baseAddr b off)))
    (hb : baseIsCode b = false) (hp : bit p 0 = false)
    (hl : evalEds p (s.access (s.indexWord x) modmem) s = .ok (l, t)) :
    effective b off true x modmem span s =
      if span = 0 ∨ (span : Int) ≤ l.room + l.addr.toNat % 4 then
        .ok ({ addr := l.addr, pointer := l.tracePointer p (if x then s.X else 0#32) }, t)
      else .error (.trap .edsBoundsViolation none t) :=
  (effective_indirect h hm hw).trans ((if_neg (by simp [hb])).trans (evalDsp_checked_external hp hl))

theorem effective_external_error {span : Nat} (h : s.inBounds b (s.baseAddr b off))
    (hm : s.hasAddr (s.baseAddr b off) = true) (hw : p = s.word (wordOf (s.baseAddr b off)))
    (hb : baseIsCode b = false) (hp : bit p 0 = false)
    (he : evalEds p (s.access (s.indexWord x) modmem) s = .error e) :
    effective b off true x modmem span s = .error e :=
  (effective_indirect h hm hw).trans ((if_neg (by simp [hb])).trans (evalDsp_checked_error hp he))

/-! ## Popped pointers -/

/-- m finds the address a through the pointer p, n bytes being popped, where `ok` holds, and is a BoundsViolation where
not (R110). -/
def FindsLocated (s : State) (p : Word) (m : M Located) (n : Nat) (a : Int) (ok : Prop) : Prop :=
  (ok → a < 2 ^ 29 → ∃ v, m s = .ok (v, s) ∧ v.addr = wordOf a ∧ v.room = s.pointerTop p n - a) ∧
    (¬ ok → m s = .error (.trap .boundsViolation none s))

theorem evalDsp_finds {k : AccessKind} {a : Int} (hp : bit p 0 = true)
    (ha : a = (s.pointerBase p).toNat + (p &&& 0x3FFFFFFF#32).toNat + k.xx) :
    FindsLocated s p (evalDsp p k n) n a (((s.pointerBase p).toNat : Int) ≤ a ∧ a ≤ s.pointerTop p n) :=
  ⟨fun h _ => ⟨_, evalDsp_inside hp ha h, rfl, rfl⟩, evalDsp_outside hp ha⟩

theorem evalPopped_finds {span : Nat} {a : Int} (hp : bit p 0 = true)
    (ha : a = (s.pointerBase p).toNat + (p &&& 0x3FFFFFFF#32).toNat + s.indexOf x) :
    FindsLocated s p (evalPopped p x modmem span n) (4 * n) a
      ((((s.pointerBase p).toNat : Int) ≤ a ∧ a ≤ s.pointerTop p (4 * n)) ∧
        secondInside span a (s.pointerTop p (4 * n))) :=
  ⟨fun h _ => ⟨_, evalDsp_checked_inside hp (access_xx ▸ ha) h.1 h.2, rfl, rfl⟩,
    evalDsp_checked_outside hp (access_xx ▸ ha)⟩

theorem FindsLocated.congr {m : M Located} {a : Int} {ok ok' : Prop} (h : FindsLocated s p m n a ok) (ho : ok' ↔ ok) :
    FindsLocated s p m n a ok' :=
  ⟨fun hi => h.1 (ho.1 hi), fun hi => h.2 (mt ho.2 hi)⟩

theorem evalPopped_external {span : Nat} (hp : bit p 0 = false)
    (hl : evalEds p (s.access (s.indexWord x) modmem) s = .ok (l, t)) :
    evalPopped p x modmem span n s =
      if span = 0 ∨ (span : Int) ≤ l.room + l.addr.toNat % 4 then .ok (l, t)
      else .error (.trap .edsBoundsViolation none t) :=
  evalDsp_checked_external hp hl

theorem evalPopped_external_error {span : Nat} (hp : bit p 0 = false)
    (he : evalEds p (s.access (s.indexWord x) modmem) s = .error e) : evalPopped p x modmem span n s = .error e :=
  evalDsp_checked_error hp he

/-! ## The obligation -/

theorem pointerTop_zero : s.pointerTop p 0 = (if bit p 1 then s.S else s.DL).toNat := by
  unfold State.pointerTop
  split <;> simp

theorem secondInside_zero (a top : Int) : secondInside 0 a top := .inl rfl

theorem secondInside_four (a top : Int) : secondInside 4 a top ↔ a - a % 4 + 4 ≤ top := by
  unfold secondInside
  omega

/-- Settles O43: direct addresses by the bounds of their base, indirect ones and popped pointers by the evaluation of
the pointer followed by the test of the second word. -/
theorem effectiveAddresses : Obligations.EffectiveAddresses := by
  unfold Obligations.EffectiveAddresses
  constructor
  · intro s t b off x modmem l e xx loc inside tagOf pointerTo finds p base last target second pointed q used
    have hin (a : Int) : inside a ↔ s.inBounds b a := by cases b <;> exact Iff.rfl
    have hto (a : Int) : s.pointerTo b a = pointerTo a := by cases b <;> rfl
    have hloc : loc = s.baseAddr b off := by cases b <;> rfl
    have hp : p = s.word (wordOf (s.baseAddr b off)) := by rw [← hloc]
    rw [hin loc, hloc]
    refine ⟨?_, ?_, effective_indirect_out, fun hi hm => ⟨fun hb => ?_, fun hb h0 => ⟨?_, ?_⟩, fun hb h0 =>
      ⟨fun he => ⟨effective_external_error hi hm hp hb h0 he, effective_external_error hi hm hp hb h0 he⟩,
        fun hl => ⟨?_, ?_⟩⟩⟩⟩
    · exact (effective_direct_finds rfl).congr rfl (by simp [hin, xx, State.indexOf]) fun _ => hto _
    · exact (effective_direct_finds rfl).congr rfl (by simp [hin, second, xx, State.indexOf]) fun _ => hto _
    · exact (effective_code_finds hi hm hp hb rfl).congr rfl (hin _) fun _ => rfl
    · exact (effective_base_finds hi hm hp hb h0 rfl).congr rfl
        (by rw [pointerTop_zero]; exact (and_iff_left (secondInside_zero _ _)).symm) fun _ => rfl
    · exact (effective_base_finds hi hm hp hb h0 rfl).congr rfl
        (by rw [pointerTop_zero, secondInside_four]; exact Iff.rfl) fun _ => rfl
    all_goals
      have hq : l.tracePointer p (if x then s.X else 0#32) = used := by rw [l.tracePointer_eq, if_neg (by simp [h0])]
      rw [effective_external hi hm hp hb h0 hl, hq]
      simp
  · intro s t p k x modmem n l e base last target second finds within a pointed
    have hxx : k.xx = k.index.elim 0 BitVec.toInt := by cases h : k.index <;> simp [AccessKind.xx, h]
    refine ⟨fun hp => ⟨evalDsp_finds hp (by rw [hxx]; rfl), ?_, ?_⟩, fun hp => ⟨evalDsp_external hp, fun he =>
      ⟨evalPopped_external_error hp he, evalPopped_external_error hp he⟩, fun hl => ⟨?_, ?_⟩⟩⟩
    · exact (evalPopped_finds hp rfl).congr (and_iff_left (secondInside_zero _ _)).symm
    · exact (evalPopped_finds hp rfl).congr (by rw [secondInside_four]; exact Iff.rfl)
    all_goals
      rw [evalPopped_external hp hl]
      simp

end Sys2Proof.Machine

/-! Transfers through program pointers. -/

namespace Sys2Proof.Machine

variable {s t : State} {p e w0 : Word} {c old : BitVec 12}

/-! ## The entry of a code segment -/

theorem cstEntry_unnamed (h : namesEntry c = false) :
    cstEntry c s = .error (.trap .externalProgramPointer none s) := by
  refine M.bind_error ?_
  rw [show (decide (c.toNat % 1024 ≠ 0) || decide (c.toNat = 2048)) = false from h]
  exact require_false ..

theorem State.HasCst.cstEntry_apply (h : s.HasCst c) (hn : namesEntry c = true) :
    cstEntry c s = if s.cstWithin c then .ok (s.cstOf c, s) else .error (.trap .cstViolation none s) := by
  unfold cstEntry
  rw [show (decide (c.toNat % 1024 ≠ 0) || decide (c.toNat = 2048)) = true from hn, M.bind_ok (require_true ..),
    M.bind_ok (cstBase_present h.pointer), M.bind_ok (readWord_present h.table), require_bind]
  exact if_congr Iff.rfl h.cstAddress rfl

/-- What `isCounted` lists (R122, R124). -/
structure State.IsCounted (s : State) (c : BitVec 12) : Prop where
  cst : s.HasCst c
  names : namesEntry c = true
  within : s.cstWithin c = true
  free : bit (s.word (s.cstOf c)) 0 = false

theorem State.isCounted_iff : s.isCounted c = true ↔ s.IsCounted c := by
  simp only [State.isCounted, Bool.and_eq_true, Bool.not_eq_true', State.hasCst_iff]
  exact ⟨fun ⟨⟨⟨h1, h2⟩, h3⟩, h4⟩ => ⟨h1, h2, h3, h4⟩, fun ⟨h1, h2, h3, h4⟩ => ⟨⟨⟨h1, h2⟩, h3⟩, h4⟩⟩

theorem State.IsCounted.cstEntry_ok (h : s.IsCounted c) : cstEntry c s = .ok (s.cstOf c, s) :=
  (h.cst.cstEntry_apply h.names).trans (if_pos h.within)

theorem State.IsCounted.cstEntryUntested_ok (h : s.IsCounted c) : cstEntryUntested c s = .ok (s.cstOf c, s) := by
  unfold cstEntryUntested
  rw [M.bind_ok (cstBase_present h.cst.pointer)]
  exact h.cst.cstAddress

/-! ## The entry of the segment that is left, while another one is owned -/

/-- The entry of a code segment, the table and the pointer to it lie apart from the entry e. -/
structure State.CstApart (s : State) (c : BitVec 12) (e : Word) : Prop where
  entry : wordAlign (s.cstOf c) ≠ wordAlign e
  pointer : wordAlign (s.cstPointer c) ≠ wordAlign e
  table : wordAlign (s.cstTable c) ≠ wordAlign e

theorem State.canLeave_iff {new : BitVec 12} :
    s.canLeave old new = true ↔ s.IsCounted old ∧ s.CstApart old (s.cstOf new) := by
  simp only [State.canLeave, Bool.and_eq_true, State.isCounted_iff, List.all_cons, List.all_nil, bne_iff_ne, and_true]
  exact ⟨fun ⟨h, h1, h2, h3⟩ => ⟨h, h1, h2, h3⟩, fun ⟨h, h1, h2, h3⟩ => ⟨h, h1, h2, h3⟩⟩

section
variable (w : s.mem.wf = true) (he : s.hasWord e = true) (ha : s.CstApart c e)
include w he ha

theorem State.CstApart.cstTable_taken : (s.taken e).cstTable c = s.cstTable c :=
  State.word_putWord_other w he ha.pointer

theorem State.CstApart.cstOf_taken : (s.taken e).cstOf c = s.cstOf c := by
  unfold State.cstOf
  rw [ha.cstTable_taken w he]

theorem State.CstApart.word_taken : (s.taken e).word (s.cstOf c) = s.word (s.cstOf c) :=
  State.word_putWord_other w he ha.entry

theorem State.CstApart.isCounted_taken (h : s.IsCounted c) : (s.taken e).IsCounted c := by
  have hto := ha.cstOf_taken w he
  have htt := ha.cstTable_taken w he
  obtain ⟨⟨h1, h2, h3, h4, h5, h6⟩, hn, hi, hf⟩ := h
  refine ⟨⟨?_, ?_, ?_, ?_, ?_, ?_⟩, hn, ?_, ?_⟩
  · rwa [State.hasWord_taken]
  · rwa [htt, State.hasWord_taken]
  · rwa [htt]
  · rwa [hto, State.hasWord_taken]
  · rwa [hto, State.hasWord_taken]
  · rwa [hto, State.hasWord_taken]
  · unfold State.cstWithin at *
    rwa [htt, show (s.taken e).word (s.cstTable c) = s.word (s.cstTable c) from State.word_putWord_other w he ha.table]
  · rwa [hto, ha.word_taken w he]

end

/-! ## Use counts -/

theorem readCount_free (w : s.mem.wf = true) (h : s.hasWord e = true) (hb : bit (s.word e) 0 = false) :
    readCount e s = .ok (useCount (s.word e), s) := by
  unfold readCount
  rw [M.bind_ok (acquire_free h hb), M.bind_ok (release_taken w h), State.putWord_self w h, M.pure_apply]

theorem decUse_free (w : s.mem.wf = true) (h : s.hasWord e = true) (hb : bit (s.word e) 0 = false) :
    decUse e s = .ok ((), s.putWord e (setField (s.word e) 1 12 (useCount (s.word e) + -1#12))) := by
  unfold decUse
  rw [M.bind_ok (acquire_free h hb), release_taken w h, BitVec.sub_eq_add_neg]
  rfl

theorem checkOldCount_apply (w : s.mem.wf = true) (h0 : old ≠ 0#12) (h : s.IsCounted old) :
    checkOldCount old s =
      if useCount (s.word (s.cstOf old)) = 0#12 then .error (.trap .systemError (some 1#32) s) else .ok ((), s) := by
  have hr : (decide (useCount (s.word (s.cstOf old)) ≠ 0#12)) = !decide (useCount (s.word (s.cstOf old)) = 0#12) :=
    decide_not
  unfold checkOldCount
  refine (congrFun (if_pos h0) s).trans ?_
  rw [M.bind_ok h.cstEntry_ok, M.bind_ok (readCount_free w h.cst.first h.free)]
  exact (require_decide s).trans (by split <;> simp_all)

theorem leaveSegment_zero (h0 : old = 0#12) : leaveSegment old s = .ok ((), s) :=
  congrFun (if_neg (not_not.2 h0)) s

theorem leaveSegment_ok (w : s.mem.wf = true) (h0 : old ≠ 0#12) (h : s.IsCounted old) :
    leaveSegment old s = .ok ((), s.counted old (-1#12)) := by
  unfold leaveSegment
  refine (congrFun (if_pos h0) s).trans ?_
  rw [M.bind_ok h.cstEntryUntested_ok]
  exact decUse_free w h.cst.first h.free

/-! ## The change of the segment -/

theorem setField_self {w : Nat} (v : BitVec w) (n m : Nat) : setField v n m (field v n m) = v := by
  rw [setField_field]
  ext i hi
  cases h : (fieldMask w n m)[i] <;> simp [h]

/-- Setting the reference bit leaves the use count as it is, whatever order they are set in (R121). -/
theorem counted_reference (w0 : Word) (n : BitVec 12) :
    setField (setBit w0 29 true) 1 12 (useCount (setBit w0 29 true) + n) =
      setBit (setField w0 1 12 (useCount w0 + n)) 29 true := by
  have hc : useCount (setBit w0 29 true) = useCount w0 :=
    field_setField_apart w0 29 1 1 12 _ (by omega) (by omega) (by omega)
  rw [hc]
  refine eq_of_bits fun k hk => ?_
  rw [bit_setField _ 1 12 k _ (by omega) hk, bit_setBit _ 29 k true (by omega) hk,
    bit_setBit _ 29 k true (by omega) hk, bit_setField _ 1 12 k _ (by omega) hk]
  by_cases h : k = 29
  · rw [if_neg (by omega), if_pos h]
    exact (if_pos h).symm
  · rw [if_neg h]
    by_cases h1 : 1 ≤ k ∧ k < 1 + 12
    · rw [if_pos h1]
      exact (if_neg h).symm
    · rw [if_neg h1]
      exact (if_neg h).symm

/-- The first word of an entry that a transfer has entered, its use count n more (R133, R121). -/
def entered (w0 : Word) (n : BitVec 12) : Word := setBit (setField w0 1 12 (useCount w0 + n)) 29 true

/-- The state u in the segment of the plan g, the first word of whose entry has become `entered` (R133). -/
def State.entering (u : State) (g : SegmentPlan) (n : BitVec 12) : State :=
  { u.putWord g.ent (entered g.w0 n) with PB := g.pb, PL := g.pl }

section
variable {g : SegmentPlan}

theorem commitUse_same (he : s.hasWord g.ent = true) (hc : s.csn = g.csn) :
    commitUse g s = .ok ((), s.entering g 0#12) := by
  have hw : setBit g.w0 29 true = entered g.w0 0#12 := by
    unfold entered
    rw [BitVec.add_zero, useCount, setField_self]
  unfold commitUse
  rw [M.get_bind, hw]
  refine (congrFun (if_pos hc) _).trans ?_
  rw [M.bind_ok (release_present he)]
  rfl

/-- The entry gets its new first word when the segment that is left has got its own (R133). -/
theorem commitUse_other {u : State} (hc : s.csn ≠ g.csn) (hl : leaveSegment s.csn s = .ok ((), u))
    (hu : u.hasWord g.ent = true) : commitUse g s = .ok ((), u.entering g 1#12) := by
  have hd : g.during (leaveSegment s.csn) s = .ok ((), u) := owning_ok hl
  have hr := release_present (w := entered g.w0 1#12) hu
  unfold entered at hr
  rw [← counted_reference] at hr
  unfold commitUse
  rw [M.get_bind]
  refine (congrFun (if_neg hc) _).trans ((M.bind_ok hd).trans ((M.bind_ok hr).trans ?_))
  rw [counted_reference]
  rfl

/-- The segment left and the segment entered have entries apart from each other, so that it does not matter which of
them is owned while the other changes (R133). -/
theorem State.counted_taken_entering (w : s.mem.wf = true) (he : s.hasWord g.ent = true) (h : s.HasCst old)
    (ha : s.CstApart old g.ent) (n m : BitVec 12) :
    ((s.taken g.ent).counted old n).entering g m = (s.counted old n).entering g m := by
  unfold State.counted State.entering
  rw [ha.cstOf_taken w he, ha.word_taken w he]
  refine congrArg (fun v : State => { v with PB := g.pb, PL := g.pl }) ?_
  rw [← State.putWord_twice (v := 0xFFFFFFFF#32) (State.wf_putWord w h.first) (a := g.ent) (by exact he),
    ← State.putWord_comm w he h.first ha.entry]
  rfl

end

/-! ## The tests of a transfer -/

theorem segmentLimit_ok {loc lenM1 : Word} (hl : loc.toNat < 2 ^ 29)
    (ha : t.hasAddr ((loc.toNat : Int) + lenM1.toNat - 3) = true) :
    segmentLimit loc lenM1 s = .ok (wordOf ((loc.toNat : Int) + lenM1.toNat - 3), s) := by
  obtain ⟨h0, h1, -⟩ := (State.hasAddr_iff _).1 ha
  exact (segmentLimit_ok_iff loc lenM1 s s _).2 ⟨hl, ⟨h0, h1⟩, rfl, rfl⟩

/-- A trap raised where c holds, before the rest. -/
theorem raise_if_apply {α : Type} {c : Prop} [Decidable c] {tr : Trap} {q : Option Word} {f : PUnit → M α} :
    (if c then raise tr q >>= f else f ⟨⟩) s = if c then .error (.trap tr q s) else f ⟨⟩ s := by
  split <;> rfl

section
variable {kind : TransferKind} {m : Bool} {loc n4 : Word} {pl : Int} (hpl : s.hasAddr pl = true)
include hpl

theorem entryPoint_outside (h : (field (s.word (wordOf pl)) 13 19).toNat < n4.toNat) :
    entryPoint kind m loc (wordOf pl) n4 s = .error (.trap .sttViolation (some 1#32) s) := by
  obtain ⟨-, -, hw⟩ := (State.hasAddr_iff _).1 hpl
  unfold entryPoint
  rw [M.bind_ok (readWord_present hw)]
  exact M.bind_error ((require_decide s).trans (if_neg (by omega)))

/-- The entry point by the pointer of the STT, or by LENGTH of the STT for the first word of the segment (R133). -/
theorem entryPoint_inside {q : Word} (hq : q = s.word (wordOf (pl - n4.toNat)))
    (h : n4.toNat ≤ (field (s.word (wordOf pl)) 13 19).toNat) (hn : s.hasAddr (pl - n4.toNat) = true) :
    entryPoint kind m loc (wordOf pl) n4 s =
      if n4 ≠ 0#32 ∧ bit q 0 = true then .error (.trap .sttViolation (some 2#32) s)
      else if kind = .call ∧ bit q 1 = true ∧ m = false then .error (.trap .uncallableProcedure none s)
      else .ok (if n4 = 0#32 then loc else (loc + (q &&& 0x3FFFFFFF#32)) &&& 0xFFFFFFFE#32, s) := by
  obtain ⟨h0, h1, hw⟩ := (State.hasAddr_iff _).1 hpl
  obtain ⟨hn0, hn1, hnw⟩ := (State.hasAddr_iff _).1 hn
  subst hq
  unfold entryPoint
  rw [M.bind_ok (readWord_present hw), M.bind_ok ((require_decide s).trans (if_pos h))]
  by_cases hz : n4 = 0#32
  · subst hz
    rw [show pl - (0#32 : Word).toNat = pl from Int.sub_zero pl]
    refine (congrFun (if_pos rfl) s).trans ((raise_if_apply ..).trans (Eq.trans ?_ (if_neg (by simp)).symm))
    rfl
  · refine (congrFun (if_neg hz) s).trans ?_
    have ha : absAddress (((wordOf pl).toNat : Int) - n4.toNat) s = .ok (wordOf (pl - n4.toNat), s) := by
      rw [wordOf_toNat h0 (by unfold addressSpace at h1; omega)]
      exact absAddress_ok hn0 hn1 s
    rw [M.bind_ok ha, M.bind_ok (readWord_present hnw), if_neg hz, ← pointerOffset_mask]
    exact (raise_if_apply ..).trans (if_congr (by simp [hz]) rfl (raise_if_apply ..))

end

theorem checkUseCounts_same (h : s.csn = c) : checkUseCounts c w0 s = .ok ((), s) := by
  unfold checkUseCounts
  rw [M.get_bind]
  exact congrFun (if_neg (not_not.2 h)) s

theorem checkUseCounts_fromZero (h : s.csn ≠ c) (h0 : s.csn = 0#12) :
    checkUseCounts c w0 s =
      if useCount w0 = 4095#12 then .error (.trap .systemError (some 1#32) s) else .ok ((), s) := by
  have hc : checkOldCount s.csn s = .ok ((), s) := congrFun (if_neg (not_not.2 h0)) s
  unfold checkUseCounts
  rw [M.get_bind]
  refine (congrFun (if_pos h) s).trans ?_
  rw [M.bind_ok hc]
  exact (require_decide s).trans (ite_not ..)

theorem checkUseCounts_other (w : s.mem.wf = true) (h : s.csn ≠ c) (h0 : s.csn ≠ 0#12) (ho : s.IsCounted s.csn) :
    checkUseCounts c w0 s =
      if useCount (s.word (s.cstOf s.csn)) = 0#12 ∨ useCount w0 = 4095#12 then .error (.trap .systemError (some 1#32) s)
      else .ok ((), s) := by
  have hc := checkOldCount_apply w h0 ho
  unfold checkUseCounts
  rw [M.get_bind]
  refine (congrFun (if_pos h) s).trans ?_
  by_cases hz : useCount (s.word (s.cstOf s.csn)) = 0#12
  · rw [M.bind_error (hc.trans (if_pos hz)), if_pos (.inl hz)]
  · rw [M.bind_ok (hc.trans (if_neg hz))]
    exact (require_decide s).trans ((ite_not ..).trans (if_congr (by simp [hz]) rfl rfl))

end Sys2Proof.Machine

/-! The transfers through local and external program pointers. -/

namespace Sys2Proof.Machine

variable {s t u : State} {p e w0 n4 : Word} {c old : BitVec 12} {kind : TransferKind} {m : Bool} {g : SegmentPlan}

/-- What a transfer into the segment c plans for its registers and its entry (R133). -/
def State.segmentPlan (s : State) (c : BitVec 12) : SegmentPlan :=
  { csn := c, ent := s.cstOf c, pb := s.word (s.cstOf c + 8#32), pl := wordOf (s.limitAt (s.cstOf c)),
    w0 := s.word (s.cstOf c) }

/-- What a transfer into the segment c plans (R133). -/
def State.transferPlan (s : State) (c : BitVec 12) (kind : TransferKind) (target : Word) : TransferPlan :=
  { segment := some (s.segmentPlan c)
    mode := if kind = .call then s.privileged || bit (s.word (s.cstOf c)) 30 else s.privileged
    target := target }

/-- The tests of a transfer, the entry of its segment being owned (R133). -/
def State.transferTests (s : State) (c : BitVec 12) (n4 : Word) (kind : TransferKind) : M TransferPlan :=
  testSegment c n4 (s.cstOf c) (s.word (s.cstOf c)) kind s.privileged

theorem planTransfer_tests (hp : bit p 0 = true) (h : s.IsCounted (field p 20 12)) :
    planTransfer p kind s =
      owning (s.cstOf (field p 20 12)) (s.word (s.cstOf (field p 20 12)))
        (s.transferTests (field p 20 12) ((field p 1 19).setWidth 32) kind) (s.taken (s.cstOf (field p 20 12))) := by
  unfold planTransfer
  rw [M.get_bind]
  refine (congrFun (if_neg (by simp [hp])) s).trans ?_
  rw [M.bind_ok h.cstEntry_ok, M.bind_ok (acquire_free h.cst.first h.free)]
  rfl

theorem planTransfer_error {x : Stop} (hp : bit p 0 = true) (h : cstEntry (field p 20 12) s = .error x) :
    planTransfer p kind s = .error x := by
  unfold planTransfer
  rw [M.get_bind]
  exact (congrFun (if_neg (by simp [hp])) s).trans (M.bind_error h)

section
variable (w : s.mem.wf = true) (h : s.HasCst c)
include w h

/-- The words of an entry that is owned, but for its first (R121). -/
theorem State.HasCst.readExtent_taken :
    readExtent (s.cstOf c) (s.taken (s.cstOf c)) =
      .ok ((s.word (s.cstOf c + 4#32), s.word (s.cstOf c + 8#32)), s.taken (s.cstOf c)) := by
  have h4 : (s.taken (s.cstOf c)).word (s.cstOf c + 4#32) = s.word (s.cstOf c + 4#32) :=
    State.word_putWord_other w h.first (wordAlign_add_ne _ (d := 4) (by omega) (by omega) (by omega))
  have h8 : (s.taken (s.cstOf c)).word (s.cstOf c + 8#32) = s.word (s.cstOf c + 8#32) :=
    State.word_putWord_other w h.first (wordAlign_add_ne _ (d := 8) (by omega) (by omega) (by omega))
  rw [readExtent_ok ((State.hasWord_taken ..).trans h.length) ((State.hasWord_taken ..).trans h.location), h4, h8]

/-- The tests of the first word come before the others (R133). -/
theorem State.HasCst.transferTests_apply :
    s.transferTests c n4 kind (s.taken (s.cstOf c)) =
      if bit (s.word (s.cstOf c)) 31 = true then
        .error (.trap .absentCodeSegment (some (c.setWidth 32)) (s.taken (s.cstOf c)))
      else if kind = .branch ∧ bit (s.word (s.cstOf c)) 30 = true ∧ s.privileged = false then
        .error (.trap .privilegedMode (some 2#32) (s.taken (s.cstOf c)))
      else (do
        let pl ← segmentLimit (s.word (s.cstOf c + 8#32)) (s.word (s.cstOf c + 4#32))
        let target ← entryPoint kind s.privileged (s.word (s.cstOf c + 8#32)) pl n4
        checkUseCounts c (s.word (s.cstOf c))
        pure { segment := some { s.segmentPlan c with pl := pl }, mode := (s.transferPlan c kind target).mode,
               target := target } : M TransferPlan) (s.taken (s.cstOf c)) := by
  unfold State.transferTests testSegment
  rw [M.bind_ok (h.readExtent_taken w)]
  exact (raise_if_apply ..).trans (if_congr Iff.rfl rfl (raise_if_apply ..))

end

/-! ## The change of the use counts -/

/-- The cases of a segment change: within the segment, from segment 0, and from another one (R123, R133). The new state
is one that has left the old segment. -/
theorem segmentChange_cases {R : State → BitVec 12 → Prop} {F : Prop} (w : s.mem.wf = true) (h : s.HasCst c)
    (hf : checkUseCounts c (s.word (s.cstOf c)) (s.taken (s.cstOf c)) =
      .error (.trap .systemError (some 1#32) (s.taken (s.cstOf c))) → F)
    (hr : ∀ u n, u.STATUS = s.STATUS →
      checkUseCounts c (s.word (s.cstOf c)) (s.taken (s.cstOf c)) = .ok ((), s.taken (s.cstOf c)) →
      commitUse (s.segmentPlan c) (s.taken (s.cstOf c)) = .ok ((), u.entering (s.segmentPlan c) n) → R u n) :
    if s.csn = c then R (s.taken (s.cstOf c)) 0#12
    else if s.csn = 0#12 then
      if useCount (s.word (s.cstOf c)) = 4095#12 then F else R (s.taken (s.cstOf c)) 1#12
    else s.canLeave s.csn c = true →
      if useCount (s.word (s.cstOf s.csn)) = 0#12 ∨ useCount (s.word (s.cstOf c)) = 4095#12 then F
      else R (s.counted s.csn (-1#12)) 1#12 := by
  have he : (s.taken (s.cstOf c)).hasWord (s.cstOf c) = true := (State.hasWord_taken ..).trans h.first
  refine prop_ite (fun hc => ?_) fun hc => prop_ite (fun h0 => ?_) fun h0 hl => ?_
  · exact hr _ _ rfl (checkUseCounts_same hc) (commitUse_same he hc)
  · have hu := checkUseCounts_fromZero (s := s.taken (s.cstOf c)) (w0 := s.word (s.cstOf c)) hc h0
    refine prop_ite (fun hz => hf (hu.trans (if_pos hz))) fun hz => hr _ _ rfl (hu.trans (if_neg hz)) ?_
    exact commitUse_other (s := s.taken (s.cstOf c)) (g := s.segmentPlan c) hc (leaveSegment_zero h0) he
  · obtain ⟨ho, ha⟩ := State.canLeave_iff.1 hl
    have wt : (s.taken (s.cstOf c)).mem.wf = true := State.wf_putWord w h.first
    have hot : (s.taken (s.cstOf c)).IsCounted s.csn := ha.isCounted_taken w h.first ho
    have hu := checkUseCounts_other (w0 := s.word (s.cstOf c)) wt hc h0 hot
    have hw : (s.taken (s.cstOf c)).word ((s.taken (s.cstOf c)).cstOf (s.taken (s.cstOf c)).csn) =
        s.word (s.cstOf s.csn) :=
      (congrArg _ (ha.cstOf_taken w h.first)).trans (ha.word_taken w h.first)
    rw [hw] at hu
    refine prop_ite (fun hz => hf (hu.trans (if_pos hz))) fun hz => hr _ _ rfl (hu.trans (if_neg hz)) ?_
    have hm := State.counted_taken_entering (g := s.segmentPlan c) w h.first ho.cst ha (-1#12) 1#12
    rw [← hm]
    exact commitUse_other (s := s.taken (s.cstOf c)) (g := s.segmentPlan c) hc (leaveSegment_ok wt h0 hot)
      ((State.hasWord_congr (s := s) rfl _).trans h.first)

/-! ## The obligation -/

theorem commitTransfer_some {a : Word} (h : commitUse g s = .ok ((), u)) :
    commitTransfer { segment := some g, mode := m, target := a } s =
      .ok ((), { u with STATUS := setField (setBit u.STATUS 14 m) 20 12 g.csn }) := M.bind_ok h

/-- The mode after a transfer: kept, or set by a call into a privileged segment (R133). -/
theorem transferPlan_mode {a : Word} :
    (s.transferPlan c kind a).mode = (s.privileged || (decide (kind = .call) && bit (s.word (s.cstOf c)) 30)) := by
  cases kind <;> simp [State.transferPlan]

theorem commitTransfer_entering {n : BitVec 12} {a : Word}
    (h : commitUse (s.segmentPlan c) t = .ok ((), u.entering (s.segmentPlan c) n)) (hst : u.STATUS = s.STATUS) :
    commitTransfer (s.transferPlan c kind a) t =
      .ok ((), { u.entering (s.segmentPlan c) n with
        STATUS := setField (setBit s.STATUS 14
          (s.privileged || (decide (kind = .call) && bit (s.word (s.cstOf c)) 30))) 20 12 c }) := by
  rw [← transferPlan_mode (a := a), ← hst]
  exact commitTransfer_some h

/-- Settles O26: the tests of a transfer in their order, each of which gives the entry of the segment back when it
fails, and the change of the segment by `segmentChange_cases`. -/
theorem transfersThroughProgramPointers : Obligations.TransfersThroughProgramPointers := by
  unfold Obligations.TransfersThroughProgramPointers
  refine ⟨fun s p kind hp => ⟨_, planTransfer_local hp, commitTransfer_local .., by rw [← pointerOffset_mask]; rfl⟩, ?_⟩
  intro s p kind csn n4 entry w0 t loc pl len q old target moved fails gives w hp hc
  have hcst := (s.hasCst_iff csn).1 hc
  refine prop_ite (fun hn => ?_) fun hn => prop_ite (fun hi => ?_) fun hi hf => ?_
  · exact planTransfer_error hp (cstEntry_unnamed hn)
  · exact planTransfer_error hp ((hcst.cstEntry_apply (by simpa using hn)).trans (if_neg (by simp [hi])))
  have hcount : s.IsCounted csn := ⟨hcst, by simpa using hn, by simpa using hi, hf⟩
  have hrun := planTransfer_tests (kind := kind) hp hcount
  have hfail {tr : Trap} {x : Option Word} (h : s.transferTests csn n4 kind t = .error (.trap tr x t)) : fails tr x :=
    hrun.trans ((owning_taken w hcst.first h).trans (by rw [State.putWord_self w hcst.first]))
  have htests := hcst.transferTests_apply (kind := kind) (n4 := n4) w
  refine prop_ite (fun h => hfail (htests.trans (if_pos h))) fun h1 => ?_
  replace htests := htests.trans (if_neg h1)
  refine prop_ite (fun h => hfail (htests.trans (if_pos h))) fun h2 hloc hpl => ?_
  replace htests := htests.trans (if_neg h2)
  rw [M.bind_ok (segmentLimit_ok hloc hpl)] at htests
  have hplt : t.hasAddr pl = true := hpl
  refine prop_ite (fun h => hfail (htests.trans (M.bind_error (entryPoint_outside hplt h)))) fun h3 hslot => ?_
  have hentry := entryPoint_inside (kind := kind) (m := s.privileged) (loc := loc) (n4 := n4) hplt rfl
    (Nat.le_of_not_lt h3) hslot
  refine prop_ite (fun h => hfail (htests.trans (M.bind_error (hentry.trans (if_pos h))))) fun h4 => ?_
  replace hentry := hentry.trans (if_neg h4)
  refine prop_ite (fun h => hfail (htests.trans (M.bind_error (hentry.trans (if_pos h))))) fun h5 => ?_
  replace htests := htests.trans (M.bind_ok (hentry.trans (if_neg h5)))
  refine segmentChange_cases (R := fun u n => gives (moved u n)) w hcst
    (fun h => hfail (htests.trans (M.bind_error h))) ?_
  intro u n hst hcheck hcommit
  refine ⟨s.transferPlan csn kind target, hrun.trans (owning_ok (htests.trans (M.bind_ok hcheck))), rfl, ?_⟩
  exact commitTransfer_entering hcommit hst

end Sys2Proof.Machine

/-! The instruction formats as bit strings: what the decoder's fields read of a word that the encoder puts together. -/

namespace Sys2Proof.Machine

/-! ## Bit strings and their parts -/

section
variable {w m k : Nat} {v u : BitVec w} {x : BitVec m} {b : Bool} {p : Prop}

/-- A field is put together of two parts: the last n bits, and what stands before them, which p says in other words. -/
theorem parts_iff (n : Nat) {y : BitVec n} (hx : v.extractLsb' (k + n) m = x ↔ p) :
    v.extractLsb' k (m + n) = x ++ y ↔ p ∧ v.extractLsb' k n = y := by
  rw [← hx]
  constructor
  · intro h
    have hb (j : Nat) (hj : j < m + n) : v.getLsbD (k + j) = if j < n then y.getLsbD j else x.getLsbD (j - n) := by
      have := congrArg (·.getLsbD j) h
      rwa [BitVec.getLsbD_append, BitVec.getLsbD_extractLsb', decide_eq_true hj] at this
    constructor <;> ext j hj
    · simpa [Nat.add_assoc, Nat.add_comm n, hj, BitVec.getLsbD_eq_getElem] using hb (j + n) (by omega)
    · simpa [hj, BitVec.getLsbD_eq_getElem] using hb j (by omega)
  · rintro ⟨rfl, rfl⟩
    exact (BitVec.extractLsb'_append_extractLsb'_eq_extractLsb' rfl).symm

/-- The last part is a flag. -/
theorem parts_flag_iff (hx : v.extractLsb' (k + 1) m = x ↔ p) :
    v.extractLsb' k (m + 1) = x ++ flagBit b ↔ p ∧ v.getLsbD k = b := by
  refine (parts_iff 1 hx).trans (and_congr_right fun _ => ?_)
  rw [BitVec.eq_of_getElem_eq_iff]
  simp [flagBit]

/-- A word is its widest field. -/
theorem word_iff (h : v.extractLsb' 0 w = u ↔ p) : v = u ↔ p := by
  rwa [BitVec.extractLsb'_eq_self] at h

/-- The opcode byte of formats 5 and 6: OP1 and OP2 (R165, R166). -/
theorem opcode_iff {op : BitVec 8} :
    v.extractLsb' k 8 = op ↔ v.extractLsb' (k + 5) 3 = op.extractLsb' 5 3 ∧ v.extractLsb' k 5 = op.extractLsb' 0 5 := by
  have hop : op = op.extractLsb' 5 3 ++ op.extractLsb' 0 5 := word_iff (parts_iff 5 Iff.rfl) |>.2 ⟨rfl, rfl⟩
  calc v.extractLsb' k 8 = op
    _ ↔ v.extractLsb' k 8 = op.extractLsb' 5 3 ++ op.extractLsb' 0 5 := by rw [← hop]
    _ ↔ _ := parts_iff 5 Iff.rfl

/-- A field of ones as a mask: what it keeps of a word is 0 where the field is (R178). -/
theorem and_fieldMask_eq_zero_iff {n l : Nat} (h : n + l ≤ w) : v &&& fieldMask w n l = 0 ↔ field v n l = 0 := by
  have e : v &&& fieldMask w n l = setField 0 n l (field v n l) := by simp [setField_field]
  rw [e]
  constructor
  · intro hz
    rw [← field_setField 0 n l (field v n l) h, hz]
    simp [field]
  · intro hz
    simp [hz, setField]

end

/-! ## The shapes of the formats

One equivalence for each way in which the encoder puts a word together: the parts are what the decoder's fields read. -/

section
variable {h : Half} {w : Word} {i x sign : Bool} {op1 b ccf : BitVec 3} {op : BitVec 8}

/-- Format 1 (R161): OP1, I, X, BASE and the offset. -/
theorem format1_iff {off : BitVec 8} : h = op1 ++ flagBit i ++ flagBit x ++ b ++ off ↔
    h.extractLsb' 13 3 = op1 ∧ h.getLsbD 12 = i ∧ h.getLsbD 11 = x ∧ h.extractLsb' 8 3 = b ∧
      h.extractLsb' 0 8 = off := by
  simp only [← and_assoc]
  exact word_iff (parts_iff 8 (parts_iff 3 (parts_flag_iff (parts_flag_iff Iff.rfl))))

/-- BCCS in format 1 (R445): OP1, I, CCF, the sign and the offset. -/
theorem format1_branch_iff {off : BitVec 8} : h = op1 ++ flagBit i ++ ccf ++ flagBit sign ++ off ↔
    h.extractLsb' 13 3 = op1 ∧ h.getLsbD 12 = i ∧ h.extractLsb' 9 3 = ccf ∧ h.getLsbD 8 = sign ∧
      h.extractLsb' 0 8 = off := by
  simp only [← and_assoc]
  exact word_iff (parts_iff 8 (parts_flag_iff (parts_iff 3 (parts_flag_iff Iff.rfl))))

/-- Format 2 (R162): OP1, bit 3, OP2 and the last six bits, which are OP3 in formats 3 and 4. -/
theorem format2_iff {op2 op3 : BitVec 6} : h = op1 ++ flagBit x ++ op2 ++ op3 ↔
    h.extractLsb' 13 3 = op1 ∧ h.getLsbD 12 = x ∧ h.extractLsb' 6 6 = op2 ∧ h.extractLsb' 0 6 = op3 := by
  simp only [← and_assoc]
  exact word_iff (parts_iff 6 (parts_iff 6 (parts_flag_iff Iff.rfl)))

/-- The sign in the OP2 of a branch (R174). -/
theorem branchOp2_iff {a : BitVec 3} {c : BitVec 2} : h.extractLsb' 6 6 = a ++ flagBit sign ++ c ↔
    (h.extractLsb' 9 3 = a ∧ h.getLsbD 8 = sign) ∧ h.extractLsb' 6 2 = c :=
  parts_iff 2 (parts_flag_iff Iff.rfl)

/-- The OP2 of a branch with its sign read from it (R174). -/
theorem branchOp2_sign {a : BitVec 3} {c : BitVec 2} {s : Bool} (e : h.extractLsb' 6 6 = a ++ flagBit s ++ c) :
    h.extractLsb' 6 6 = a ++ flagBit (h.getLsbD 8) ++ c := by
  obtain ⟨⟨-, hs⟩, -⟩ := branchOp2_iff.1 e
  rw [e, hs]

/-- The branches of format 2 (R174). -/
theorem format2_branch_iff {a : BitVec 3} {c : BitVec 2} {off : BitVec 6} :
    h = op1 ++ flagBit i ++ a ++ flagBit sign ++ c ++ off ↔
      h.extractLsb' 13 3 = op1 ∧ h.getLsbD 12 = i ∧ h.extractLsb' 6 6 = a ++ flagBit sign ++ c ∧
        h.extractLsb' 0 6 = off := by
  simp only [branchOp2_iff, ← and_assoc]
  exact word_iff (parts_iff 6 (parts_iff 2 (parts_flag_iff (parts_iff 3 (parts_flag_iff Iff.rfl)))))

/-- Format 5 (R165): the opcode and the operand. -/
theorem format5_iff {n : BitVec 8} : h = op ++ n ↔
    h.extractLsb' 13 3 = op.extractLsb' 5 3 ∧ h.extractLsb' 8 5 = op.extractLsb' 0 5 ∧ h.extractLsb' 0 8 = n := by
  simp only [← and_assoc]
  exact word_iff (parts_iff 8 opcode_iff)

/-- LIAS in format 5 (R576). -/
theorem format5_level_iff {level : BitVec 2} {off : BitVec 6} : h = op ++ level ++ off ↔
    h.extractLsb' 13 3 = op.extractLsb' 5 3 ∧ h.extractLsb' 8 5 = op.extractLsb' 0 5 ∧ h.extractLsb' 6 2 = level ∧
      h.extractLsb' 0 6 = off := by
  simp only [← and_assoc]
  exact word_iff (parts_iff 6 (parts_iff 2 opcode_iff))

/-- Format 6 (R166) with I, X, BASE and an offset. -/
theorem format6_iff {off : BitVec 19} : w = op ++ flagBit i ++ flagBit x ++ b ++ off ↔
    w.extractLsb' 29 3 = op.extractLsb' 5 3 ∧ w.extractLsb' 24 5 = op.extractLsb' 0 5 ∧ w.getLsbD 23 = i ∧
      w.getLsbD 22 = x ∧ w.extractLsb' 19 3 = b ∧ w.extractLsb' 0 19 = off := by
  simp only [← and_assoc]
  exact word_iff (parts_iff 19 (parts_iff 3 (parts_flag_iff (parts_flag_iff opcode_iff))))

/-- BCC in format 6 (R444). -/
theorem format6_branch_iff {off : BitVec 19} : w = op ++ flagBit i ++ ccf ++ flagBit sign ++ off ↔
    w.extractLsb' 29 3 = op.extractLsb' 5 3 ∧ w.extractLsb' 24 5 = op.extractLsb' 0 5 ∧ w.getLsbD 23 = i ∧
      w.extractLsb' 20 3 = ccf ∧ w.getLsbD 19 = sign ∧ w.extractLsb' 0 19 = off := by
  simp only [← and_assoc]
  exact word_iff (parts_iff 19 (parts_flag_iff (parts_iff 3 (parts_flag_iff opcode_iff))))

/-- LIA in format 6 (R575). -/
theorem format6_level_iff {level : BitVec 4} {off : BitVec 19} : w = op ++ level ++ flagBit sign ++ off ↔
    w.extractLsb' 29 3 = op.extractLsb' 5 3 ∧ w.extractLsb' 24 5 = op.extractLsb' 0 5 ∧ w.extractLsb' 20 4 = level ∧
      w.getLsbD 19 = sign ∧ w.extractLsb' 0 19 = off := by
  simp only [← and_assoc]
  exact word_iff (parts_iff 19 (parts_flag_iff (parts_iff 4 opcode_iff)))

/-- CHEK in format 6 (R584), and PCL and LPP, where the first field is zero (R470, R221). -/
theorem format6_bounds_iff {lo : BitVec 5} {hi : BitVec 19} : w = op ++ lo ++ hi ↔
    w.extractLsb' 29 3 = op.extractLsb' 5 3 ∧ w.extractLsb' 24 5 = op.extractLsb' 0 5 ∧ w.extractLsb' 19 5 = lo ∧
      w.extractLsb' 0 19 = hi := by
  simp only [← and_assoc]
  exact word_iff (parts_iff 19 (parts_iff 5 opcode_iff))

/-- LDI and LNI in format 6 (R215, R217). -/
theorem format6_immediate_iff {imm : BitVec 24} : w = op ++ imm ↔
    w.extractLsb' 29 3 = op.extractLsb' 5 3 ∧ w.extractLsb' 24 5 = op.extractLsb' 0 5 ∧ w.extractLsb' 0 24 = imm := by
  simp only [← and_assoc]
  exact word_iff (parts_iff 24 opcode_iff)

/-- EXF and DPF in format 6 (R300, R301), z the field that must be zero. -/
theorem format6_field_iff {z : BitVec 12} {k j : BitVec 5} : w = op ++ flagBit i ++ flagBit x ++ z ++ k ++ j ↔
    w.extractLsb' 29 3 = op.extractLsb' 5 3 ∧ w.extractLsb' 24 5 = op.extractLsb' 0 5 ∧ w.getLsbD 23 = i ∧
      w.getLsbD 22 = x ∧ w.extractLsb' 10 12 = z ∧ w.extractLsb' 5 5 = k ∧ w.extractLsb' 0 5 = j := by
  simp only [← and_assoc]
  exact word_iff (parts_iff 5 (parts_iff 5 (parts_iff 12 (parts_flag_iff (parts_flag_iff opcode_iff)))))

end

theorem Base.code_ofCode (c : BitVec 3) : (Base.ofCode c).code = c := by revert c; decide

theorem Base.ofCode_code (b : Base) : Base.ofCode b.code = b := by cases b <;> rfl

/-! ## The must-be-zero fields of format 6 (R178) -/

section
variable {w : Word}

/-- EXF (R300). -/
theorem and_exfMask_iff : w &&& 0x003ffc00#32 = 0 ↔ w.extractLsb' 10 12 = 0 :=
  and_fieldMask_eq_zero_iff (n := 10) (l := 12) (by decide)

/-- PCL and LPP (R470, R221). -/
theorem and_callMask_iff : w &&& 0x00f80000#32 = 0 ↔ w.extractLsb' 19 5 = 0 :=
  and_fieldMask_eq_zero_iff (n := 8) (l := 5) (by decide)

/-- DPF (R301). -/
theorem and_dpfMask_iff : w &&& 0x00bffc00#32 = 0 ↔ w.getLsbD 23 = false ∧ w.extractLsb' 10 12 = 0 := by
  have hm : 0x00bffc00#32 = fieldMask 32 8 1 ||| fieldMask 32 10 12 := by decide
  have hbit : field w 8 1 = 0 ↔ w.getLsbD 23 = false := by simp [BitVec.eq_of_getElem_eq_iff, field]
  rw [hm, BitVec.and_or_distrib_left]
  exact BitVec.or_eq_zero_iff.trans
    (and_congr ((and_fieldMask_eq_zero_iff (by decide)).trans hbit) and_exfMask_iff)

end

end Sys2Proof.Machine

/-! The decoder and the encoder against each other. -/

namespace Sys2Proof.Machine

/-! ## CIR and the two widths (R167) -/

theorem decodeCir_short (h : Half) : decodeCir (h.setWidth 32) = decode16 h := by
  have h0 : (h.setWidth 32).extractLsb' 29 3 = 0#3 := by ext k hk; simp [show 16 ≤ 29 + k by omega]
  have h1 : (h.setWidth 32).extractLsb' 0 16 = h := by ext k hk; simp [hk, show k < 32 by omega]
  rw [decodeCir, h0, h1]
  rfl

theorem decodeCir_long {w : Word} (h : w.extractLsb' 29 3 = 7#3) : decodeCir w = decode32 w := if_pos h

theorem encode_short {i : Instr} (hl : i.ilen = 2) : encode i = (encode16 i).setWidth 32 := if_neg (by omega)

theorem encode_long {i : Instr} (hl : i.ilen = 4) : encode i = encode32 i := if_pos hl

/-- An instruction of 16 bits is decoded from CIR where its halfword is. -/
theorem decodeCir_encode_of_short {i : Instr} (hl : i.ilen = 2) (h : ∀ v, v = encode16 i → decode16 v = .instr i) :
    decodeCir (encode i) = .instr i := by
  rw [encode_short hl, decodeCir_short, h _ rfl]

/-- An instruction of 32 bits is decoded from CIR where its word has OP1 = 7 and is. -/
theorem decodeCir_encode_of_long {i : Instr} (hl : i.ilen = 4)
    (h : ∀ w, w = encode32 i → w.extractLsb' 29 3 = 7#3 ∧ decode32 w = .instr i) : decodeCir (encode i) = .instr i := by
  obtain ⟨h1, h2⟩ := h _ rfl
  rw [encode_long hl, decodeCir_long h1, h2]

/-! ## Decode of encode -/

/-- Every instruction is what its encoding decodes to, by the shape of its row: the opcode selects the branch of the
decoder, and the other fields are the arguments. -/
theorem decodeCir_encode (i : Instr) : decodeCir (encode i) = .instr i := by
  cases i with
  | lds i x base off | lras i x base off | ldds i x base off | sts i x base off =>
    refine decodeCir_encode_of_short rfl fun h e => ?_
    obtain ⟨h1, hi, hx, hb, ho⟩ := format1_iff.1 e
    rw [decode16, h1, hi, hx, hb, ho, Base.ofCode_code]
    rfl
  | bccs i ccf sign off =>
    refine decodeCir_encode_of_short rfl fun h e => ?_
    obtain ⟨h1, hi, hc, hs, ho⟩ := format1_branch_iff.1 e
    rw [decode16, h1, hi, hc, hs, ho]
    rfl
  | sol n | sop n | cmpn n | cmpi n | addi n | subi n | mpyi n | divi n | ldxi n | ldxn n | ldis n | lnis n | sos n
  | iow n | ior n | ioc n | pcls n | exit n | sxit n | adxi n | sbxi n | solc n | adds n | subs n | lpps n | ori n
  | xori n | andi n =>
    refine decodeCir_encode_of_short rfl fun h e => ?_
    obtain ⟨h1, h2, hn⟩ := format5_iff.1 e
    rw [decode16, h1, decodeFormat5, h2, hn]
    rfl
  | lias level off =>
    refine decodeCir_encode_of_short rfl fun h e => ?_
    obtain ⟨h1, h2, hl, ho⟩ := format5_level_iff.1 e
    rw [decode16, h1, decodeFormat5, h2, hl, ho]
    rfl
  | lsl x cnt | lsr x cnt | csl x cnt | csr x cnt | asl x cnt | asr x cnt | lsxl x cnt | pshr x cnt =>
    refine decodeCir_encode_of_short rfl fun h e => ?_
    obtain ⟨h1, hx, h2, hc⟩ := format2_iff.1 e
    rw [decode16, h1, decodeFormat2, h2, hx, hc]
    rfl
  | bir i sign off | bun i sign off | bcy i sign off | bnc i sign off | bov i sign off | bno i sign off
  | brz i sign off | bre i sign off | bro i sign off | crb i sign off =>
    refine decodeCir_encode_of_short rfl fun h e => ?_
    obtain ⟨h1, hi, h2, ho⟩ := format2_branch_iff.1 e
    obtain ⟨⟨-, hs⟩, -⟩ := branchOp2_iff.1 h2
    rw [decode16, h1, decodeFormat2, h2, hi, hs, ho]
    cases sign <;> rfl
  -- rows of format 2 with must-be-zero bits and SETR: at most six free bits, all of whose values are decoded
  | sld | sval | scon | sas | pmpb | smpb | srm | setr | llsh | tcc | pmva | mvb | scw | scu | cmpb | tran | filb =>
    decide +revert +kernel
  | exf i x k j =>
    refine decodeCir_encode_of_long rfl fun w e => ?_
    obtain ⟨h1, h2, hi, hx, hz, hk, hj⟩ := format6_field_iff.1 e
    rw [decode32, h2, hi, hx, hk, hj]
    exact ⟨h1, if_pos (and_exfMask_iff.2 hz)⟩
  | dpf x k j =>
    refine decodeCir_encode_of_long rfl fun w e => ?_
    obtain ⟨h1, h2, hi, hx, hz, hk, hj⟩ := (format6_field_iff (op := 225#8) (i := false)).1 e
    rw [decode32, h2, hx, hk, hj]
    exact ⟨h1, if_pos (and_dpfMask_iff.2 ⟨hi, hz⟩)⟩
  | pcl off =>
    refine decodeCir_encode_of_long rfl fun w e => ?_
    obtain ⟨h1, h2, hz, ho⟩ := (format6_bounds_iff (op := 227#8) (lo := 0)).1 e
    rw [decode32, h2, ho]
    exact ⟨h1, if_pos (and_callMask_iff.2 hz)⟩
  | lpp off =>
    refine decodeCir_encode_of_long rfl fun w e => ?_
    obtain ⟨h1, h2, hz, ho⟩ := (format6_bounds_iff (op := 228#8) (lo := 0)).1 e
    rw [decode32, h2, ho]
    exact ⟨h1, if_pos (and_callMask_iff.2 hz)⟩
  | chek lo hi =>
    refine decodeCir_encode_of_long rfl fun w e => ?_
    obtain ⟨h1, h2, hl, hh⟩ := format6_bounds_iff.1 e
    rw [decode32, h2, hl, hh]
    exact ⟨h1, rfl⟩
  | lia level sign off =>
    refine decodeCir_encode_of_long rfl fun w e => ?_
    obtain ⟨h1, h2, hl, hs, ho⟩ := format6_level_iff.1 e
    rw [decode32, h2, hl, hs, ho]
    exact ⟨h1, rfl⟩
  | ldi imm | lni imm =>
    refine decodeCir_encode_of_long rfl fun w e => ?_
    obtain ⟨h1, h2, hn⟩ := format6_immediate_iff.1 e
    rw [decode32, h2, hn]
    exact ⟨h1, rfl⟩
  | bcc i ccf sign off =>
    refine decodeCir_encode_of_long rfl fun w e => ?_
    obtain ⟨h1, h2, hi, hc, hs, ho⟩ := format6_branch_iff.1 e
    rw [decode32, h2, hi, hc, hs, ho]
    exact ⟨h1, rfl⟩
  | ld i x base off | st i x base off | ldb i x base off | cmpm i x base off | ldd i x base off | ldh i x base off
  | decm i x base off | incm i x base off | sth i x base off | ldx i x base off | incf i x base off | br i x base off
  | decf i x base off | seml i x base off | stb i x base off | std i x base off | lra i x base off =>
    refine decodeCir_encode_of_long rfl fun w e => ?_
    obtain ⟨h1, h2, hi, hx, hb, ho⟩ := format6_iff.1 e
    rw [decode32, h2, hi, hx, hb, ho, Base.ofCode_code]
    exact ⟨h1, rfl⟩
  -- formats 3 and 4, without and with bit 3 as an argument
  | nop | del | delb | ddel | fltd | ldxa | dup | zero | ddup | dzro | fadd | fsub | dxch | fmpy | fdiv | fneg | cab
  | neg | lmpy | not | or | cdsf | xor | csdf | and | xch | flts | isc | fads | xax | fsbs | fmps | adxa | fdvs | fngs
  | cci | eos | eop | pot | gtsp | xgds | psdb | disp | pseb | rsc | rcs | lins | ldel | ixit => rfl
  | _ b3 => cases b3 <;> rfl

/-! ## Encode of decode -/

/-- Where an instruction has been read, w is its CIR value. -/
def encodes (w : Word) : Decoded → Bool
  | .instr i => encode i == w
  | _ => true

section
variable {h : Half} {w : Word} {i : Instr} {k : Nat}

theorem encode_of_encodes (he : encodes w (.instr i) = true) : encode i = w := by
  simpa [encodes] using he

theorem encodes_short (hl : i.ilen = 2) (e : h = encode16 i) : encodes (h.setWidth 32) (.instr i) = true := by
  simp [encodes, encode_short hl, e]

theorem encodes_long (hl : i.ilen = 4) (e : w = encode32 i) : encodes w (.instr i) = true := by
  simp [encodes, encode_long hl, e]

theorem encodes_ifZero {n : Nat} {z : BitVec n} (he : z = 0 → encodes w (.instr i) = true) :
    encodes w (ifZero z i) = true := by
  unfold ifZero
  split
  next hz => exact he hz
  next => rfl

/-! ### Format 6 -/

/-- The branches of the decoder of format 6 (R166, R172). -/
theorem encodes_decode32 (h1 : w.extractLsb' 29 3 = 7#3) : encodes w (decode32 w) = true := by
  unfold decode32
  split
  -- EXF
  case h_1 h2 =>
    exact encodes_ifZero fun hz => encodes_long rfl
      (format6_field_iff.2 ⟨h1, BitVec.eq_of_toNat_eq h2, rfl, rfl, and_exfMask_iff.1 hz, rfl, rfl⟩)
  -- DPF
  case h_2 h2 =>
    refine encodes_ifZero fun hz => encodes_long rfl ?_
    obtain ⟨hi, hz⟩ := and_dpfMask_iff.1 hz
    exact (format6_field_iff (op := 225#8) (i := false)).2 ⟨h1, BitVec.eq_of_toNat_eq h2, hi, rfl, hz, rfl, rfl⟩
  -- CHEK
  case h_3 h2 => exact encodes_long rfl (format6_bounds_iff.2 ⟨h1, BitVec.eq_of_toNat_eq h2, rfl, rfl⟩)
  -- PCL
  case h_4 h2 =>
    exact encodes_ifZero fun hz => encodes_long rfl
      ((format6_bounds_iff (op := 227#8) (lo := 0)).2 ⟨h1, BitVec.eq_of_toNat_eq h2, and_callMask_iff.1 hz, rfl⟩)
  -- LPP
  case h_5 h2 =>
    exact encodes_ifZero fun hz => encodes_long rfl
      ((format6_bounds_iff (op := 228#8) (lo := 0)).2 ⟨h1, BitVec.eq_of_toNat_eq h2, and_callMask_iff.1 hz, rfl⟩)
  -- LIA
  case h_6 h2 => exact encodes_long rfl (format6_level_iff.2 ⟨h1, BitVec.eq_of_toNat_eq h2, rfl, rfl, rfl⟩)
  -- LDI and LNI
  case h_7 h2 | h_8 h2 => exact encodes_long rfl (format6_immediate_iff.2 ⟨h1, BitVec.eq_of_toNat_eq h2, rfl⟩)
  -- BCC
  case h_21 h2 => exact encodes_long rfl (format6_branch_iff.2 ⟨h1, BitVec.eq_of_toNat_eq h2, rfl, rfl, rfl, rfl⟩)
  -- unassigned opcodes
  case h_27 => rfl
  -- the rows with I, X, BASE and an offset
  all_goals
    next h2 =>
      exact encodes_long rfl
        (format6_iff.2 ⟨h1, BitVec.eq_of_toNat_eq h2, rfl, rfl, (Base.code_ofCode _).symm, rfl⟩)

/-! ### Format 5 -/

/-- The branches of the decoder of format 5 (R165, R173). -/
theorem encodes_decodeFormat5 (h1 : h.extractLsb' 13 3 = 1#3) : encodes (h.setWidth 32) (decodeFormat5 h) = true := by
  unfold decodeFormat5
  split
  -- LIAS
  case h_20 h2 => exact encodes_short rfl (format5_level_iff.2 ⟨h1, BitVec.eq_of_toNat_eq h2, rfl, rfl⟩)
  -- unassigned opcodes
  case h_30 => rfl
  -- the rows with an operand
  all_goals
    next h2 => exact encodes_short rfl (format5_iff.2 ⟨h1, BitVec.eq_of_toNat_eq h2, rfl⟩)

/-! ### Formats 2, 3 and 4 -/

/-- The halfwords of a row of format 2 have seven free bits. -/
theorem eq_of_format2 (h1 : h.extractLsb' 13 3 = 0#3) (h2 : (h.extractLsb' 6 6).toNat = k) :
    ∃ (b : Bool) (op3 : BitVec 6), h = 0#3 ++ flagBit b ++ BitVec.ofNat 6 k ++ op3 :=
  ⟨_, _, format2_iff.2 ⟨h1, rfl, by rw [← h2, BitVec.ofNat_toNat, BitVec.setWidth_eq], rfl⟩⟩

/-- The halfwords of a row of format 3 or 4 have one free bit. -/
theorem eq_of_format3 {j : Nat} (h1 : h.extractLsb' 13 3 = 0#3) (h2 : (h.extractLsb' 6 6).toNat = k)
    (h3 : (h.extractLsb' 0 6).toNat = j) : ∃ b, h = 0#3 ++ flagBit b ++ BitVec.ofNat 6 k ++ BitVec.ofNat 6 j := by
  obtain ⟨b, op3, e⟩ := eq_of_format2 h1 h2
  obtain ⟨-, -, -, rfl⟩ := format2_iff.1 e
  exact ⟨b, by rw [← h3, BitVec.ofNat_toNat, BitVec.setWidth_eq, ← e]⟩

/-- The branches of the decoder of format 3 (R175). -/
theorem encodes_decodeFormat3 (h1 : h.extractLsb' 13 3 = 0#3) (h2 : (h.extractLsb' 6 6).toNat = 0) :
    encodes (h.setWidth 32) (decodeFormat3 h) = true := by
  unfold decodeFormat3
  split
  -- unassigned opcodes
  case h_59 => rfl
  all_goals
    next h3 =>
      obtain ⟨b, rfl⟩ := eq_of_format3 h1 h2 h3
      cases b <;> rfl

/-- The branches of the decoder of format 4 (R176). -/
theorem encodes_decodeFormat4 (h1 : h.extractLsb' 13 3 = 0#3) (h2 : (h.extractLsb' 6 6).toNat = 1) :
    encodes (h.setWidth 32) (decodeFormat4 h) = true := by
  unfold decodeFormat4
  split
  -- unassigned opcodes
  case h_51 => rfl
  all_goals
    next h3 =>
      obtain ⟨b, rfl⟩ := eq_of_format3 h1 h2 h3
      cases b <;> rfl

/-- The branches of the decoder of format 2 (R162, R174). -/
theorem encodes_decodeFormat2 (h1 : h.extractLsb' 13 3 = 0#3) : encodes (h.setWidth 32) (decodeFormat2 h) = true := by
  unfold decodeFormat2
  split
  -- formats 3 and 4
  case h_1 h2 => exact encodes_decodeFormat3 h1 h2
  case h_2 h2 => exact encodes_decodeFormat4 h1 h2
  -- unassigned opcodes
  case h_48 => rfl
  -- the shifts and PSHR
  case h_3 h2 | h_4 h2 | h_5 h2 | h_6 h2 | h_7 h2 | h_8 h2 | h_9 h2 | h_17 h2 =>
    exact encodes_short rfl (format2_iff.2 ⟨h1, rfl, BitVec.eq_of_toNat_eq h2, rfl⟩)
  -- the branches forward
  case h_21 h2 | h_22 h2 | h_32 h2 | h_33 h2 | h_34 h2 | h_35 h2 | h_40 h2 | h_41 h2 | h_42 h2 | h_43 h2 =>
    exact encodes_short rfl
      (format2_branch_iff.2 ⟨h1, rfl, branchOp2_sign (s := false) (BitVec.eq_of_toNat_eq h2), rfl⟩)
  -- the branches backward
  case h_23 h2 | h_24 h2 | h_36 h2 | h_37 h2 | h_38 h2 | h_39 h2 | h_44 h2 | h_45 h2 | h_46 h2 | h_47 h2 =>
    exact encodes_short rfl
      (format2_branch_iff.2 ⟨h1, rfl, branchOp2_sign (s := true) (BitVec.eq_of_toNat_eq h2), rfl⟩)
  -- the rows with must-be-zero bits, each on its seven free bits
  all_goals
    next h2 =>
      obtain ⟨b, op3, rfl⟩ := eq_of_format2 h1 h2
      clear h1 h2
      revert b op3
      decide +kernel

/-! ### All formats -/

/-- A 16-bit instruction that the decoder reads from a halfword is encoded in it (R169, R171). -/
theorem encodes_decode16 (h : Half) : encodes (h.setWidth 32) (decode16 h) = true := by
  unfold decode16
  split
  -- formats 2 to 4, and 5
  case h_1 h1 => exact encodes_decodeFormat2 (BitVec.eq_of_toNat_eq h1)
  case h_2 h1 => exact encodes_decodeFormat5 (BitVec.eq_of_toNat_eq h1)
  -- BCCS
  case h_7 h1 => exact encodes_short rfl (format1_branch_iff.2 ⟨BitVec.eq_of_toNat_eq h1, rfl, rfl, rfl, rfl⟩)
  -- unassigned opcodes
  case h_8 => rfl
  -- the rows of format 1
  all_goals
    next h1 =>
      exact encodes_short rfl
        (format1_iff.2 ⟨BitVec.eq_of_toNat_eq h1, rfl, rfl, (Base.code_ofCode _).symm, rfl⟩)

end

/-! ## The words of CIR -/

/-- What CIR holds: a word with OP1 = 7, or a halfword right justified (R167, R168). -/
def HeldInCir (w : Word) : Prop := field w 0 3 = 7#3 ∨ field w 0 16 = 0#16

theorem heldInCir_setWidth (h : Half) : HeldInCir (h.setWidth 32) := .inr (by ext k hk; simp [field])

/-- Without OP1 = 7 the decoder reads the right halfword alone (R167). -/
theorem encode_of_decodeCir_short {w : Word} {i : Instr} (h7 : field w 0 3 ≠ 7#3) (hd : decodeCir w = .instr i) :
    encode i = (field w 16 16).setWidth 32 := by
  have hr : decode16 (field w 16 16) = .instr i := (if_neg h7).symm.trans hd
  exact encode_of_encodes (hr ▸ encodes_decode16 (field w 16 16))

/-- A word of CIR that decodes to an instruction is its encoding. -/
theorem encode_of_decodeCir {w : Word} {i : Instr} (hw : HeldInCir w) (hd : decodeCir w = .instr i) : encode i = w := by
  by_cases h7 : field w 0 3 = 7#3
  · rw [decodeCir_long h7] at hd
    exact encode_of_encodes (hd ▸ encodes_decode32 h7)
  · have h0 : field w 0 16 = 0#16 := hw.resolve_left h7
    have hl : w = field w 0 16 ++ field w 16 16 := (word_iff (parts_iff 16 Iff.rfl)).2 ⟨rfl, rfl⟩
    rw [encode_of_decodeCir_short h7 hd, BitVec.setWidth_eq_append (by decide)]
    exact (hl.trans (by rw [h0]; rfl)).symm

/-- An encoding is held: with another OP1 than 7 it is what its right halfword encodes to. -/
theorem heldInCir_encode (i : Instr) : HeldInCir (encode i) := by
  by_cases h7 : field (encode i) 0 3 = 7#3
  · exact .inl h7
  · rw [encode_of_decodeCir_short h7 (decodeCir_encode i)]
    exact heldInCir_setWidth _

end Sys2Proof.Machine

/-! The fetch, and the step that runs what it has loaded. -/

namespace Sys2Proof.Machine

/-! ## The fetch -/

/-- The halfword at P in the word read there (R168). -/
def halfAt (p w : Word) : Half := if bit p 30 then field w 16 16 else field w 0 16

/-- The halfword at P begins a 32-bit instruction (R160). -/
def isLong (p w : Word) : Bool := field (halfAt p w) 0 3 == 7#3

/-- What the fetch loads into CIR (R168). -/
def cirAt (p w : Word) : Word := if isLong p w then w else (halfAt p w).setWidth 32

/-- CIR has OP1 = 7 after the fetch of a 32-bit instruction alone (R167). -/
theorem op1_cirAt_iff {p w : Word} (h : isLong p w = true → bit p 30 = false) :
    field (cirAt p w) 0 3 = 7#3 ↔ isLong p w = true := by
  cases hl : isLong p w
  · have h0 : field ((halfAt p w).setWidth 32) 0 3 = 0#3 := by ext k hk; simp [field, show 16 ≤ 29 + k by omega]
    simp [cirAt, hl, h0]
  · have hh : halfAt p w = field w 0 16 := by simp [halfAt, h hl]
    have h7 : field w 0 3 = 7#3 := by simpa [isLong, hh, field_field w (n := 0) (m := 16) (i := 0) (j := 3)] using hl
    simp [cirAt, hl, h7]

theorem heldInCir_cirAt {p w : Word} (h : isLong p w = true → bit p 30 = false) : HeldInCir (cirAt p w) := by
  cases hl : isLong p w
  · simp only [cirAt, hl]
    exact heldInCir_setWidth _
  · exact .inl ((op1_cirAt_iff h).2 hl)

theorem cirLength_cirAt {p w : Word} (h : isLong p w = true → bit p 30 = false) :
    cirLength (cirAt p w) = if isLong p w then 4 else 2 := if_congr (op1_cirAt_iff h) rfl rfl

/-- The fetch after the word at P has been read (R168, U4). -/
theorem fetch_apply {s u : State} {w : Word} (h : readWord s.P s = .ok (w, u)) :
    fetch s = if isLong s.P w && bit s.P 30 then .error (.refuse .misalignedInstruction)
      else .ok (cirAt s.P w, { u with CIR := cirAt s.P w }) := by
  have hh : (if bit s.P 30 = true then field w 16 16 else field w 0 16) = halfAt s.P w := rfl
  have hl : ilenOf (halfAt s.P w) = 4 ↔ isLong s.P w = true := by simp [ilenOf, isLong, field]
  unfold fetch
  rw [M.get_bind, M.bind_ok h]
  simp only [hh, hl, cirAt]
  cases isLong s.P w
  · rfl
  · cases bit s.P 30 <;> rfl

/-- Everything the fetch can do when it answers. -/
theorem fetch_ok {s t : State} {c : Word} (h : fetch s = .ok (c, t)) :
    ∃ w u, readWord s.P s = .ok (w, u) ∧ (isLong s.P w = true → bit s.P 30 = false) ∧ c = cirAt s.P w ∧
      t = { u with CIR := c } := by
  obtain ⟨w, u, hr, -⟩ := M.bind_eq_ok ((M.get_bind _ s).symm.trans h)
  rw [fetch_apply hr] at h
  split at h
  next => cases h
  next hal =>
    cases h
    exact ⟨w, u, hr, by simpa using hal, rfl, rfl⟩

/-! ## The obligations about words -/

/-- Settles O54: one pass over the instructions for decode of encode, one over the branches of the decoder for encode
of decode, and the form of CIR from both. -/
theorem decodeAndEncodeAgree : Obligations.DecodeAndEncodeAgree := by
  refine ⟨fun i _ => decodeCir_encode i, fun _ _ => encode_of_decodeCir, heldInCir_encode, fun s t w h => ?_⟩
  obtain ⟨v, u, -, hal, rfl, rfl⟩ := fetch_ok h
  exact ⟨heldInCir_cirAt hal, rfl⟩

/-- Settles O53: the words are the encodings of their instructions. -/
theorem sampleWordsDecode : Obligations.SampleWordsDecode := by
  intro c hc
  have he : encode c.2 = c.1 := by
    revert c
    decide
  exact he ▸ decodeCir_encode c.2

/-! ## The step -/

theorem step_running {s : State} (hi : s.inputs = []) (hr : s.run = .running) :
    step s = instructionStep s.regained := by
  simp [step, cpuStep, hi, hr]

theorem instructionStep_fetched {s : State} {c : Word} {t : State} (h : fetch s = .ok (c, t)) :
    instructionStep s = runDecoded (decodeCir c) c t := by
  simp [instructionStep, h]

/-- An unassigned opcode ends in its trap, when neither a User Trap nor an interrupt is due (R177, R620). -/
theorem unassigned_traps {c : Word} {t : State} (hrev : t.cfg.rev ≠ .le33) (ho : (t.overflow && t.trapEnable) = false)
    (hi : t.interruptPending = false) :
    let n := { t with P := t.P + BitVec.ofNat 32 (cirLength c), prevDup := false }
    unassigned c t = conclude t (do
      trapEntry .unimplemented (some c) n.P
      postEntryTests postEntryFuel false) n := by
  intro n
  rw [unassigned, if_neg (fun h => hrev h.1), runBody_ok (M.pure_apply _ t)]
  exact conclude_congr (endTests_own (t := n) ho hi)

/-- Settles O55: the fetch loads CIR and leaves the rest, and the step runs what the decoder reads there. -/
theorem stepRunsTheDecodedInstruction : Obligations.StepRunsTheDecodedInstruction := by
  intro s i r w h long cir t n
  refine ⟨State.regained_of_none, fun hin hrun hw hal => ?_⟩
  have hal' : isLong r.P w = true → bit r.P 30 = false := hal
  have hf : fetch r = .ok (cir, t) := by
    rw [fetch_apply (readWord_present hw)]
    exact if_neg (by simpa using hal')
  have hs : step s = runDecoded (decodeCir cir) cir t := (step_running hin hrun).trans (instructionStep_fetched hf)
  refine ⟨fun hd => by rw [hs, hd]; rfl, fun hd hrev ho hi => ?_⟩
  have hcfg : t.cfg = s.cfg := (congrArg State.cfg s.regained_mem : r.cfg = _)
  rw [hs, hd]
  refine (unassigned_traps (by rwa [hcfg]) ho hi).trans ?_
  have hl : cirLength cir = if long then 4 else 2 := cirLength_cirAt hal'
  rw [hl, apply_ite (BitVec.ofNat 32)]

end Sys2Proof.Machine

/-! Constants and X pushed, X loaded and added to. -/

namespace Sys2Proof.Machine

variable {α : Type}

/-! ## An instruction and its body -/

/-- i runs the body m from s, in the frame that puts the registers back when m traps (R603). -/
structure RunsBody (i : Instr) (s : State) (m : M End) : Prop where
  body : exec i s = runBody i.ilen false (atomic m) s
  notDup : i ≠ .dup

section
variable {i : Instr} {m : M End} {s u : State} {e : End} {t : Trap} {q : Option Word}

theorem RunsBody.congr {n : M End} (h : RunsBody i s m) (hm : m s = n s) : RunsBody i s n :=
  ⟨h.body.trans (runBody_congr hm), h.notDup⟩

/-- A body that starts by reading the state. -/
theorem RunsBody.of_get (f : State → M End) (h : RunsBody i s (get >>= f)) : RunsBody i s (f s) :=
  h.congr (M.get_bind f s)

theorem RunsBody.completes (h : RunsBody i s m) (hm : m s = .ok (e, u)) (he : e.plain u) : CompletesAs i s u :=
  completes_of_body h.body rfl (decide_eq_false h.notDup) (atomic_ok hm) he

theorem RunsBody.trapsFrom (h : RunsBody i s m) (hm : m s = .error (.trap t q u)) : TrapsFrom i s u t q :=
  h.body.trans (runBody_trap (atomic_trap hm))

theorem RunsBody.raises (h : RunsBody i s m) (hm : m s = .error (.trap t q s)) : Raises i s t q := h.trapsFrom hm

theorem RunsBody.passes {n : M α} {k : α → M End} (h : RunsBody i s m) (hm : m s = (n >>= k) s) :
    PassesTrapsOf i s n :=
  passesTraps_of_body h.body hm

theorem RunsBody.user {w : Word} (h : RunsBody i s m) (hm : m s = .ok (e, u)) (he : e.plain u) (hw : e.user = some w)
    (hO : u.overflow = true) : EndsInUserTrap i s u w :=
  user_of_body h.body rfl (decide_eq_false h.notDup) (atomic_ok hm) he hw hO

end

/-! ## Bodies on the stack -/

/-- What `OnStack` says of an instruction, said of its body, whose end is e. -/
def RunsOnStack (m : M End) (s : State) (n k p : Nat) (e : End) (u : State) : Prop :=
  s.hasStack n k = true → if s.popsOk p then m s = .ok (e, u) else m s = .error (.trap .stackUnderflow none s)

section
variable {i : Instr} {m : M End} {s u : State} {n k p : Nat} {e : End}

theorem RunsOnStack.onStack (hm : RunsOnStack m s n k p e u) (he : e.plain u) (h : RunsBody i s m) :
    OnStack i s n k p u := by
  intro hs
  have hr := hm hs
  split at hr
  next hp => rw [if_pos hp]; exact h.completes hr he
  next hp => rw [if_neg hp]; exact h.raises hr

/-- A body that pops nothing. -/
theorem RunsOnStack.keeping (h : s.hasStack n k = true → m s = .ok (e, u)) : RunsOnStack m s n k 0 e u :=
  fun hs => (if_pos rfl).mpr (h hs)

/-- A body that reads the top word and pops it or not. -/
def popTop (pop : Bool) (f : Word → M End) : M End :=
  if pop then peek 0 >>= fun v => checkPop 1 >>= fun _ => dropWords 1 >>= fun _ => f v else peek 0 >>= f

theorem popTop_runs {pop : Bool} {f : Word → M End}
    (h : f (s.top 0) (s.popped (if pop then 1 else 0)) = .ok (e, u)) :
    RunsOnStack (popTop pop f) s 1 0 (if pop then 1 else 0) e u := by
  intro hs
  have htop : peek 0 s = .ok (s.top 0, s) := peek_present (State.hasStack_top hs)
  cases pop
  · rw [if_neg (by simp), State.popped_zero] at h
    exact (if_pos rfl).mpr ((M.bind_ok htop).trans h)
  · have hb : popTop true f s = (checkPop 1 >>= fun _ => dropWords 1 >>= fun _ => f (s.top 0)) s := M.bind_ok htop
    cases hp : s.canPop 1
    · rw [if_neg (by simp [State.popsOk, hp]), hb]
      exact M.bind_error (checkPop_cannot hp)
    · rw [if_pos (by simp [State.popsOk, hp]), hb, M.bind_ok (checkPop_can hp)]
      exact h

end

/-! ## Pushes -/

section
variable {s : State} {v : Word}

/-- Push a word and leave CC alone (R219, R564). -/
def pushDone (v : Word) : M End := push v >>= fun _ => pure done

theorem pushDone_room {n k : Nat} (h : s.hasStack n (k + 1) = true) : pushDone v s = .ok (done, s.pushed v) := by
  unfold pushDone
  rw [M.bind_ok (push_room h), M.pure_apply]

theorem dzro_runs :
    RunsOnStack (push 0#32 >>= fun _ => pushAnswer 0#32) s 0 2 0 done (((s.pushed 0#32).pushed 0#32).setCC ccE) :=
  .keeping fun h => by
    rw [M.bind_ok (push_room h), pushAnswer_room (State.pushed_hasStack h)]
    rfl

theorem pushAnswer_onStack {i : Instr} (h : RunsBody i s (pushAnswer v)) :
    OnStack i s 0 1 0 ((s.pushed v).setCC (ccWord v)) :=
  (RunsOnStack.keeping pushAnswer_room).onStack (done_plain _) h

theorem pushDone_onStack {i : Instr} (h : RunsBody i s (pushDone v)) : OnStack i s 0 1 0 (s.pushed v) :=
  (RunsOnStack.keeping pushDone_room).onStack (done_plain _) h

end

/-! ## The index register -/

section
variable {i : Instr} {s : State}

theorem setXAnswer_apply (v : Word) (s : State) :
    setXAnswer v s = .ok (done, (s.putX v).setCC (ccWord v)) := (rfl)

theorem setXAnswer_onStack {v : Word} (h : RunsBody i s (setXAnswer v)) :
    OnStack i s 0 0 0 ((s.putX v).setCC (ccWord v)) :=
  (RunsOnStack.keeping fun _ => setXAnswer_apply v s).onStack (done_plain _) h

/-- Whether a result fits is whether two's complement keeps it (R320). -/
theorem overflows32_eq (r : Int) : overflows32 r = inexactWord r := by
  rw [overflows32, inexactWord, ← Bool.decide_or, decide_eq_decide, wordOf, BitVec.toInt_ofInt]
  simp only [Int.bmod]
  omega

/-- The end of an instruction that sets O when c holds (R320). -/
def overflowEnd (c : Bool) (kind type : Nat) : End := if c then { user := some (userParam kind type) } else done

theorem overflowEnd_plain (c : Bool) (kind type : Nat) (s : State) : (overflowEnd c kind type).plain s := by
  cases c
  · exact done_plain s
  · exact ⟨rfl, rfl, rfl, by simp [overflowEnd]⟩

@[simp] theorem overflowIf_apply (c : Bool) (kind type : Nat) (s : State) :
    overflowIf c kind type s = .ok (overflowEnd c kind type, s.noteOverflow c) := by
  cases c <;> rfl

/-- A body that sets O when c holds, and records the parameter of the User Trap (R320, R631). -/
theorem RunsOnStack.settingO {m : M End} {u : State} {n k p kind type : Nat} {c : Bool}
    (hm : RunsOnStack m s n k p (overflowEnd c kind type) u) (hO : c = true → u.overflow = true) (h : RunsBody i s m) :
    OnStackSettingO i s n k p u c (userParam kind type) := by
  refine ⟨hm.onStack (overflowEnd_plain ..) h, fun hs hp hc => ?_⟩
  have hr := hm hs
  rw [if_pos hp] at hr
  exact h.user hr (overflowEnd_plain ..) (by rw [overflowEnd, if_pos hc]) (hO hc)

/-- The state with r added up in X (R338). -/
def State.summedX (s : State) (r : Int) : State :=
  ((s.putX (wordOf r)).noteOverflow (inexactWord r)).setCC (ccWord (wordOf r))

theorem State.summedX_overflow {r : Int} (h : inexactWord r = true) : (s.summedX r).overflow = true := by
  simp [State.summedX, State.noteOverflow, h]

theorem arithX_apply (r : Int) (s : State) :
    arithX r s = .ok (overflowEnd (inexactWord r) 0 1, s.summedX r) := by
  unfold arithX
  rw [M.modify_bind, M.bind_ok (overflowIf_apply ..), overflows32_eq]
  rfl

/-- ADXI and SBXI (R340, R341). -/
theorem arithX_settingO {r : Int} (h : RunsBody i s (arithX r)) :
    OnStackSettingO i s 0 0 0 (s.summedX r) (inexactWord r) 0x01#32 :=
  (RunsOnStack.keeping fun _ => arithX_apply r s).settingO State.summedX_overflow h

/-- ADAX (R338). -/
theorem popTop_settingO {pop : Bool} {r : Word → Int} (h : RunsBody i s (popTop pop fun v => arithX (r v))) :
    let p := if pop then 1 else 0
    OnStackSettingO i s 1 0 p ((s.popped p).summedX (r (s.top 0))) (inexactWord (r (s.top 0))) 0x01#32 :=
  (popTop_runs (f := fun v => arithX (r v)) (arithX_apply _ _)).settingO State.summedX_overflow h

/-- STAX (R240). -/
theorem popTop_setX_onStack {pop : Bool} (h : RunsBody i s (popTop pop setXAnswer)) :
    let p := if pop then 1 else 0
    OnStack i s 1 0 p (((s.popped p).putX (s.top 0)).setCC (ccWord (s.top 0))) :=
  (popTop_runs (f := setXAnswer) (setXAnswer_apply _ _)).onStack (done_plain _) h

end


/-! ## The bodies that read the state first -/

section
variable {s : State}

theorem ldxa_runs : RunsBody .ldxa s (pushAnswer s.X) := .of_get (fun s => pushAnswer s.X) ⟨rfl, nofun⟩

theorem cci_runs :
    RunsBody .cci s (pushDone (if s.cc = ccG then 1#32 else if s.cc = ccE then 0#32 else 0xFFFFFFFF#32)) :=
  .of_get (fun s => pushDone (if s.cc = ccG then 1#32 else if s.cc = ccE then 0#32 else 0xFFFFFFFF#32)) ⟨rfl, nofun⟩

theorem tcc_runs {f : BitVec 3} : RunsBody (.tcc f) s (pushDone (if ccSelected s.cc f then 1#32 else 0#32)) :=
  .of_get (fun s => pushDone (if ccSelected s.cc f then 1#32 else 0#32)) ⟨rfl, nofun⟩

theorem adxi_runs {n : BitVec 8} : RunsBody (.adxi n) s (arithX (s.X.toInt + n.toNat)) :=
  .of_get (fun s => arithX (s.X.toInt + n.toNat)) ⟨rfl, nofun⟩

theorem sbxi_runs {n : BitVec 8} : RunsBody (.sbxi n) s (arithX (s.X.toInt - n.toNat)) :=
  .of_get (fun s => arithX (s.X.toInt - n.toNat)) ⟨rfl, nofun⟩

theorem adax_runs {b3 : Bool} : RunsBody (.adax b3) s (popTop b3 fun a => arithX (s.X.toInt + a.toInt)) := by
  cases b3 <;> exact .of_get (fun s => popTop _ fun a => arithX (s.X.toInt + a.toInt)) ⟨rfl, nofun⟩

theorem stax_runs {b3 : Bool} : RunsBody (.stax b3) s (popTop b3 setXAnswer) := by
  cases b3 <;> exact ⟨rfl, nofun⟩

end

/-- Settles O3, one instruction at a time. -/
theorem constantsAndIndexLoads : Obligations.ConstantsAndIndexLoads := by
  unfold Obligations.ConstantsAndIndexLoads
  constructor
  · intro s pushedWith
    exact ⟨pushAnswer_onStack ⟨rfl, nofun⟩, dzro_runs.onStack (done_plain _) ⟨rfl, nofun⟩,
      fun n => pushAnswer_onStack ⟨rfl, nofun⟩, fun n => pushAnswer_onStack ⟨rfl, nofun⟩,
      fun n => pushAnswer_onStack ⟨rfl, nofun⟩, fun n => pushAnswer_onStack ⟨rfl, nofun⟩,
      pushAnswer_onStack ldxa_runs, pushDone_onStack cci_runs, fun f => pushDone_onStack tcc_runs⟩
  · intro s a set sum
    refine ⟨fun n => setXAnswer_onStack ⟨rfl, nofun⟩, fun n => setXAnswer_onStack ⟨rfl, nofun⟩, ?_, ?_, ?_⟩
    · have h : OnStack (.stax false) s 1 0 0 (set (s.popped 0) a) := popTop_setX_onStack stax_runs
      rwa [State.popped_zero] at h
    · exact popTop_setX_onStack stax_runs
    · intro adds
      have h0 {i : Instr} {r : Int} (h : RunsBody i s (arithX r)) : adds i 0 0 r := by
        show OnStackSettingO i s 0 0 0 ((s.popped 0).summedX r) (inexactWord r) 0x01#32
        rw [State.popped_zero]
        exact arithX_settingO h
      exact ⟨fun n => ⟨h0 adxi_runs, h0 sbxi_runs⟩, popTop_settingO adax_runs, popTop_settingO adax_runs⟩

end Sys2Proof.Machine

/-! The stores through an effective address: their traps, and STS and STD. -/

namespace Sys2Proof.Machine

variable {α : Type} {s t : State} {e : Effective} {i x : Bool} {b : Base} {off k span : Nat} {j : Instr}

/-- What the stores through an effective address have in common, for a value whose last word is the n-th from the top
and which has k words: the base is tested, E evaluated, a word of the value read and its pop tested (R230, R260). -/
def storeTo (b : Base) (off : Nat) (i x : Bool) (span n k : Nat) (f : Effective → Word → Unit → M End) : M End :=
  requireDataBase b >>= fun _ => effective b off i x true span >>= fun e => peek n >>= fun v => checkPop k >>= f e v

section
variable {n : Nat} {f : Effective → Word → Unit → M End}

theorem requireDataBase_bind (hb : baseIsCode b = false) (g : Unit → M α) : (requireDataBase b >>= g) s = g () s :=
  M.bind_ok ((require_ok_iff ..).2 ⟨by rw [hb]; rfl, rfl⟩)

/-- A program base is refused before anything else (R230). -/
theorem storeTo_violates (h : RunsBody j s (storeTo b off i x span n k f)) (hb : baseIsCode b = true) :
    Raises j s .codeSegmentViolation none :=
  h.raises (M.bind_error (by rw [requireDataBase, hb]; rfl))

theorem storeTo_passes (h : RunsBody j s (storeTo b off i x span n k f)) (hb : baseIsCode b = false) :
    PassesTrapsOf j s (effective b off i x true span) :=
  h.passes (requireDataBase_bind hb _)

/-- A pop that underflows finds what the evaluation of E has left (R260, R603). -/
theorem storeTo_underflows (h : RunsBody j s (storeTo b off i x span n k f)) (hb : baseIsCode b = false)
    (he : effective b off i x true span s = .ok (e, t)) (hn : t.hasWord (t.S - BitVec.ofNat 32 (4 * n)) = true)
    (hc : t.canPop k = false) : TrapsFrom j s t .stackUnderflow none :=
  h.trapsFrom ((requireDataBase_bind hb _).trans (by
    rw [M.bind_ok he, M.bind_ok (peek_present hn), M.bind_error (checkPop_cannot hc)]))

theorem storeTo_apply (hb : baseIsCode b = false) (he : effective b off i x true span s = .ok (e, t))
    (hn : t.hasWord (t.S - BitVec.ofNat 32 (4 * n)) = true) (hc : t.canPop k = true) :
    storeTo b off i x span n k f s = f e (t.top n) () t :=
  (requireDataBase_bind hb _).trans (by
    rw [M.bind_ok he, M.bind_ok (peek_present hn), M.bind_ok (checkPop_can hc)])

end

section
variable {off : BitVec 19} {n : BitVec 8}

/-- A state read after the test of the base is the one before it. -/
theorem requireDataBase_get (g : State → M α) :
    (requireDataBase b >>= fun _ => get >>= g) s = (requireDataBase b >>= fun _ => g s) s := by
  unfold requireDataBase
  rw [require_bind, require_bind, M.get_bind]

theorem store_runs (hj : j ∈ [Instr.st i x b off, .stb i x b off, .sth i x b off]) :
    ∃ f, RunsBody j s (storeTo b off.toNat i x 0 0 1 f) := by
  simp only [List.mem_cons, List.not_mem_nil, or_false] at hj
  obtain rfl | rfl | rfl := hj
  all_goals exact ⟨_, rfl, nofun⟩

theorem sts_runs : RunsBody (.sts i x b n) s (storeTo b (4 * n.toNat) i x 0 0 1 fun e v _ =>
    writeWord e.addr v >>= fun _ => dropWords 1 >>= fun _ => pure (traced e.pointer 4)) := ⟨rfl, nofun⟩

theorem sts_completes (h : StoresTo s i x b (4 * n.toNat) e t) (hw : t.hasWord e.addr = true) :
    CompletesTraced (.sts i x b n) s ((t.putWord e.addr (t.top 0)).popped 1) e.pointer 4#32 :=
  completesTraced16 (count := 4) rfl rfl (by simp) (h.run (writeWord_present hw))

/-- The stores of STD: the second word is read when the first has been stored (R235). -/
def storeBoth (e : Effective) (hi : Word) : M End :=
  writeWord e.addr hi >>= fun _ => peek 0 >>= fun lo => writeWord (e.addr + 4#32) lo >>= fun _ =>
    dropWords 2 >>= fun _ => pure (traced e.pointer 8)

theorem storeBoth_ok (h : t.hasStack 2 0 = true) (hw : t.hasWord e.addr = true)
    (hw4 : t.hasWord (e.addr + 4#32) = true) :
    let u := t.putWord e.addr (t.top 1)
    storeBoth e (t.top 1) t = .ok (traced e.pointer 8, (u.putWord (e.addr + 4#32) (u.top 0)).popped 2) := by
  intro u
  have h0 : u.hasWord (u.S - BitVec.ofNat 32 (4 * 0)) = true := State.hasStack_below (s := t) h (by omega)
  have h4 : u.hasWord (e.addr + 4#32) = true := hw4
  unfold storeBoth
  rw [M.bind_ok (writeWord_present hw), M.bind_ok (peek_present h0), M.bind_ok (writeWord_present h4), dropWords_bind,
    M.pure_apply]

theorem std_runs :
    RunsBody (.std i x b off) s (storeTo b off.toNat i x s.doubleSpan 1 2 fun e hi _ => storeBoth e hi) :=
  .congr ⟨rfl, nofun⟩ (requireDataBase_get fun s => effective b off.toNat i x true s.doubleSpan >>= fun e =>
    peek 1 >>= fun hi => checkPop 2 >>= fun _ => storeBoth e hi)

theorem dataStore_runs (hj : j ∈ [Instr.st i x b off, .sts i x b n, .stb i x b off, .sth i x b off, .std i x b off]) :
    ∃ o span n k f, RunsBody j s (storeTo b o i x span n k f) := by
  simp only [List.mem_cons, List.not_mem_nil, or_false] at hj
  obtain rfl | rfl | rfl | rfl | rfl := hj
  case inr.inl => exact ⟨_, _, _, _, _, sts_runs⟩
  case inr.inr.inr.inr => exact ⟨_, _, _, _, _, std_runs⟩
  all_goals exact ⟨_, _, _, _, _, rfl, nofun⟩

theorem std_completes (hb : baseIsCode b = false) (he : effective b off.toNat i x true s.doubleSpan s = .ok (e, t))
    (h : t.hasStack 2 0 = true) (hc : t.canPop 2 = true) (hw : t.hasWord e.addr = true)
    (hw4 : t.hasWord (e.addr + 4#32) = true) :
    let u := t.putWord e.addr (t.top 1)
    CompletesTraced (.std i x b off) s ((u.putWord (e.addr + 4#32) (u.top 0)).popped 2) e.pointer 8#32 :=
  completesTraced_of_body (count := 8) std_runs.body rfl rfl
    (atomic_ok ((storeTo_apply hb he (State.hasStack_below h (by omega)) hc).trans (storeBoth_ok h hw hw4)))

end

/-- Settles O15: the common beginning of the stores, then each store at its address. -/
theorem storesWriteTheOperandAtTheirAddress : Obligations.StoresWriteTheOperandAtTheirAddress := by
  unfold Obligations.StoresWriteTheOperandAtTheirAddress
  intro s t e i x b off n at19 at8 both v first underflows
  refine ⟨fun hb j hj => ?_, fun hb => ⟨fun j hj => ?_, storeTo_passes sts_runs hb, storeTo_passes std_runs hb,
    fun he h hc => storeTo_underflows sts_runs hb he (State.hasStack_top h) hc,
    fun he h hc => storeTo_underflows std_runs hb he (State.hasStack_below h (by omega)) hc, fun he h hc => ?_,
    fun he h hc => sts_completes ⟨hb, he, h, hc⟩, fun he h hc => std_completes hb he h hc⟩⟩
  · obtain ⟨_, _, _, _, _, hj⟩ := dataStore_runs hj
    exact storeTo_violates hj hb
  · obtain ⟨f, hf⟩ := store_runs hj
    exact ⟨storeTo_passes hf hb, fun he h hc => storeTo_underflows hf hb he (State.hasStack_top h) hc⟩
  · have hst : StoresTo s i x b off.toNat e t := ⟨hb, he, h, hc⟩
    exact ⟨st_completes hst, sth_completes hst, stb_completes hst⟩

end Sys2Proof.Machine

/-! The pointers that LRA, LRAS, LPP and LPPS push. -/

namespace Sys2Proof.Machine

variable {s : State} {b : Base} {k : Nat} {x : Bool} {j : Instr} {p : Word}

/-! ## Fields as masks -/

/-- A tag in bits 0 and 1 of a word that has neither, as a mask (R104). -/
theorem setField_tag {r : Int} (h : 0 ≤ r ∧ r < 2 ^ 30) (c : BitVec 2) :
    setField (wordOf r) 0 2 c = wordOf r ||| c.setWidth 32 <<< 30 := by
  have hr : ((wordOf r).toNat : Int) = r := wordOf_toNat h.1 (by omega)
  have hlow : wordOf r &&& ~~~ fieldMask 32 0 2 = wordOf r := by
    refine BitVec.eq_of_toNat_eq ((mask30_toNat (wordOf r)).trans ?_)
    omega
  unfold setField
  rw [hlow]

/-- An external program pointer to the n-th entry of segment c, as masks (R131). -/
theorem externalPointer_eq (n : BitVec 19) (c : BitVec 12) :
    setField (setField 0x80000000#32 1 19 n) 20 12 c =
      0x80000000#32 ||| (n.setWidth 32 <<< 12) ||| c.setWidth 32 := by
  unfold setField fieldMask
  ext i hi
  interval_cases i <;> simp

/-! ## LRA and LRAS -/

/-- The pointer that LRA and LRAS push, from the state s (R219, R220). -/
def relativePointer (s : State) (b : Base) (k : Nat) (i x : Bool) : M Word :=
  let loc := s.baseAddr b k
  let xx := s.indexOf x
  if baseIsCode b then
    if i then readPointer b loc >>= fun w => pure (wordOf (loc + w.toInt + xx - s.PB.toNat))
    else pure (wordOf (loc + xx - s.PB.toNat))
  else if i then readPointer b loc >>= fun p => lraIndexed p xx
  else
    let r : Int := (if baseIsGlobal b then loc - s.DB.toNat else loc - s.SB.toNat) + xx
    require (decide (0 ≤ r) && decide (r < 2 ^ 30)) .pointerConversion >>= fun _ =>
      pure (setField (wordOf r) 0 2 (if baseIsGlobal b then 0b10#2 else 0b11#2))

section
variable {i : Bool} {v : Word}

theorem loadRelative_apply : loadRelative b k i x s = (relativePointer s b k i x >>= pushDone) s := (rfl)

theorem loadRelative_completes (h : RunsBody j s (loadRelative b k i x)) (hs : s.hasStack 0 1 = true)
    (hv : relativePointer s b k i x s = .ok (v, s)) : CompletesAs j s (s.pushed v) :=
  h.completes (loadRelative_apply.trans ((M.bind_ok hv).trans (pushDone_room hs))) (done_plain _)

theorem loadRelative_raises {t : Trap} (h : RunsBody j s (loadRelative b k i x))
    (hv : relativePointer s b k i x s = .error (.trap t none s)) : Raises j s t none :=
  h.raises (loadRelative_apply.trans (M.bind_error hv))

/-- A direct pointer of a program base is relative to PB. -/
theorem relativePointer_code (hb : baseIsCode b = true) :
    relativePointer s b k false x s = .ok (wordOf (s.baseAddr b k + s.indexOf x - s.PB.toNat), s) := by
  unfold relativePointer
  simp only [hb, Bool.false_eq_true, if_true, if_false]
  exact M.pure_apply _ s

/-- A direct pointer of a data base is relative to DB or to SB, with the tag 10 or 11. -/
theorem relativePointer_data {r : Int} (hb : baseIsCode b = false)
    (hr : r = s.baseAddr b k - (if baseIsGlobal b then s.DB.toNat else s.SB.toNat) + s.indexOf x) :
    relativePointer s b k false x s = if 0 ≤ r ∧ r < 2 ^ 30 then
        .ok (wordOf r ||| (if baseIsGlobal b then 0x80000000#32 else 0xC0000000#32), s)
      else .error (.trap .pointerConversion none s) := by
  have hr' :
      (if baseIsGlobal b then s.baseAddr b k - s.DB.toNat else s.baseAddr b k - s.SB.toNat) + s.indexOf x = r := by
    rw [hr]
    split <;> rfl
  unfold relativePointer
  simp only [hb, hr', Bool.false_eq_true, if_false, ← Bool.decide_and, require_bind, decide_eq_true_eq]
  by_cases h : 0 ≤ r ∧ r < 2 ^ 30
  · rw [if_pos h, if_pos h, setField_tag h, apply_ite (fun c : BitVec 2 => c.setWidth 32 <<< 30)]
    rfl
  · rw [if_neg h, if_neg h]

/-- An indirect pointer is what its word in memory gives. -/
theorem relativePointer_indirect {p : Word} (hp : readPointer b (s.baseAddr b k) s = .ok (p, s)) :
    relativePointer s b k true x s =
      if baseIsCode b then .ok (wordOf (s.baseAddr b k + p.toInt + s.indexOf x - s.PB.toNat), s)
      else lraIndexed p (s.indexOf x) s := by
  unfold relativePointer
  cases baseIsCode b <;> exact M.bind_ok hp

theorem relativePointer_out (h : s.baseAddr b k < s.baseLow b ∨ s.baseHigh b < s.baseAddr b k) :
    relativePointer s b k true x s = .error (.trap .boundsViolation none s) := by
  unfold relativePointer
  cases baseIsCode b <;> exact M.bind_error (readPointer_out h)

/-- The index may not carry the pointer out of its kind (R219). -/
theorem lraIndexed_apply {xx : Int} :
    let r : Int := p.toNat + xx
    let unit : Int := if bit p 0 then 2 ^ 30 else 2 ^ 31
    lraIndexed p xx s = if xx = 0 ∨ r / unit = p.toNat / unit then .ok (wordOf r, s)
      else .error (.trap .pointerConversion none s) := by
  intro r unit
  unfold lraIndexed
  rw [require_bind]
  simp only [Bool.or_eq_true, decide_eq_true_eq]
  rfl

end

/-! ## LPP and LPPS -/

section
variable {off : BitVec 19}

theorem loadProgramPointer_beyond (hw : s.hasWord s.PL = true) (h : (field (s.word s.PL) 13 19).toNat < off.toNat) :
    loadProgramPointer off s = .error (.trap .sttViolation (some 1#32) s) := by
  unfold loadProgramPointer
  rw [M.get_bind, M.bind_ok (readWord_present hw), require_bind, if_neg (by simpa using h)]

theorem loadProgramPointer_apply (hw : s.hasWord s.PL = true) (h : ¬ (field (s.word s.PL) 13 19).toNat < off.toNat)
    (hv : s.hasWord (s.PL - off.setWidth 32) = true) :
    let v := s.word (s.PL - off.setWidth 32)
    loadProgramPointer off s = pushDone
      (if bit v 0 then v else 0x80000000#32 ||| (off.setWidth 32 <<< 12) ||| s.csn.setWidth 32) s := by
  intro v
  rw [← externalPointer_eq]
  unfold loadProgramPointer
  rw [M.get_bind, M.bind_ok (readWord_present hw), require_bind, if_pos (by simpa using h),
    M.bind_ok (readWord_present hv)]
  rfl

end

/-- Settles O13: what each form of the operand pushes, for LRA and LRAS alike, and the entry of the STT. -/
theorem pointersArePushed : Obligations.PointersArePushed := by
  unfold Obligations.PointersArePushed
  constructor
  · intro s x b off n xx both hs
    have hboth (i : Bool) (Says : Instr → Nat → Prop) (h : ∀ j k, RunsBody j s (loadRelative b k i x) → Says j k) :
        both i Says := ⟨h _ _ ⟨rfl, nofun⟩, h _ _ ⟨rfl, nofun⟩⟩
    clear_value both -- so that the two claims below are seen to be of the form `both i Says`
    refine ⟨fun hb => hboth false _ fun j k h => loadRelative_completes h hs (relativePointer_code hb),
      fun hb => ?_, ?_⟩
    · refine hboth false _ fun j k h => ?_
      intro r
      have hv := relativePointer_data (x := x) (r := r) hb rfl
      split
      next hr => exact loadRelative_completes h hs (hv.trans (if_pos hr))
      next hr => exact loadRelative_raises h (hv.trans (if_neg hr))
    · refine hboth true _ fun j k h => ?_
      intro loc
      split
      next hin =>
        intro p ha
        have hv := relativePointer_indirect (x := x) (readPointer_ok hin ha)
        refine ⟨fun hb => loadRelative_completes h hs (hv.trans (if_pos hb)), fun hb => ?_⟩
        intro r unit
        have hl := (hv.trans (if_neg (by simp [hb]))).trans lraIndexed_apply
        split
        next hr => exact loadRelative_completes h hs (hl.trans (if_pos hr))
        next hr => exact loadRelative_raises h (hl.trans (if_neg hr))
      next hout => exact loadRelative_raises h (relativePointer_out (by omega))
  · intro s off n len claim
    have key (j : Instr) (o : BitVec 19) (h : RunsBody j s (loadProgramPointer o)) : claim j o := by
      intro hw
      split
      next hlt => exact h.raises (loadProgramPointer_beyond hw hlt)
      next hle =>
        intro hv hs
        exact h.completes ((loadProgramPointer_apply hw hle hv).trans (pushDone_room hs)) (done_plain _)
    exact ⟨key _ _ ⟨rfl, nofun⟩, BitVec.mul_comm (n.setWidth 19) 4#19 ▸ key _ _ ⟨rfl, nofun⟩⟩

end Sys2Proof.Machine

/-! The instructions that delete, duplicate, exchange and test the words on top of the stack. -/

namespace Sys2Proof.Machine

/-! ## Bodies on the stack, action by action -/

section
variable {α : Type} {s u : State} {n k p : Nat} {e : End}

/-- A body that first finds something out and changes nothing. -/
theorem RunsOnStack.reading {m : M α} {f : α → M End} {a : α} (hm : s.hasStack n k = true → m s = .ok (a, s))
    (h : RunsOnStack (f a) s n k p e u) : RunsOnStack (m >>= f) s n k p e u := by
  intro hs
  rw [M.bind_ok (hm hs)]
  exact h hs

theorem RunsOnStack.peek {j : Nat} {f : Word → M End} (hj : j < n) (h : RunsOnStack (f (s.top j)) s n k p e u) :
    RunsOnStack (peek j >>= f) s n k p e u :=
  .reading (fun hs => peek_present (State.hasStack_below hs hj)) h

/-- A body that tests its pop before it does anything else (R260). -/
theorem RunsOnStack.checkPop {f : Unit → M End} (hp : p ≠ 0) (h : s.hasStack n k = true → f () s = .ok (e, u)) :
    RunsOnStack (checkPop p >>= f) s n k p e u := by
  intro hs
  have hp' : s.popsOk p = s.canPop p := by simp [State.popsOk, hp]
  rw [hp']
  cases hc : s.canPop p
  · exact M.bind_error (checkPop_cannot hc)
  · exact (M.bind_ok (checkPop_can hc)).trans (h hs)

theorem State.hasWords_congr {t : State} (hc : t.cfg = s.cfg) (hS : t.S = s.S) : t.hasWords k n = s.hasWords k n := by
  induction n with
  | zero => rfl
  | succ n ih => rw [State.hasWords, State.hasWords, ih, hS, State.hasWord_congr hc]

theorem State.hasStack_congr {t : State} (hc : t.cfg = s.cfg) (hS : t.S = s.S) : t.hasStack n k = s.hasStack n k := by
  rw [State.hasStack, State.hasStack, State.hasWords_congr hc hS, hS]

@[simp] theorem State.hasStack_putTop {j : Nat} {v : Word} : (s.putTop j v).hasStack n k = s.hasStack n k :=
  State.hasStack_congr rfl rfl

theorem poke_below {j : Nat} {v : Word} (h : s.hasStack n k = true) (hj : j < n) :
    poke j v s = .ok ((), s.putTop j v) :=
  poke_present (State.hasStack_below h hj)

end

/-! ## Delete -/

section
variable {s : State} {n k p : Nat}

theorem deleteWords_runs (hp : p ≠ 0) : RunsOnStack (deleteWords p) s n k p done (s.popped p) :=
  .checkPop hp fun _ => rfl

theorem deleteWords_onStack {i : Instr} (hp : p ≠ 0) (h : RunsBody i s (deleteWords p)) :
    OnStack i s n k p (s.popped p) :=
  (deleteWords_runs hp).onStack (done_plain _) h

/-- DELB replaces the second word by the first before it pops (R264). -/
theorem delb_onStack : OnStack .delb s 2 0 1 ((s.putTop 1 (s.top 0)).popped 1) :=
  RunsOnStack.onStack (.peek (by omega) (.checkPop (by omega) fun h => M.bind_ok (poke_below h (by omega))))
    (done_plain _) ⟨rfl, nofun⟩

theorem subs_onStack {c : BitVec 8} (hc : c ≠ 0) : OnStack (.subs c) s 0 0 c.toNat (s.popped c.toNat) :=
  deleteWords_onStack (fun h => hc (BitVec.eq_of_toNat_eq h)) (.congr ⟨rfl, nofun⟩ (congrFun (if_neg hc) s))

/-- SUBS 0 takes the number of the words below the top one from the top of the stack (R279). -/
theorem subs_zero_onStack :
    let p := 1 + (s.top 0).toInt.toNat
    OnStack (.subs 0) s 1 0 p (s.popped p) :=
  RunsOnStack.onStack (.peek (by omega) (deleteWords_runs (by omega))) (done_plain _)
    (.congr ⟨rfl, nofun⟩ (congrFun (if_pos rfl) s))

end

/-- Settles O1, one instruction at a time. -/
theorem deletingInstructionsLowerS : Obligations.DeletingInstructionsLowerS := by
  intro s
  exact ⟨deleteWords_onStack (by omega) ⟨rfl, nofun⟩, rfl, deleteWords_onStack (by omega) ⟨rfl, nofun⟩, rfl,
    delb_onStack, rfl, fun _ => subs_onStack, subs_zero_onStack⟩

/-! ## Duplicate and exchange -/

section
variable {s : State}

theorem hiWord_dword (v w : Word) : hiWord (dword v w) = v := BitVec.extractLsb'_append_eq_left

theorem loWord_dword (v w : Word) : loWord (dword v w) = w := BitVec.extractLsb'_append_eq_right

theorem peekDouble_below {n k j : Nat} (h : s.hasStack n k = true) (hj : 2 * j + 1 < n) :
    peekDouble j s = .ok (s.topDouble j, s) := by
  unfold peekDouble
  rw [M.bind_ok (peek_present (State.hasStack_below h (by omega))),
    M.bind_ok (peek_present (State.hasStack_below h hj)),
    M.pure_apply]
  rfl

theorem RunsOnStack.peekDouble {n k p j : Nat} {f : DWord → M End} {e : End} {u : State} (hj : 2 * j + 1 < n)
    (h : RunsOnStack (f (s.topDouble j)) s n k p e u) : RunsOnStack (peekDouble j >>= f) s n k p e u :=
  .reading (fun hs => peekDouble_below hs hj) h

theorem pokeDouble_below {n k j : Nat} {v w : Word} (h : s.hasStack n k = true) (hj : 2 * j + 1 < n) :
    pokeDouble j (dword v w) s = .ok ((), (s.putTop (2 * j + 1) v).putTop (2 * j) w) := by
  have hj' : (s.putTop (2 * j + 1) v).hasStack n k = true := s.hasStack_putTop.trans h
  unfold pokeDouble
  rw [hiWord_dword, loWord_dword, M.bind_ok (poke_below h hj), poke_below hj' (by omega)]

/-- DUP is the one instruction that ESCP remembers (R265, R725). -/
theorem dup_onStack : OnStack .dup s 1 1 0 ((s.pushed (s.top 0)).setCC (ccWord (s.top 0))) := by
  intro h
  have hb : (peek 0 >>= pushAnswer) s = .ok (done, (s.pushed (s.top 0)).setCC (ccWord (s.top 0))) := by
    rw [M.bind_ok (peek_present (State.hasStack_below h (by omega))), pushAnswer_room h]
  exact (if_pos rfl).mpr (completes_of_body rfl rfl rfl (atomic_ok hb) (done_plain _))

theorem ddup_onStack :
    OnStack .ddup s 2 2 0 (((s.pushed (s.top 1)).pushed (s.top 0)).setCC (ccDouble (dword (s.top 1) (s.top 0)))) := by
  refine RunsOnStack.onStack (.peekDouble (by omega) (.keeping fun h => ?_)) (done_plain _) ⟨rfl, nofun⟩
  unfold pushDouble State.topDouble
  rw [hiWord_dword, loWord_dword, M.bind_assoc_apply, M.bind_ok (push_room h),
    M.bind_ok (push_room (State.pushed_hasStack h))]
  rfl

theorem xch_onStack :
    OnStack .xch s 2 0 0 (((s.putTop 1 (s.top 0)).putTop 0 (s.top 1)).setCC (ccWord (s.top 1))) := by
  refine RunsOnStack.onStack (.peek (by omega) (.peek (by omega) (.keeping fun h => ?_))) (done_plain _) ⟨rfl, nofun⟩
  have h1 : (s.putTop 1 (s.top 0)).hasStack 2 0 = true := h
  rw [M.bind_ok (poke_below h (by omega)), answer_present (State.hasStack_below h1 (by omega))]

theorem dxch_onStack :
    OnStack .dxch s 4 0 0
      (((((s.putTop 1 (s.top 3)).putTop 0 (s.top 2)).putTop 3 (s.top 1)).putTop 2 (s.top 0)).setCC
        (ccDouble (dword (s.top 3) (s.top 2)))) := by
  refine RunsOnStack.onStack (.peekDouble (by omega) (.peekDouble (by omega) (.keeping fun h => ?_))) (done_plain _)
    ⟨rfl, nofun⟩
  have h1 : ((s.putTop 1 (s.top 3)).putTop 0 (s.top 2)).hasStack 4 0 = true := h
  unfold State.topDouble
  rw [M.bind_ok (pokeDouble_below h (by omega)), M.bind_ok (pokeDouble_below h1 (by omega))]
  rfl

/-- The body of XAX, from the X that it finds (R269). -/
def exchangeX (x : Word) : M End :=
  peek 0 >>= fun a => (modify fun t => { t with X := a } : M PUnit) >>= fun _ => answer x

theorem xax_onStack : OnStack .xax s 1 0 0 (((s.putX (s.top 0)).putTop 0 s.X).setCC (ccWord s.X)) := by
  refine RunsOnStack.onStack (.peek (by omega) (.keeping fun h => ?_)) (done_plain _)
    (.of_get (fun s => exchangeX s.X) ⟨rfl, nofun⟩)
  have h1 : (s.putX (s.top 0)).hasStack 1 0 = true := h
  exact (M.modify_bind ..).trans (answer_present (State.hasStack_top h1))

theorem cab_onStack :
    OnStack .cab s 3 0 0
      ((((s.putTop 2 (s.top 1)).putTop 1 (s.top 0)).putTop 0 (s.top 2)).setCC (ccWord (s.top 2))) := by
  refine RunsOnStack.onStack (.peek (by omega) (.peek (by omega) (.peek (by omega) (.keeping fun h => ?_))))
    (done_plain _) ⟨rfl, nofun⟩
  have h1 : (s.putTop 2 (s.top 1)).hasStack 3 0 = true := h
  have h2 : ((s.putTop 2 (s.top 1)).putTop 1 (s.top 0)).hasStack 3 0 = true := h
  rw [M.bind_ok (poke_below h (by omega)), M.bind_ok (poke_below h1 (by omega)),
    answer_present (State.hasStack_below h2 (by omega))]

end

/-- Settles O2, one instruction at a time. -/
theorem duplicateAndExchangePermuteTheStack : Obligations.DuplicateAndExchangePermuteTheStack := by
  intro s a b c d
  exact ⟨dup_onStack, ddup_onStack, xch_onStack, rfl, rfl, rfl, rfl, dxch_onStack, xax_onStack, cab_onStack⟩

/-! ## Tests and compares -/

section
variable {i : Instr} {s : State} {n p : Nat} {cc : BitVec 2}

theorem testAnd_runs {pop : Bool} (hp : p ≠ 0) :
    let q := if pop then p else 0
    RunsOnStack (testAnd cc pop p) s n 0 q done ((s.popped q).setCC cc) := by
  cases pop
  · exact .keeping fun _ => (congrArg (fun t : State => Except.ok (done, t.setCC cc)) s.popped_zero).symm
  · exact .checkPop hp fun _ => rfl

theorem compareAnd_runs {a b : Int} (hp : p ≠ 0) :
    RunsOnStack (compareAnd a b p) s n 0 p done ((s.popped p).setCC (ccCompare a b)) :=
  .checkPop hp fun _ => rfl

theorem test_onStack {pop : Bool} :
    let q := if pop then 1 else 0
    OnStack (.test pop) s 1 0 q ((s.popped q).setCC (ccWord (s.top 0))) :=
  RunsOnStack.onStack (.peek (by omega) (testAnd_runs (by omega))) (done_plain _) ⟨rfl, nofun⟩

theorem tstb_onStack {pop : Bool} :
    let q := if pop then 1 else 0
    OnStack (.tstb pop) s 1 0 q ((s.popped q).setCC (ccByte ((s.top 0).setWidth 8))) := by
  rw [← field_byte]
  exact RunsOnStack.onStack (.peek (by omega) (testAnd_runs (by omega))) (done_plain _) ⟨rfl, nofun⟩

theorem tstd_onStack {pop : Bool} :
    let q := if pop then 2 else 0
    OnStack (.tstd pop) s 2 0 q ((s.popped q).setCC (ccDouble (dword (s.top 1) (s.top 0)))) :=
  RunsOnStack.onStack (.peekDouble (by omega) (testAnd_runs (by omega))) (done_plain _) ⟨rfl, nofun⟩

/-- CMP and LCMP, which compare the second word with the first and pop one or both (R327, R331). -/
theorem compareTwo_onStack {pop : Bool} {f : Word → Int}
    (h : RunsBody i s (peek 0 >>= fun a => peek 1 >>= fun b => compareAnd (f b) (f a) (if pop then 2 else 1))) :
    let q := 1 + if pop then 1 else 0
    OnStack i s 2 0 q ((s.popped q).setCC (ccCompare (f (s.top 1)) (f (s.top 0)))) := by
  have hq : (if pop then 2 else 1) = 1 + if pop then 1 else 0 := by cases pop <;> rfl
  rw [hq] at h
  exact RunsOnStack.onStack (.peek (by omega) (.peek (by omega) (compareAnd_runs (by omega)))) (done_plain _) h

/-- CMPI and CMPN, which compare the top word with a number (R336, R337). -/
theorem compareTop_onStack {c : Int} (h : RunsBody i s (peek 0 >>= fun a => compareAnd a.toInt c 1)) :
    OnStack i s 1 0 1 ((s.popped 1).setCC (ccCompare (s.top 0).toInt c)) :=
  RunsOnStack.onStack (.peek (by omega) (compareAnd_runs (by omega))) (done_plain _) h

end

theorem encode_tests (p : Bool) :
    encode (.test p) = 0x0015#32 ||| (if p then 0x1000#32 else 0#32) ∧
      encode (.tstb p) = 0x0017#32 ||| (if p then 0x1000#32 else 0#32) ∧
      encode (.tstd p) = 0x0016#32 ||| (if p then 0x1000#32 else 0#32) := by
  cases p <;> exact ⟨rfl, rfl, rfl⟩

section
variable {b : Byte}

theorem ccByte_digit (h : 0x30 ≤ b.toNat ∧ b.toNat ≤ 0x39) : ccByte b = ccG := if_pos h

theorem ccByte_letter (h : 0x41 ≤ b.toNat ∧ b.toNat ≤ 0x5A ∨ 0x61 ≤ b.toNat ∧ b.toNat ≤ 0x7A) : ccByte b = ccE :=
  (if_neg (by omega)).trans (if_pos h)

theorem ccByte_special (hd : ¬ (0x30 ≤ b.toNat ∧ b.toNat ≤ 0x39))
    (hl : ¬ (0x41 ≤ b.toNat ∧ b.toNat ≤ 0x5A ∨ 0x61 ≤ b.toNat ∧ b.toNat ≤ 0x7A)) : ccByte b = ccL :=
  (if_neg hd).trans (if_neg hl)

end

/-- Settles O4: the tests and the compares one at a time, and the classes of bytes. -/
theorem testsAndComparesSetOnlyCC : Obligations.TestsAndComparesSetOnlyCC := by
  refine ⟨fun s => ?_, fun b => ⟨ccByte_digit, ccByte_letter, fun h => ccByte_special (by omega) (by omega)⟩⟩
  intro a b popIf order
  refine ⟨encode_tests, fun p => test_onStack, fun p => tstb_onStack, fun p => tstd_onStack, fun p => ?_, fun p => ?_,
    fun n => compareTop_onStack ⟨rfl, nofun⟩, fun n => compareTop_onStack ⟨rfl, nofun⟩⟩
  · exact compareTwo_onStack (f := BitVec.toInt) ⟨rfl, nofun⟩
  · exact compareTwo_onStack (f := fun v => v.toNat) ⟨rfl, nofun⟩

end Sys2Proof.Machine

/-! The instructions that move S up. -/

namespace Sys2Proof.Machine

/-! ## ADDS -/

section
variable {s : State} {n : BitVec 8} {newS : Int}

/-- The tests of a new S against the limits of the stack, and its store (R277). -/
def moveTop (sl q : Word) (newS : Int) : M End :=
  require (decide (newS ≤ sl.toNat)) .stackOverflow >>= fun _ =>
    require (decide ((q.toNat : Int) ≤ newS)) .stackUnderflow >>= fun _ =>
      (modify fun s => { s with S := wordOf newS } : M PUnit) >>= fun _ => pure done

theorem moveTop_apply :
    moveTop s.SL s.Q newS s =
      if s.SL.toNat < newS then .error (.trap .stackOverflow none s)
      else if newS < s.Q.toNat then .error (.trap .stackUnderflow none s)
      else .ok (done, { s with S := wordOf newS }) := by
  unfold moveTop
  simp only [require_bind, decide_eq_true_eq, ← Int.not_lt, ite_not]
  rfl

/-- The number of words that ADDS adds, which with n = 0 it takes from the top of the stack (R277). -/
theorem adds_runs (hp : s.privileged = true) (h : n = 0 → s.hasStack 1 0 = true) :
    RunsBody (.adds n) s (moveTop s.SL s.Q
      (if n = 0 then (s.S.toNat : Int) - 4 + 4 * (s.top 0).toInt else (s.S.toNat : Int) + 4 * n.toNat)) := by
  refine .congr ⟨rfl, nofun⟩ ?_
  rw [M.bind_ok (requirePrivileged_of s hp), M.get_bind]
  by_cases hn : n = 0
  · rw [if_pos hn, if_pos hn, M.bind_assoc_apply, M.bind_ok (peek_present (State.hasStack_top (h hn)))]
    rfl
  · rw [if_neg hn, if_neg hn]
    rfl

theorem moveTop_completes {i : Instr} (h : RunsBody i s (moveTop s.SL s.Q newS)) :
    if s.SL.toNat < newS then Raises i s .stackOverflow none
    else if newS < s.Q.toNat then Raises i s .stackUnderflow none
    else CompletesAs i s { s with S := wordOf newS } := by
  have ha := moveTop_apply (s := s) (newS := newS)
  split_ifs at ha ⊢
  · exact h.raises ha
  · exact h.raises ha
  · exact h.completes ha (done_plain _)

end

/-! ## PSHN -/

section
variable {s : State} {b3 : Bool} {v : Word}

theorem repeat_succ_inner {α : Type} (f : α → α) (n : Nat) (a : α) : Nat.repeat f (n + 1) a = Nat.repeat f n (f a) := by
  induction n with
  | zero => rfl
  | succ n ih => exact congrArg f ih

/-- The state with n copies of v pushed (R278). -/
def State.pushedTimes (t : State) (v : Word) (n : Nat) : State := Nat.repeat (fun u => u.pushed v) n t

theorem State.pushedTimes_succ (t : State) (v : Word) (n : Nat) :
    t.pushedTimes v (n + 1) = (t.pushed v).pushedTimes v n :=
  repeat_succ_inner (fun u : State => u.pushed v) n t

/-- Pushes change memory and S alone. -/
theorem State.pushedTimes_eq (t : State) (v : Word) (n : Nat) :
    t.pushedTimes v n = { t with mem := (t.pushedTimes v n).mem, S := t.S + BitVec.ofNat 32 (4 * n) } := by
  induction n generalizing t with
  | zero => exact congrArg (fun w : Word => { t with S := w }) (BitVec.add_zero t.S).symm
  | succ n ih =>
    rw [t.pushedTimes_succ, ih, State.pushed_S, Nat.mul_succ, BitVec.ofNat_add,
      BitVec.add_comm (BitVec.ofNat 32 (4 * n)),
      ← BitVec.add_assoc]
    rfl

/-- The words that PSHN stores above the address a are those that as many pushes store (R278). -/
theorem fillWords_ok {n : Nat} {a : Word}
    (h : ∀ k, 1 ≤ k → k ≤ n → s.hasWord (a + BitVec.ofNat 32 (4 * k)) = true) :
    fillWords v n a s = .ok ((), { s with mem := (({ s with S := a } : State).pushedTimes v n).mem }) := by
  induction n generalizing s a with
  | zero => rfl
  | succ n ih =>
    have hw : s.hasWord (a + 4#32) = true := h 1 (by omega) (by omega)
    unfold fillWords
    rw [M.bind_ok (writeWord_present hw), ih, State.pushedTimes_succ]
    · rfl
    · intro k h1 hk
      have := h (k + 1) (by omega) (by omega)
      rw [Nat.mul_succ, Nat.add_comm (4 * k), BitVec.ofNat_add, ← BitVec.add_assoc] at this
      exact this

/-- The word that PSHN repeats: the one on top, which is popped, or 0 (R278). -/
def repeatedWord (b3 : Bool) : M Word := if b3 then checkPop 1 >>= fun _ => peek 0 else pure 0#32

theorem repeatedWord_ok (hp : s.popsOk (if b3 then 1 else 0) = true) (h : b3 = true → s.hasStack 1 0 = true) :
    repeatedWord b3 s = .ok (if b3 then s.top 0 else 0#32, s) := by
  cases b3
  · rfl
  · exact (M.bind_ok (checkPop_can hp)).trans (peek_present (State.hasStack_top (h rfl)))

theorem repeatedWord_underflows (hp : s.popsOk (if b3 then 1 else 0) = false) :
    repeatedWord b3 s = .error (.trap .stackUnderflow none s) := by
  cases b3
  · cases hp
  · exact M.bind_error (checkPop_cannot hp)

/-- What PSHN does with the word that it repeats, S being s0 without it (R278). -/
def pushCopies (s0 x sl v : Word) : M End :=
  if 0 < x.toInt then
    require (decide ((s0.toNat : Int) + 4 * x.toInt ≤ sl.toNat)) .stackOverflow >>= fun _ =>
      fillWords v x.toInt.toNat s0 >>= fun _ =>
        (modify fun s => { s with S := s0 + 4#32 * s.X, X := 0#32 } : M PUnit) >>= fun _ =>
          putCC (ccWord v) >>= fun _ => pure done
  else (modify fun s => { s with S := s0 } : M PUnit) >>= fun _ => pure done

theorem pshn_runs :
    RunsBody (.pshn b3) s
      (repeatedWord b3 >>= pushCopies (s.popped (if b3 then 1 else 0)).S s.X s.SL) := by
  have hS : (s.popped (if b3 then 1 else 0)).S = if b3 then s.S - 4#32 else s.S := by
    cases b3
    · exact BitVec.sub_zero s.S
    · rfl
  rw [hS]
  exact .of_get (fun s => repeatedWord b3 >>= pushCopies (if b3 then s.S - 4#32 else s.S) s.X s.SL) ⟨rfl, nofun⟩

theorem pushCopies_none {k : Nat} (h : s.X.toInt ≤ 0) :
    pushCopies (s.popped k).S s.X s.SL v s = .ok (done, s.popped k) := by
  unfold pushCopies
  rw [if_neg (by omega)]
  rfl

theorem pushCopies_overflows {s0 : Word} (h : 0 < s.X.toInt) (ho : s.SL.toNat < (s0.toNat : Int) + 4 * s.X.toInt) :
    pushCopies s0 s.X s.SL v s = .error (.trap .stackOverflow none s) := by
  unfold pushCopies
  rw [if_pos h, require_bind, if_neg (by simpa using ho)]

theorem pushCopies_some {k : Nat} (h : 0 < s.X.toInt)
    (ho : ¬ s.SL.toNat < ((s.popped k).S.toNat : Int) + 4 * s.X.toInt) (hs : (s.popped k).hasStack 0 s.X.toNat = true) :
    pushCopies (s.popped k).S s.X s.SL v s =
      .ok (done, (((s.popped k).pushedTimes v s.X.toNat).putX 0#32).setCC (ccWord v)) := by
  have hx : s.X.toInt.toNat = s.X.toNat := by
    rw [BitVec.toInt_eq_toNat_cond] at h ⊢
    split_ifs at h ⊢ <;> omega
  have h4 : BitVec.ofNat 32 (4 * s.X.toNat) = 4#32 * s.X := by simp [BitVec.ofNat_mul]
  unfold pushCopies
  rw [if_pos h, require_bind, if_pos (by simpa using ho), hx,
    M.bind_ok (fillWords_ok (s := s) fun j h1 h2 => State.hasStack_above hs j h1 h2),
    (s.popped k).pushedTimes_eq v s.X.toNat, h4]
  rfl

theorem pshn_none (h : s.X.toInt ≤ 0) :
    OnStack (.pshn b3) s 1 0 (if b3 then 1 else 0) (s.popped (if b3 then 1 else 0)) := by
  refine RunsOnStack.onStack (fun hs => ?_) (done_plain _) pshn_runs
  cases hp : s.popsOk (if b3 then 1 else 0)
  · exact M.bind_error (repeatedWord_underflows hp)
  · exact (M.bind_ok (repeatedWord_ok hp fun _ => hs)).trans (pushCopies_none h)

end

/-- Settles O5: ADDS, and PSHN with nothing and with something to push. -/
theorem stackGrowthInstructions : Obligations.StackGrowthInstructions := by
  intro s
  refine ⟨fun hp n h => moveTop_completes (adds_runs hp h), fun b3 => pshn_none, fun b3 hx => ?_⟩
  intro v k t
  refine ⟨fun hp => pshn_runs.raises (M.bind_error (repeatedWord_underflows hp)), fun hp h => ?_⟩
  have hv := repeatedWord_ok hp h
  split
  next ho => exact pshn_runs.raises ((M.bind_ok hv).trans (pushCopies_overflows hx ho))
  next ho => exact fun hs => pshn_runs.completes ((M.bind_ok hv).trans (pushCopies_some hx ho hs)) (done_plain _)

end Sys2Proof.Machine

/-! The shifts, the field instructions and the bit counts. -/

namespace Sys2Proof.Machine

/-! ## Shifts -/

section
variable {s : State} {x : Bool} {cnt : BitVec 6} {i : Instr}

/-- The shift count is a sum modulo 64 (R290). -/
theorem State.shiftCount_eq : s.shiftCount x cnt = (cnt.toNat + (if x then s.X.toNat else 0)) % 64 := by
  unfold State.shiftCount
  rw [BitVec.toNat_add]
  cases x <;> simp

theorem shiftLeft_eq (v : Word) (n : Nat) : shiftLeft v n = wordOf (v.toNat * 2 ^ n) := by
  refine BitVec.eq_of_toNat_eq ?_
  have h : ((v.toNat : Int) * 2 ^ n) = ((v.toNat * 2 ^ n : Nat) : Int) := by push_cast; rfl
  rw [shiftLeft, BitVec.toNat_shiftLeft, Nat.shiftLeft_eq, wordOf, h, BitVec.ofInt_natCast, BitVec.toNat_ofNat]

theorem shiftRight_eq (v : Word) (n : Nat) : v >>> n = wordOf (v.toNat / 2 ^ n) := by
  refine BitVec.eq_of_toNat_eq ?_
  have h : ((v.toNat : Int) / 2 ^ n) = ((v.toNat / 2 ^ n : Nat) : Int) := by push_cast; rfl
  have hlt : v.toNat / 2 ^ n < 2 ^ 32 := (Nat.div_le_self ..).trans_lt v.isLt
  rw [BitVec.toNat_ushiftRight, Nat.shiftRight_eq_div_pow, wordOf, h, BitVec.ofInt_natCast, BitVec.toNat_ofNat,
    Nat.mod_eq_of_lt hlt]

/-- ASR rounds toward zero (R292). -/
theorem shiftArith_eq (v : Word) (n : Nat) : shiftArith v n = wordOf (v.toInt.tdiv (2 ^ n)) := by
  refine congrArg wordOf ?_
  split_ifs with h
  · obtain ⟨m, hm⟩ := Int.eq_ofNat_of_zero_le (a := -v.toInt) (by omega)
    have hv : v.toInt = -(m : Int) := by omega
    rw [hv, Int.neg_tdiv, Int.natAbs_neg, Int.natAbs_natCast, Int.tdiv_eq_ediv_of_nonneg (by omega)]
  · rw [Int.tdiv_eq_ediv_of_nonneg (by omega), Int.natAbs_of_nonneg (by omega)]

theorem answer_runs {n k : Nat} {v : Word} :
    RunsOnStack (answer v) s (n + 1) k 0 done ((s.putTop 0 v).setCC (ccWord v)) :=
  .keeping fun h => answer_present (State.hasStack_below h (by omega))

theorem shiftTop_onStack {f : Word → Word} (h : RunsBody i s (shiftTop f)) :
    OnStack i s 1 0 0 ((s.putTop 0 (f (s.top 0))).setCC (ccWord (f (s.top 0)))) :=
  RunsOnStack.onStack (m := shiftTop f) (.peek (by omega) answer_runs) (done_plain _) h

/-- The body of ASL, from the factor that it multiplies by (R291). -/
def shiftArithLeft (c : Int) : M End :=
  peek 0 >>= fun a => overflowIf (overflows32 (a.toInt * c)) 0 1 >>= fun e =>
    poke 0 (wordOf (a.toInt * c)) >>= fun _ => putCC (ccWord (wordOf (a.toInt * c))) >>= fun _ => pure e

theorem shiftArithLeft_settingO {c : Int} (h : RunsBody i s (shiftArithLeft c)) :
    let r := (s.top 0).toInt * c
    OnStackSettingO i s 1 0 0 (((s.noteOverflow (inexactWord r)).putTop 0 (wordOf r)).setCC (ccWord (wordOf r)))
      (inexactWord r) 0x01#32 := by
  intro r
  have hm : RunsOnStack (shiftArithLeft c) s 1 0 0 (overflowEnd (inexactWord r) 0 1)
      (((s.noteOverflow (inexactWord r)).putTop 0 (wordOf r)).setCC (ccWord (wordOf r))) := by
    refine .peek (by omega) (.keeping fun hs => ?_)
    have hs' : (s.noteOverflow (inexactWord r)).hasStack 1 0 = true := by
      unfold State.noteOverflow
      split <;> exact hs
    rw [overflows32_eq, M.bind_ok (overflowIf_apply ..), M.bind_ok (poke_below hs' (by omega))]
    rfl
  refine hm.settingO (fun ho => ?_) h
  rw [State.overflow_setCC, State.noteOverflow, if_pos ho]
  exact State.overflow_setO s true

theorem asl_settingO {n : Nat} (hn : s.shiftCount x cnt = n) :
    let r := (s.top 0).toInt * 2 ^ n
    OnStackSettingO (.asl x cnt) s 1 0 0
      (((s.noteOverflow (inexactWord r)).putTop 0 (wordOf r)).setCC (ccWord (wordOf r))) (inexactWord r) 0x01#32 := by
  subst hn
  exact shiftArithLeft_settingO (.of_get (fun s => shiftArithLeft (2 ^ s.shiftCount x cnt)) ⟨rfl, nofun⟩)

/-- The shifts of the top word by the count n (R290). -/
theorem shift_onStack {n : Nat} {v : Word} {f : Nat → Word → Word} (hn : s.shiftCount x cnt = n)
    (hv : f n (s.top 0) = v) (h : RunsBody i s (shiftTop (f (s.shiftCount x cnt)))) :
    OnStack i s 1 0 0 ((s.putTop 0 v).setCC (ccWord v)) := by
  subst hn hv
  exact shiftTop_onStack h

theorem asr_runs : RunsBody (.asr x cnt) s (shiftTop fun v => shiftArith v (s.shiftCount x cnt)) := ⟨rfl, nofun⟩

theorem lsl_runs : RunsBody (.lsl x cnt) s (shiftTop fun v => shiftLeft v (s.shiftCount x cnt)) := ⟨rfl, nofun⟩

theorem lsr_runs : RunsBody (.lsr x cnt) s (shiftTop fun v => v >>> s.shiftCount x cnt) := ⟨rfl, nofun⟩

theorem csl_runs : RunsBody (.csl x cnt) s (shiftTop fun v => v.rotateLeft (s.shiftCount x cnt % 32)) := ⟨rfl, nofun⟩

theorem csr_runs : RunsBody (.csr x cnt) s (shiftTop fun v => v.rotateRight (s.shiftCount x cnt % 32)) := ⟨rfl, nofun⟩

theorem lsxl_onStack {n : Nat} {v : Word} (hn : s.shiftCount x cnt = n) (hv : shiftLeft s.X n = v) :
    OnStack (.lsxl x cnt) s 0 0 0 ((s.putX v).setCC (ccWord v)) := by
  subst hn hv
  exact setXAnswer_onStack (.of_get (fun s => setXAnswer (shiftLeft s.X (s.shiftCount x cnt))) ⟨rfl, nofun⟩)

end

/-! ## Fields -/

section
variable {s : State} {x : Bool} {k j : BitVec 5}

/-- K and J as the quotient and the remainder of a sum modulo 1024 (R300). -/
theorem State.fieldSpec_eq :
    let f := (k.toNat * 32 + j.toNat + (if x then s.X.toNat else 0)) % 1024
    s.fieldSpec x k j = (f / 32, f % 32) := by
  intro f
  have hf : ((k ++ j) + (if x then s.X.setWidth 10 else 0) : BitVec 10).toNat = f := by
    have h : (k ++ j : BitVec 10).toNat = k.toNat * 32 + j.toNat := by
      rw [BitVec.toNat_append, ← Nat.shiftLeft_add_eq_or_of_lt j.isLt, Nat.shiftLeft_eq]
    rw [BitVec.toNat_add, h]
    cases x <;> simp [f]
  unfold State.fieldSpec
  simp only [field, BitVec.extractLsb'_toNat, hf, Nat.shiftRight_eq_div_pow, Prod.mk.injEq]
  omega

/-- The bits of a word shifted left (R7). -/
theorem bit_shiftLeft (v : Word) (n : Nat) {m : Nat} (hm : m < 32) :
    bit (v <<< n) m = (decide (m + n < 32) && bit v (m + n)) := by
  unfold bit
  rw [BitVec.getLsbD_shiftLeft]
  by_cases h : m + n < 32
  · have e : 32 - m - 1 - n = 32 - (m + n) - 1 := by omega
    have h1 : 32 - m - 1 < 32 := by omega
    have h2 : ¬ 32 - m - 1 < n := by omega
    simp [e, h, h1, h2]
  · have h2 : 32 - m - 1 < n := by omega
    simp [h, h2]

/-- The bits of a word shifted right (R7). -/
theorem bit_shiftRight (v : Word) (n : Nat) {m : Nat} (hm : m < 32) :
    bit (v >>> n) m = (decide (n ≤ m) && bit v (m - n)) := by
  unfold bit
  rw [BitVec.getLsbD_ushiftRight]
  by_cases h : n ≤ m
  · have e : n + (32 - m - 1) = 32 - (m - n) - 1 := by omega
    simp [e, h]
  · simp only [h, decide_false, Bool.false_and]
    exact BitVec.getLsbD_of_ge v _ (by omega)

/-- The bits of a word shifted right with its sign (R7). -/
theorem bit_sshiftRight (v : Word) (n : Nat) {m : Nat} (hm : m < 32) :
    bit (v.sshiftRight n) m = if n ≤ m then bit v (m - n) else bit v 0 := by
  unfold bit
  rw [BitVec.getLsbD_sshiftRight]
  have h1 : ¬ 32 ≤ 32 - m - 1 := by omega
  by_cases h : n ≤ m
  · have e : n + (32 - m - 1) = 32 - (m - n) - 1 := by omega
    have h2 : 32 - (m - n) - 1 < 32 := by omega
    simp [e, h, h1, h2]
  · have h2 : ¬ n + (32 - m - 1) < 32 := by omega
    simp [h, h1, h2, BitVec.msb_eq_getLsbD_last]

/-- The field that EXF extracts, bit by bit (R300). -/
theorem bit_extractField (a : Word) {K J m : Nat} (e : Bool) (hm : m < 32) :
    let src := fun m : Nat => decide (m < 32) && bit a m
    bit (extractField a K J e) m = if m < K then e && src J else src (J + (m - K)) := by
  intro src
  unfold extractField shiftLeft
  cases e
  · simp only [Bool.false_eq_true, if_false, bit_shiftRight _ _ hm, Bool.false_and]
    by_cases h : m < K
    · simp [h, Nat.not_le.2 h]
    · rw [if_neg h, bit_shiftLeft a J (by omega), Nat.add_comm (m - K)]
      simp [src, Nat.not_lt.1 h]
  · simp only [if_true, bit_sshiftRight _ _ hm, Bool.true_and]
    by_cases h : m < K
    · rw [if_neg (by omega), if_pos h, bit_shiftLeft a J (by omega), Nat.zero_add]
    · rw [if_pos (by omega), if_neg h, bit_shiftLeft a J (by omega), Nat.add_comm (m - K)]

theorem bit_or {w : Nat} (u v : BitVec w) (m : Nat) : bit (u ||| v) m = (bit u m || bit v m) := BitVec.getLsbD_or

theorem bit_and {w : Nat} (u v : BitVec w) (m : Nat) : bit (u &&& v) m = (bit u m && bit v m) := BitVec.getLsbD_and

theorem bit_not {w : Nat} (v : BitVec w) {m : Nat} (hm : m < w) : bit (~~~ v) m = !bit v m := by
  unfold bit
  rw [BitVec.getLsbD_not]
  simp [show w - m - 1 < w by omega]

theorem bit_allOnes {m : Nat} (hm : m < 32) : bit (0xFFFFFFFF#32) m = true := by
  interval_cases m <;> rfl

/-- The word that DPF deposits, bit by bit (R301). -/
theorem bit_depositField (t a : Word) {K J m : Nat} (hK : K < 32) (hm : m < 32) :
    bit (depositField t a K J) m = if J ≤ m ∧ m < J + (32 - K) then bit a (m - J + K) else bit t m := by
  have hmask : bit (((0xFFFFFFFF#32 <<< K) : Word) >>> J) m = decide (J ≤ m ∧ m < J + (32 - K)) := by
    rw [bit_shiftRight _ _ hm, bit_shiftLeft _ _ (by omega)]
    by_cases h : m - J + K < 32
    · rw [bit_allOnes h]
      grind
    · grind
  have hsrc : bit ((a <<< K) >>> J) m = (decide (J ≤ m) && (decide (m - J + K < 32) && bit a (m - J + K))) := by
    rw [bit_shiftRight _ _ hm, bit_shiftLeft _ _ (by omega)]
  unfold depositField
  simp only [bit_or, bit_and, bit_not _ hm, hmask, hsrc]
  by_cases h : J ≤ m ∧ m < J + (32 - K)
  · have h1 : m - J + K < 32 := by omega
    simp [h, h1]
  · simp [h]

end

/-! ## Counts -/

theorem countOnes_low (v : Word) (n : Nat) : countOnes v n = (List.range n).countP fun k => v.getLsbD k := by
  induction n with
  | zero => rfl
  | succ n ih =>
    rw [countOnes, ih, List.range_succ, List.countP_append, List.countP_singleton]
    cases v.getLsbD n <;> rfl

/-- The ones of a word, counted from either end (R585). -/
theorem countOnes_eq (v : Word) : countOnes v 32 = (List.range 32).countP fun k => bit v k := by
  have hr : (List.range 32).reverse = (List.range 32).map (32 - · - 1) := by decide
  rw [countOnes_low, ← List.countP_reverse, hr, List.countP_map]
  rfl

/-- The zeros above the leftmost one of the n low bits, from the place of that one (R586). -/
theorem leadingZeros_low {v : Word} {n k : Nat} (hk : k ≤ n) (h0 : ∀ j < k, v.getLsbD (n - j - 1) = false)
    (h1 : k < n → v.getLsbD (n - k - 1) = true) : leadingZeros v n = k := by
  induction n generalizing k with
  | zero => exact (Nat.le_zero.1 hk).symm
  | succ n ih =>
    cases k with
    | zero => exact if_pos (h1 (by omega))
    | succ k =>
      have hn : v.getLsbD n = false := h0 0 (by omega)
      rw [leadingZeros, hn, if_neg Bool.false_ne_true, ih (k := k) (by omega), Nat.add_comm]
      · intro j hj
        have e : n - j - 1 = n + 1 - (j + 1) - 1 := by omega
        exact e ▸ h0 (j + 1) (by omega)
      · intro hlt
        have e : n - k - 1 = n + 1 - (k + 1) - 1 := by omega
        exact e ▸ h1 (by omega)

section
variable {s : State} {b3 : Bool}

/-- CNTO and FLMO, whose number replaces the top word or is pushed (R585, R586). -/
theorem count_onStack {i : Instr} {f : Word → Nat} {n : Nat} (hn : f (s.top 0) = n)
    (h : RunsBody i s (peek 0 >>= fun a => replaceOrPush b3 (BitVec.ofNat 32 (f a)))) :
    OnStack i s 1 1 0 (if b3 then s.pushed (BitVec.ofNat 32 n) else s.putTop 0 (BitVec.ofNat 32 n)) := by
  subst hn
  refine RunsOnStack.onStack (m := peek 0 >>= fun a => replaceOrPush b3 (BitVec.ofNat 32 (f a)))
    (.peek (by omega) (.keeping fun hs => ?_)) (done_plain _) h
  cases b3
  · exact M.bind_ok (poke_below hs (by omega))
  · exact M.bind_ok (push_room hs)

end

/-! ## EXF and DPF on the stack -/

section
variable {s : State} {x : Bool} {k j : BitVec 5}

/-- The body of EXF, from K and J (R300). -/
def extractTop (e : Bool) (K J : Nat) : M End := peek 0 >>= fun v => answer (extractField v K J e)

theorem exf_onStack {e : Bool} {r : Word} {K J : Nat} (hf : s.fieldSpec x k j = (K, J))
    (hr : extractField (s.top 0) K J e = r) : OnStack (.exf e x k j) s 1 0 0 ((s.putTop 0 r).setCC (ccWord r)) := by
  have h : RunsBody (.exf e x k j) s (extractTop e (s.fieldSpec x k j).1 (s.fieldSpec x k j).2) :=
    .of_get (fun s => extractTop e (s.fieldSpec x k j).1 (s.fieldSpec x k j).2) ⟨rfl, nofun⟩
  rw [hf] at h
  exact RunsOnStack.onStack (m := extractTop e K J) (.peek (by omega) (hr ▸ answer_runs)) (done_plain _) h

/-- The body of DPF, from K and J (R301). -/
def depositTop (K J : Nat) : M End :=
  peek 0 >>= fun src => peek 1 >>= fun t => checkPop 1 >>= fun _ => poke 1 (depositField t src K J) >>= fun _ =>
    dropWords 1 >>= fun _ => putCC (ccWord (depositField t src K J)) >>= fun _ => pure done

theorem dpf_onStack {r : Word} {K J : Nat} (hf : s.fieldSpec x k j = (K, J))
    (hr : depositField (s.top 1) (s.top 0) K J = r) :
    OnStack (.dpf x k j) s 2 0 1 (((s.putTop 1 r).popped 1).setCC (ccWord r)) := by
  have h : RunsBody (.dpf x k j) s (depositTop (s.fieldSpec x k j).1 (s.fieldSpec x k j).2) :=
    .of_get (fun s => depositTop (s.fieldSpec x k j).1 (s.fieldSpec x k j).2) ⟨rfl, nofun⟩
  rw [hf] at h
  refine RunsOnStack.onStack (m := depositTop K J)
    (.peek (by omega) (.peek (by omega) (.checkPop (by omega) fun hs => ?_))) (done_plain _) h
  rw [hr]
  exact M.bind_ok (poke_below hs (by omega))

end

/-- Settles O10: the shifts, the fields bit by bit, and the counts. -/
theorem shiftFieldAndBitCountResults : Obligations.ShiftFieldAndBitCountResults := by
  refine ⟨fun s x cnt => ?_, fun s e x k j => ?_, fun s b3 => ?_⟩
  · intro a n one full
    have hn : s.shiftCount x cnt = n := s.shiftCount_eq
    exact ⟨asl_settingO hn, shift_onStack (f := fun n v => shiftArith v n) hn (shiftArith_eq a n) asr_runs,
      shift_onStack (f := fun n v => shiftLeft v n) hn (shiftLeft_eq a n) lsl_runs,
      shift_onStack (f := fun n v => v >>> n) hn (shiftRight_eq a n) lsr_runs,
      shift_onStack (f := fun n v => v.rotateLeft (n % 32)) hn rfl csl_runs,
      shift_onStack (f := fun n v => v.rotateRight (n % 32)) hn rfl csr_runs, lsxl_onStack hn (shiftLeft_eq s.X n)⟩
  · intro f K J a b src
    have hf : s.fieldSpec x k j = (K, J) := s.fieldSpec_eq
    have hK : K < 32 := by omega
    refine ⟨fun r hr => exf_onStack hf (eq_of_bits fun m hm => ?_),
      fun r hr => dpf_onStack hf (eq_of_bits fun m hm => ?_)⟩
    · exact (bit_extractField a e hm).trans (hr m hm).symm
    · exact (bit_depositField b a hK hm).trans (hr m hm).symm
  · intro a put
    exact ⟨count_onStack (f := fun v => countOnes v 32) (countOnes_eq a) ⟨rfl, nofun⟩, fun k hk h0 h1 =>
      count_onStack (f := fun v => leadingZeros v 32) (leadingZeros_low hk h0 h1) ⟨rfl, nofun⟩⟩

end Sys2Proof.Machine

/-! The instructions with an operand in memory that they compare or change. -/

namespace Sys2Proof.Machine

/-! ## Traced ends -/

/-- The tests at the end of an instruction that has set O with T = 1 and whose trace event TV wants (R620). -/
theorem endTests_tracedUser {t : State} {e : End} {pointer count p : Word} (ho : e.own = none)
    (ht : e.trace = some (pointer, count)) (hp : e.user = some p) (hv : t.tv = true) (hO : t.overflow = true)
    (hT : t.trapEnable = true) (hi : (t.setO false).interruptPending = false) :
    endTests e t = (do
      trapEntry .variableTrace (some pointer) t.P (some count)
      let w ← get
      trapEntry .user (some p) w.P
      postEntryTests postEntryFuel false : M Unit) (t.setO false) := by
  have hi' : t.interruptPending = false := by
    unfold State.interruptPending at hi ⊢
    rw [State.interruptEnable_setO] at hi
    exact hi
  obtain ⟨h3, h4⟩ := interruptPending_false hi'
  unfold endTests entryItems
  simp only [M.bind_assoc_apply, M.get_bind, h3, h4, ht, hv, hO, hT, ho, hp, Option.isSome_some, Bool.and_self,
    if_true, M.modify_bind, Bool.false_eq_true, if_false]
  refine congrFun (congrArg (trapEntry .variableTrace (some pointer) t.P (some count) >>= ·)
    (funext fun _ => funext fun u => ?_)) (t.setO false)
  simp only [M.bind_assoc_apply, M.get_bind, M.pure_bind_apply]
  rfl

section
variable {i : Instr} {m : M End} {s u : State} {pointer count : Word} {w : Option Word}

theorem endTests_tracedOnly {t : State} (hv : t.tv = true) (ho : (t.overflow && t.trapEnable) = false) :
    endTests { trace := some (pointer, count), user := w } t = endTests { trace := some (pointer, count) } t := by
  unfold endTests entryItems
  simp only [M.bind_assoc_apply, M.get_bind, hv, ho, Option.isSome_some, Bool.and_self, Bool.false_eq_true, if_false]

/-- The end of an instruction that has modified memory and may have set O (R320, R632). -/
def tracedEnd (pointer count : Word) (w : Option Word) : End := { trace := some (pointer, count), user := w }

/-- An instruction that goes on to the next one ends in its tests (R168, R620). -/
theorem RunsBody.ends {e : End} (h : RunsBody i s m) (hm : m s = .ok (e, u)) (hs : e.stay = false)
    (hj : e.jump = none) : exec i s = conclude s (endTests e) (u.advanced i) := by
  have hd : decide (i = .dup) = false := decide_eq_false h.notDup
  have hf : finish i.ilen (decide (i = .dup)) e u = endTests e (u.advanced i) := by
    unfold finish
    simp only [M.modify_bind, hs, hj, Bool.false_eq_true, if_false]
    rfl
  rw [h.body, runBody_ok (atomic_ok hm), ← hd]
  exact conclude_congr hf

theorem RunsBody.completesTraced (h : RunsBody i s m) (hm : m s = .ok (tracedEnd pointer count w, u)) :
    CompletesTraced i s u pointer count := by
  refine ⟨fun hv => h.completes hm ⟨rfl, rfl, rfl, by simp [hv]⟩, fun hv ho hi => ?_⟩
  rw [h.ends hm rfl rfl]
  unfold tracedEnd
  rw [conclude_congr (endTests_tracedOnly (t := u.advanced i) hv ho)]
  exact conclude_congr (endTests_traced hv ho hi)

theorem RunsBody.tracedUser {p : Word} (h : RunsBody i s m) (hm : m s = .ok (tracedEnd pointer count (some p), u))
    (hO : u.overflow = true) : EndsInTracedUserTrap i s u pointer count p := by
  refine ⟨fun hv => h.user hm ⟨rfl, rfl, rfl, by simp [hv]⟩ rfl hO, fun hv hT hi => ?_⟩
  rw [h.ends hm rfl rfl]
  exact conclude_congr (endTests_tracedUser rfl rfl rfl hv hO hT hi)

end

section
variable {s t : State} {e : Effective} {i x : Bool} {b : Base} {off : BitVec 19} {j : Instr} {k : Int}

/-! ## CMPM -/

/-- CMPM once its operand is read (R342). -/
def compareWith (v : Word) : M End := peek 0 >>= fun a => compareAnd a.toInt v.toInt 1

theorem cmpm_runs : RunsBody (.cmpm i x b off) s
    (effective b off.toNat i x false 0 >>= fun e => readWord e.addr >>= compareWith) := ⟨rfl, nofun⟩

theorem cmpm_apply (he : effective b off.toNat i x false 0 s = .ok (e, t)) (hw : t.hasWord e.addr = true) :
    (effective b off.toNat i x false 0 >>= fun e => readWord e.addr >>= compareWith) s =
      compareWith (t.word e.addr) t := by
  rw [M.bind_ok he, M.bind_ok (readWord_present hw)]

theorem compareWith_runs {v : Word} : RunsOnStack (compareWith v) t 1 0 1 done
    ((t.popped 1).setCC (ccCompare (t.top 0).toInt v.toInt)) :=
  .peek (by omega) (compareAnd_runs (by omega))

theorem cmpm_underflows (he : effective b off.toNat i x false 0 s = .ok (e, t)) (h : t.hasStack 1 0 = true)
    (hc : t.canPop 1 = false) (hw : t.hasWord e.addr = true) :
    TrapsFrom (.cmpm i x b off) s t .stackUnderflow none := by
  have hp : ¬ t.popsOk 1 = true := by simp [State.popsOk, hc]
  exact cmpm_runs.trapsFrom ((cmpm_apply he hw).trans ((if_neg hp).mp (compareWith_runs h)))

theorem cmpm_completes (he : effective b off.toNat i x false 0 s = .ok (e, t)) (h : t.hasStack 1 0 = true)
    (hc : t.canPop 1 = true) (hw : t.hasWord e.addr = true) :
    CompletesAs (.cmpm i x b off) s ((t.popped 1).setCC (ccCompare (t.top 0).toInt (t.word e.addr).toInt)) := by
  have hp : t.popsOk 1 = true := by simp [State.popsOk, hc]
  exact cmpm_runs.completes ((cmpm_apply he hw).trans ((if_pos hp).mp (compareWith_runs h))) (done_plain _)

/-! ## The instructions that change their operand -/

/-- What the instructions that change their operand have in common: the base is tested, E evaluated and the operand
read (R230). -/
def changeAt (b : Base) (off : BitVec 19) (i x : Bool) (f : Effective → Word → M End) : M End :=
  requireDataBase b >>= fun _ => effective b off.toNat i x true 0 >>= fun e => readWord e.addr >>= f e

section
variable {f : Effective → Word → M End}

theorem changeAt_violates (h : RunsBody j s (changeAt b off i x f)) (hb : baseIsCode b = true) :
    Raises j s .codeSegmentViolation none :=
  h.raises (M.bind_error (by rw [requireDataBase, hb]; rfl))

theorem changeAt_passes (h : RunsBody j s (changeAt b off i x f)) (hb : baseIsCode b = false) :
    PassesTrapsOf j s (effective b off.toNat i x true 0) :=
  h.passes (requireDataBase_bind hb _)

theorem changeAt_apply (hb : baseIsCode b = false) (he : effective b off.toNat i x true 0 s = .ok (e, t))
    (hw : t.hasWord e.addr = true) : changeAt b off i x f s = f e (t.word e.addr) t :=
  (requireDataBase_bind hb _).trans (by rw [M.bind_ok he, M.bind_ok (readWord_present hw)])

end

/-- The sum stored at the operand's place, with O and CC (R343 to R346). -/
def addAt (k : Int) (e : Effective) (v : Word) : M End :=
  let r := v.toInt + k
  writeWord e.addr (wordOf r) >>= fun _ => overflowIf (overflows32 r) 0 1 >>= fun u =>
    putCC (ccWord (wordOf r)) >>= fun _ => pure { u with trace := some (e.pointer, 4#32) }

theorem addAt_ok {v : Word} (hw : t.hasWord e.addr = true) :
    let r := v.toInt + k
    addAt k e v t = .ok (tracedEnd e.pointer 4#32 (overflowEnd (inexactWord r) 0 1).user,
      ((t.putWord e.addr (wordOf r)).noteOverflow (inexactWord r)).setCC (ccWord (wordOf r))) := by
  intro r
  unfold addAt
  rw [M.bind_ok (writeWord_present hw), M.bind_ok (overflowIf_apply ..), overflows32_eq]
  cases inexactWord (v.toInt + k) <;> rfl

/-- INCM, DECM, INCF and DECF, by the number they add (R343 to R346). -/
theorem add_ends (h : RunsBody j s (changeAt b off i x (addAt k))) (hb : baseIsCode b = false)
    (he : effective b off.toNat i x true 0 s = .ok (e, t)) (hw : t.hasWord e.addr = true) :
    let r := (t.word e.addr).toInt + k
    let u := ((t.putWord e.addr (wordOf r)).noteOverflow (inexactWord r)).setCC (ccWord (wordOf r))
    CompletesTraced j s u e.pointer 4#32 ∧
      (inexactWord r = true → EndsInTracedUserTrap j s u e.pointer 4#32 0x01#32) := by
  intro r u
  have hm : changeAt b off i x (addAt k) s = .ok (tracedEnd e.pointer 4#32 (overflowEnd (inexactWord r) 0 1).user, u) :=
    (changeAt_apply hb he hw).trans (addAt_ok hw)
  refine ⟨h.completesTraced hm, fun hr => ?_⟩
  have hp : (overflowEnd (inexactWord r) 0 1).user = some 0x01#32 := by rw [overflowEnd, if_pos hr]; rfl
  rw [hp] at hm
  refine h.tracedUser hm ?_
  rw [State.overflow_setCC, State.noteOverflow, if_pos hr]
  exact State.overflow_setO _ true

/-- SEML once its operand is read (R558). -/
def setAllOnes (e : Effective) (v : Word) : M End :=
  writeWord e.addr 0xFFFFFFFF#32 >>= fun _ => push v >>= fun _ => putCC (ccWord v) >>= fun _ =>
    pure (tracedEnd e.pointer 4#32 none)

theorem setAllOnes_ok {v : Word} (hw : t.hasWord e.addr = true) (hs : t.hasStack 0 1 = true) :
    setAllOnes e v t = .ok (tracedEnd e.pointer 4#32 none,
      ((t.putWord e.addr 0xFFFFFFFF#32).pushed v).setCC (ccWord v)) := by
  have hs' : (t.putWord e.addr 0xFFFFFFFF#32).hasStack 0 1 = true := hs
  unfold setAllOnes
  rw [M.bind_ok (writeWord_present hw), M.bind_ok (push_room hs'), putCC_bind, M.pure_apply]

theorem incm_runs : RunsBody (.incm i x b off) s (changeAt b off i x (addAt 1)) := ⟨rfl, nofun⟩

theorem decm_runs : RunsBody (.decm i x b off) s (changeAt b off i x (addAt (-1))) := ⟨rfl, nofun⟩

theorem incf_runs : RunsBody (.incf i x b off) s (changeAt b off i x (addAt 4)) := ⟨rfl, nofun⟩

theorem decf_runs : RunsBody (.decf i x b off) s (changeAt b off i x (addAt (-4))) := ⟨rfl, nofun⟩

theorem seml_runs : RunsBody (.seml i x b off) s (changeAt b off i x setAllOnes) := ⟨rfl, nofun⟩

theorem change_runs (hj : j ∈ [Instr.incm i x b off, .decm i x b off, .incf i x b off, .decf i x b off,
    .seml i x b off]) : ∃ f, RunsBody j s (changeAt b off i x f) := by
  simp only [List.mem_cons, List.not_mem_nil, or_false] at hj
  obtain rfl | rfl | rfl | rfl | rfl := hj
  exacts [⟨_, incm_runs⟩, ⟨_, decm_runs⟩, ⟨_, incf_runs⟩, ⟨_, decf_runs⟩, ⟨_, seml_runs⟩]

end

/-- Settles O17: CMPM, then what the others have in common, then each of them. -/
theorem memoryOperandInstructions : Obligations.MemoryOperandInstructions := by
  intro s t e i x b off v sum adds reads writes
  refine ⟨cmpm_runs.passes rfl, cmpm_underflows, cmpm_completes, fun hb j hj => ?_, fun hb j hj => ?_,
    fun hb he hw => ⟨add_ends incm_runs hb he hw, add_ends decm_runs hb he hw, add_ends incf_runs hb he hw,
      add_ends decf_runs hb he hw,
      fun hs => seml_runs.completesTraced ((changeAt_apply hb he hw).trans (setAllOnes_ok hw hs))⟩⟩
  · obtain ⟨_, h⟩ := change_runs hj
    exact changeAt_violates h hb
  · obtain ⟨_, h⟩ := change_runs hj
    exact changeAt_passes h hb

end Sys2Proof.Machine

/-! TRY and ESCP. -/

namespace Sys2Proof.Machine

variable {s t u : State} {i : Instr}

/-! ## TRY -/

/-- What the set-up form of TRY leaves (R587). -/
def State.pseudoMarked (s : State) : State :=
  let top := s.S + 12#32
  { ((((s.putWord s.S (s.word (s.SB + 8#32))).putWord (top - 8#32) (s.top 0)).putWord (top - 4#32) s.STATUS).putWord top
      (top - s.Q)).putWord (s.SB + 8#32) (top - s.SB) with S := top }

/-- The place of the latest pseudo marker (R587, R588). -/
def State.pseudoMarker (s : State) : Word := s.SB + s.word (s.SB + 8#32)

/-- A write where the memory of an earlier state has the word. -/
theorem writeWord_bind_of {α : Type} {a v : Word} {f : Unit → M α} (h : s.hasWord a = true) (hc : t.cfg = s.cfg) :
    (writeWord a v >>= f) t = f () (t.putWord a v) :=
  M.bind_ok (writeWord_present ((State.hasWord_congr hc a).trans h))

theorem trySetUp_ok (h : s.hasStack 1 3 = true) (hl : s.hasWord (s.SB + 8#32) = true) :
    trySetUp s = .ok ((), s.pseudoMarked) := by
  have hlim : s.S.toNat + 12 < addressSpace := State.hasStack_limit h (by omega)
  have htop : absAddress (s.S.toNat + 12) s = .ok (s.S + 12#32, s) := absAddress_add hlim
  have h0 : s.hasWord (s.S - BitVec.ofNat 32 (4 * 0)) = true := State.hasStack_below h (by omega)
  have e0 : s.S - BitVec.ofNat 32 (4 * 0) = s.S := BitVec.sub_zero _
  have e12 : s.S + 12#32 - 12#32 = s.S := BitVec.add_sub_cancel ..
  have e8 : s.S + 12#32 - 8#32 = s.S + BitVec.ofNat 32 (4 * 1) := by bv_omega
  have e4 : s.S + 12#32 - 4#32 = s.S + BitVec.ofNat 32 (4 * 2) := by bv_omega
  have h1 : s.hasWord (s.S + 12#32 - 12#32) = true := by rwa [e12, ← e0]
  have h2 : s.hasWord (s.S + 12#32 - 8#32) = true := e8 ▸ State.hasStack_above h 1 (by omega) (by omega)
  have h3 : s.hasWord (s.S + 12#32 - 4#32) = true := e4 ▸ State.hasStack_above h 2 (by omega) (by omega)
  have h4 : s.hasWord (s.S + 12#32) = true := State.hasStack_above h 3 (by omega) (by omega)
  unfold trySetUp
  rw [M.get_bind, M.bind_ok (peek_present h0), M.bind_ok (readWord_present hl), M.bind_ok htop, writeWord_bind_of h1,
    writeWord_bind_of h2, writeWord_bind_of h3, writeWord_bind_of h4, writeWord_bind_of hl, e12]
  · rfl
  all_goals simp only [State.putWord_cfg]

theorem tryRemove_ok (hl : s.hasWord (s.SB + 8#32) = true) (hf : s.hasWord (s.SB + 16#32) = true)
    (hin : s.Q.toNat + 16 ≤ s.pseudoMarker.toNat ∧ s.pseudoMarker.toNat ≤ s.S.toNat)
    (hm : s.hasWord (s.pseudoMarker - 12#32) = true) :
    tryRemove s = .ok ((), ({ s.putWord (s.SB + 8#32) (s.word (s.pseudoMarker - 12#32)) with
      S := s.pseudoMarker - 16#32 } : State).putWord (s.SB + 16#32) 0#32) := by
  unfold tryRemove
  rw [M.get_bind, M.bind_ok (readWord_present hl), require_bind, if_pos (by simpa [State.pseudoMarker] using hin)]
  exact (M.bind_ok (readWord_present hm)).trans ((M.bind_ok (writeWord_present hl)).trans
    ((M.modify_bind ..).trans (writeWord_present hf)))

theorem tryRemove_violates (hl : s.hasWord (s.SB + 8#32) = true)
    (hout : ¬ (s.Q.toNat + 16 ≤ s.pseudoMarker.toNat ∧ s.pseudoMarker.toNat ≤ s.S.toNat)) :
    tryRemove s = .error (.trap .boundsViolation none s) := by
  unfold tryRemove
  rw [M.get_bind, M.bind_ok (readWord_present hl), require_bind, if_neg (by simpa [State.pseudoMarker] using hout)]

theorem setUp_runs : RunsBody (.tryMark true) s (trySetUp >>= fun _ => pure done) := ⟨rfl, nofun⟩

theorem remove_runs : RunsBody (.tryMark false) s (tryRemove >>= fun _ => pure done) := ⟨rfl, nofun⟩

/-! ## The escape -/

/-- The state with the escape code, when there is one, and the flag at SB+16 (R588). -/
def State.escaping (s : State) : Option Word → State
  | some c => (s.putWord (s.SB + 12#32) c).putWord (s.SB + 16#32) 0xFFFFFFFF#32
  | none => s.putWord (s.SB + 16#32) 0xFFFFFFFF#32

/-- The state from which ESCP exits: the latest pseudo marker of s is unlinked in t, and Q is at it (R588). -/
def State.unlinked (s t : State) : State :=
  { t.putWord (s.SB + 8#32) (t.word (s.pseudoMarker - 12#32)) with Q := s.pseudoMarker }

section
variable {code : Option Word} {nS : Word}

theorem escape_violates (hl : s.hasWord (s.SB + 8#32) = true)
    (hout : s.pseudoMarker.toNat < s.SB.toNat + 48 ∨ nS.toNat < s.pseudoMarker.toNat) :
    escape code nS s = .error (.trap .boundsViolation none s) := by
  have hn : ¬ (s.SB.toNat + 48 ≤ s.pseudoMarker.toNat ∧ s.pseudoMarker.toNat ≤ nS.toNat) := by omega
  unfold escape
  rw [M.get_bind, M.bind_ok (readWord_present hl), require_bind, if_neg (by simpa [State.pseudoMarker] using hn)]

theorem escape_apply (hl : s.hasWord (s.SB + 8#32) = true) (hc : s.hasWord (s.SB + 12#32) = true)
    (hf : s.hasWord (s.SB + 16#32) = true)
    (hin : s.SB.toNat + 48 ≤ s.pseudoMarker.toNat ∧ s.pseudoMarker.toNat ≤ nS.toNat)
    (hm : s.hasWord (s.pseudoMarker - 12#32) = true) :
    escape code nS s = exitCore 0 (!s.privileged) (s.unlinked (s.escaping code)) := by
  unfold escape
  rw [M.get_bind, M.bind_ok (readWord_present hl), require_bind, if_pos (by simpa [State.pseudoMarker] using hin)]
  have hm' : (s.escaping code).hasWord (s.pseudoMarker - 12#32) = true := by cases code <;> exact hm
  have hl' : (s.escaping code).hasWord (s.SB + 8#32) = true := by cases code <;> exact hl
  have hend : (readWord (s.pseudoMarker - 12#32) >>= fun prev => writeWord (s.SB + 8#32) prev >>= fun _ =>
      (modify fun s' => { s' with Q := s.pseudoMarker } : M PUnit) >>= fun _ => exitCore 0 (!s.privileged))
        (s.escaping code) = exitCore 0 (!s.privileged) (s.unlinked (s.escaping code)) := by
    rw [M.bind_ok (readWord_present hm'), M.bind_ok (writeWord_present hl'), M.modify_bind]
    rfl
  cases code with
  | none => exact (M.bind_ok (writeWord_present hf)).trans hend
  | some c =>
    exact (M.bind_ok (writeWord_present hc)).trans ((writeWord_bind_of (t := s.putWord _ c) hf rfl).trans hend)

/-! ## ESCP -/

/-- The form of ESCP that raises (R588). -/
def raiseEscape (s : State) : M End :=
  peek 0 >>= fun c => checkPop 1 >>= fun _ => undoing (escape (some c) (s.S - 4#32))

/-- The form of ESCP that passes an escape on (R588). -/
def passEscape (s : State) : M End :=
  readWord (s.SB + 16#32) >>= fun w => if w = 0#32 then pure done else undoing (escape none s.S)

theorem raise_runs (hr : s.cfg.rev = .le33 → s.prevDup = true) : RunsBody (.escp false) s (raiseEscape s) := by
  have h : RunsBody (.escp false) s
      (insist (s.cfg.rev != .le33 || false || s.prevDup) .revisionBug >>= fun _ => raiseEscape s) :=
    .of_get (fun s => insist (s.cfg.rev != .le33 || false || s.prevDup) .revisionBug >>= fun _ => raiseEscape s)
      ⟨rfl, nofun⟩
  refine h.congr ((insist_bind ..).trans (if_pos ?_))
  simp only [Bool.or_false, Bool.or_eq_true, bne_iff_ne]
  exact or_iff_not_imp_left.2 fun hn => hr (not_not.1 hn)

theorem pass_runs : RunsBody (.escp true) s (passEscape s) := by
  have h : RunsBody (.escp true) s
      (insist (s.cfg.rev != .le33 || true || s.prevDup) .revisionBug >>= fun _ => passEscape s) :=
    .of_get (fun s => insist (s.cfg.rev != .le33 || true || s.prevDup) .revisionBug >>= fun _ => passEscape s)
      ⟨rfl, nofun⟩
  exact h.congr ((insist_bind ..).trans (if_pos (by simp)))

theorem raiseEscape_underflows (h : s.hasStack 1 3 = true) (hp : s.canPop 1 = false) :
    raiseEscape s s = .error (.trap .stackUnderflow none s) := by
  unfold raiseEscape
  rw [M.bind_ok (peek_present (State.hasStack_below h (by omega))), M.bind_error (checkPop_cannot hp)]

theorem raiseEscape_apply (h : s.hasStack 1 3 = true) (hp : s.canPop 1 = true) :
    raiseEscape s s = undoing (escape (some (s.top 0)) (s.S - 4#32)) s := by
  unfold raiseEscape
  rw [M.bind_ok (peek_present (State.hasStack_below h (by omega))), M.bind_ok (checkPop_can hp)]

theorem passEscape_idle (hf : s.hasWord (s.SB + 16#32) = true) (h0 : s.word (s.SB + 16#32) = 0#32) :
    passEscape s s = .ok (done, s) := by
  unfold passEscape
  rw [M.bind_ok (readWord_present hf), if_pos h0, M.pure_apply]

theorem passEscape_apply (hf : s.hasWord (s.SB + 16#32) = true) (h0 : s.word (s.SB + 16#32) ≠ 0#32) :
    passEscape s s = undoing (escape none s.S) s := by
  unfold passEscape
  rw [M.bind_ok (readWord_present hf), if_neg h0]

/-- The exit of ESCP goes to its target, or ends in its trap with the memory of the start (R588, R603). -/
theorem escape_exits {m : M End} (h : RunsBody i s m) (hm : m s = undoing (escape code nS) s)
    (he : escape code nS s = exitCore 0 (!s.privileged) t) :
    (∀ e u a, exitCore 0 (!s.privileged) t = .ok (e, u) → e = { jump := some a } → JumpsAs i s u a) ∧
    (∀ tr q u, exitCore 0 (!s.privileged) t = .error (.trap tr q u) →
      exec i s = conclude s (takeTrap tr q) { s with MSG := u.MSG, freeCtr := u.freeCtr }) := by
  rw [← he]
  constructor
  · rintro e u a hx rfl
    exact jumps_of_body h.body (atomic_ok (hm.trans (undoing_ok hx))) rfl rfl rfl (by simp)
  · intro tr q u hx
    exact h.trapsFrom (hm.trans (undoing_trap hx))

theorem escape_raises {m : M End} (h : RunsBody i s m) (hm : m s = undoing (escape code nS) s)
    (hl : s.hasWord (s.SB + 8#32) = true)
    (hout : s.pseudoMarker.toNat < s.SB.toNat + 48 ∨ nS.toNat < s.pseudoMarker.toNat) :
    Raises i s .boundsViolation none :=
  h.raises (hm.trans (undoing_trap (escape_violates hl hout)))

end

/-- Settles O42: TRY, then the two forms of ESCP through the escape they share. -/
theorem tryAndEscape : Obligations.TryAndEscape := by
  intro s top link m marked removed raised passed out exits fails supported hs hl hc hf
  refine ⟨setUp_runs.completes (M.bind_ok (trySetUp_ok hs hl)) (done_plain _), ?_,
    fun hr hp => (raise_runs hr).raises (raiseEscape_underflows hs hp),
    fun hr hp hout => escape_raises (raise_runs hr) (raiseEscape_apply hs hp) hl hout,
    fun hm hr hp h1 h2 => escape_exits (raise_runs hr) (raiseEscape_apply hs hp) (escape_apply hl hc hf ⟨h1, h2⟩ hm),
    fun h0 => pass_runs.completes (passEscape_idle hf h0) (done_plain _),
    fun h0 hout => escape_raises pass_runs (passEscape_apply hf h0) hl hout,
    fun h0 hm h1 h2 => escape_exits pass_runs (passEscape_apply hf h0) (escape_apply hl hc hf ⟨h1, h2⟩ hm)⟩
  split
  next hin => exact fun hm => remove_runs.completes (M.bind_ok (tryRemove_ok hl hf hin hm)) (done_plain _)
  next hout => exact remove_runs.raises (M.bind_error (tryRemove_violates hl hout))

end Sys2Proof.Machine

/-! XGDS. -/

namespace Sys2Proof.Machine

variable {α : Type} {s : State} {n old : BitVec 12} {a w : Word}

theorem RunsBody.refuses {i : Instr} {m : M End} {r : Refusal} (h : RunsBody i s m) (hm : m s = .error (.refuse r)) :
    exec i s = .refused r :=
  h.body.trans (by simp [runBody, atomic, hm])

/-! ## Entries by their numbers -/

/-- The address of a DST entry (R137). -/
def State.dstPlace (s : State) (n : BitVec 12) : Word := s.dstBase n + BitVec.ofNat 32 (16 * (field n 1 11).toNat)

theorem dstAddress_at (h : (s.dstBase n).toNat + 16 * (field n 1 11).toNat < addressSpace) :
    dstAddress n s = .ok (s.dstPlace n, s) := by
  unfold dstAddress
  rw [M.get_bind]
  exact_mod_cast absAddress_add h

/-- The test of a segment number against the table, before f (R111, R137). -/
theorem checkNumber_bind {f : Unit → M α} {len : Word} :
    (checkSegmentNumber (field n 1 11) len >>= f) s =
      if field n 1 11 = 0#11 then .error (.trap .edsPointerViolation none s)
      else if len.toNat < 16 * (field n 1 11).toNat then .error (.trap .dstViolation none s) else f () s := by
  have h0 : (field n 1 11).toNat = 0 ↔ field n 1 11 = 0#11 := by rw [← BitVec.toNat_inj]; rfl
  have hc := checkSegmentNumber_apply (s := s) (field n 1 11) len
  rw [if_congr h0 rfl rfl] at hc
  split
  next hz => exact M.bind_error (hc.trans (if_pos hz))
  next hz =>
    rw [if_neg hz] at hc
    split
    next hl => exact M.bind_error (hc.trans (if_pos hl))
    next hl => exact M.bind_ok (hc.trans (if_neg hl))

theorem dstEntryOf_apply (ht : s.hasWord (s.dstBase n) = true) :
    dstEntryOf n s =
      if field n 1 11 = 0#11 then .error (.trap .edsPointerViolation none s)
      else if (s.word (s.dstBase n)).toNat < 16 * (field n 1 11).toNat then .error (.trap .dstViolation none s)
      else readDstHead n s := by
  unfold dstEntryOf
  rw [M.get_bind, M.bind_ok (readWord_present ht), checkNumber_bind]

/-- A trap while an entry is owned leaves the state as it was before the entry was taken (R133, R140). -/
theorem owning_kept {m : M α} {t : Trap} {p : Option Word} (hw : s.mem.wf = true) (h : s.hasWord a = true)
    (hm : m (s.taken a) = .error (.trap t p (s.taken a))) :
    owning a (s.word a) m (s.taken a) = .error (.trap t p s) := by
  rw [owning_taken hw h hm, State.putWord_self hw h]

/-! ## The tests of XGDS -/

theorem checkGlobal_bind {f : Unit → M α} :
    (checkGlobal n w >>= f) s =
      if bit w 26 = true then .error (.refuse .pagedGlobalSegment)
      else if bit w 27 = false then .error (.trap .dataSegmentWrite none s)
      else if bit w 30 = true ∧ s.privileged = false then .error (.trap .privilegedModeData none s)
      else if bit w 31 = true then .error (.trap .absentDataSegment (some (n.setWidth 32)) s)
      else if useCount w = 4095#12 then .error (.trap .systemError (some 1#32) s) else f () s := by
  unfold checkGlobal
  simp only [M.bind_assoc_apply, M.get_bind, insist_bind, require_bind]
  cases bit w 26
  case true => rfl
  cases bit w 27
  case false => rfl
  cases bit w 30 <;> cases s.privileged
  case true.false => rfl
  all_goals
    cases bit w 31
    case true => rfl
    by_cases hu : useCount w = 4095#12
    · simp [hu]
    · simp [hu]

/-- The test of the old segment's count, when its entry is not that of the new one, at e (R285). -/
def checkOldEntry (old : BitVec 12) (e : Word) : M Unit :=
  dstAddress old >>= fun a =>
    if wordAlign a ≠ wordAlign e then readCount a >>= fun c => require (c ≠ 0) .systemError (some 1#32) else pure ()

theorem checkOldGlobal_bind {f : Unit → M α} {e : DstHead} (ht : s.hasWord (s.dstBase old) = true) :
    (checkOldGlobal old e >>= f) s =
      if field old 1 11 = 0#11 then .error (.trap .edsPointerViolation none s)
      else if (s.word (s.dstBase old)).toNat < 16 * (field old 1 11).toNat then .error (.trap .dstViolation none s)
      else (checkOldEntry old e.addr >>= f) s := by
  unfold checkOldGlobal
  simp only [M.bind_assoc_apply, M.get_bind]
  rw [M.bind_ok (readWord_present ht), M.bind_assoc_apply, checkNumber_bind]
  rfl

theorem checkOldEntry_bind {f : Unit → M α} (hs : s.mem.wf = true)
    (hlim : (s.dstBase old).toNat + 16 * (field old 1 11).toNat < addressSpace) (hw : s.hasWord (s.dstPlace old) = true)
    (hfree : ¬ wordAlign (s.dstPlace old) = wordAlign a → bit (s.word (s.dstPlace old)) 0 = false) :
    (checkOldEntry old a >>= f) s =
      if ¬ wordAlign (s.dstPlace old) = wordAlign a ∧ useCount (s.word (s.dstPlace old)) = 0#12 then
        .error (.trap .systemError (some 1#32) s)
      else f () s := by
  unfold checkOldEntry
  rw [M.bind_assoc_apply, M.bind_ok (dstAddress_at hlim)]
  by_cases hsame : wordAlign (s.dstPlace old) = wordAlign a
  · rw [if_neg (not_not.2 hsame), if_neg fun h => h.1 hsame]
    rfl
  · rw [if_pos hsame, M.bind_assoc_apply, M.bind_ok (readCount_free hs hw (hfree hsame)), require_bind]
    by_cases hu : useCount (s.word (s.dstPlace old)) = 0#12
    · simp [hu, hsame]
    · simp [hu]

/-! ## XGDS -/

/-- The state with other limits of the global data segment (R285). -/
def State.rebased (s : State) (db dl : Word) : State := { s with DB := db, DL := dl }

theorem State.rebased_putWord (s : State) (db dl a v : Word) :
    (s.rebased db dl).putWord a v = (s.putWord a v).rebased db dl := (rfl)

theorem State.rebased_putTop (s : State) (db dl v : Word) (k : Nat) :
    (s.rebased db dl).putTop k v = (s.putTop k v).rebased db dl := (rfl)

/-- What XGDS writes: DB and DL, the new use count up, the task's word, the pointer, and the old use count down
(R285). -/
def exchangeGlobal (p : Word) (n : BitVec 12) (e : DstHead) (task segs dl : Word) : M End :=
  (modify (·.rebased e.loc dl) : M PUnit) >>= fun _ =>
    release e.addr (setField e.w0 1 12 (useCount e.w0 + 1)) >>= fun _ =>
      writeWord task (setField segs 20 12 n) >>= fun _ =>
      poke 0 (setField p 1 12 (field segs 20 12)) >>= fun _ => dstAddress (field segs 20 12) >>= fun a =>
        decUse a >>= fun _ => pure done

/-- XGDS once the task's word is read: the tests of the old segment, then the writes (R285). -/
def leaveOldGlobal (p : Word) (n : BitVec 12) (e : DstHead) (task segs : Word) : M End :=
  e.during (checkOldGlobal (field segs 20 12) e >>= fun _ => absAddress (e.loc.toNat + e.lenM1.toNat)) >>= fun dl =>
    exchangeGlobal p n e task segs dl

/-- XGDS once the new entry is owned (R285): its tests, and the place of the task's word from the control block. -/
def enterNewGlobal (own p : Word) (n : BitVec 12) (e : DstHead) : M End :=
  e.during (checkGlobal n e.w0 >>= fun _ => readWord own >>= fun w => absAddress (w.toNat + 8)) >>= fun task =>
    readWord task >>= fun segs => leaveOldGlobal p n e task segs

theorem xgds_runs : RunsBody .xgds s (peek 0 >>= fun p => dstEntryOf (field p 1 12) >>=
    enterNewGlobal (s.cpuBlock + 4#32) p (field p 1 12)) :=
  .of_get (fun s => peek 0 >>= fun p => dstEntryOf (field p 1 12) >>=
    enterNewGlobal (s.cpuBlock + 4#32) p (field p 1 12)) ⟨rfl, nofun⟩

section
variable {own p task segs v : Word} {tr : Trap} {q : Option Word} {dl : Word}

theorem enterNewGlobal_fails (hw : s.mem.wf = true) (h : s.hasWord a = true)
    (ht : ∀ f : Unit → M Word, (checkGlobal n (s.word a) >>= f) (s.taken a) = .error (.trap tr q (s.taken a))) :
    enterNewGlobal own p n (s.dstHead a) (s.taken a) = .error (.trap tr q s) :=
  M.bind_error (owning_kept hw h (ht _))

theorem enterNewGlobal_refused {r : Refusal}
    (ht : ∀ f : Unit → M Word, (checkGlobal n (s.word a) >>= f) (s.taken a) = .error (.refuse r)) :
    enterNewGlobal own p n (s.dstHead a) (s.taken a) = .error (.refuse r) :=
  M.bind_error (by simp [DstHead.during, owning, State.dstHead, ht])

theorem enterNewGlobal_apply {e : DstHead} (ht : ∀ f : Unit → M Word, (checkGlobal n e.w0 >>= f) s = f () s)
    (ho : s.hasWord own = true) (hl : (s.word own).toNat + 8 < addressSpace)
    (hk : s.hasWord (s.word own + 8#32) = true) :
    enterNewGlobal own p n e s = leaveOldGlobal p n e (s.word own + 8#32) (s.word (s.word own + 8#32)) s := by
  have h8 : absAddress ((s.word own).toNat + 8) s = .ok (s.word own + 8#32, s) := absAddress_add hl
  have hm := ht fun _ => readWord own >>= fun w => absAddress (w.toNat + 8)
  rw [M.bind_ok (readWord_present ho), h8] at hm
  exact (M.bind_ok (owning_ok hm)).trans (M.bind_ok (readWord_present hk))

theorem leaveOldGlobal_fails (hw : s.mem.wf = true) (h : s.hasWord a = true)
    (ht : ∀ f : Unit → M Word, (checkOldGlobal (field segs 20 12) (s.dstHead a) >>= f) (s.taken a) =
      .error (.trap tr q (s.taken a))) :
    leaveOldGlobal p n (s.dstHead a) task segs (s.taken a) = .error (.trap tr q s) :=
  M.bind_error (owning_kept hw h (ht _))

theorem leaveOldGlobal_apply {e : DstHead}
    (ht : ∀ f : Unit → M Word, (checkOldGlobal (field segs 20 12) e >>= f) s = f () s)
    (hl : e.loc.toNat + e.lenM1.toNat < addressSpace) :
    leaveOldGlobal p n e task segs s =
      exchangeGlobal p n e task segs (BitVec.ofNat 32 (e.loc.toNat + e.lenM1.toNat)) s := by
  have hd : absAddress (e.loc.toNat + e.lenM1.toNat) s = .ok (BitVec.ofNat 32 (e.loc.toNat + e.lenM1.toNat), s) := by
    rw [absAddress_add hl, BitVec.ofNat_add, BitVec.ofNat_toNat, BitVec.ofNat_toNat, BitVec.setWidth_eq,
      BitVec.setWidth_eq]
  exact M.bind_ok (owning_ok ((ht _).trans hd))

/-- The words that XGDS stores before the old use count (R285). -/
def State.globalExchanged (s : State) (p : Word) (n : BitVec 12) (a task segs : Word) : State :=
  ((s.putWord a (setField (s.word a) 1 12 (useCount (s.word a) + 1#12))).putWord task (setField segs 20 12 n)).putTop 0
    (setField p 1 12 (field segs 20 12))

theorem State.globalExchanged_cfg : (s.globalExchanged p n a task segs).cfg = s.cfg := by
  simp only [State.globalExchanged, State.putTop_cfg, State.putWord_cfg]

theorem State.globalExchanged_dstBase : (s.globalExchanged p n a task segs).dstBase old = s.dstBase old := by
  simp only [State.globalExchanged, State.dstBase, State.putTop_DST, State.putWord_DST]

theorem State.globalExchanged_dstPlace : (s.globalExchanged p n a task segs).dstPlace old = s.dstPlace old := by
  rw [State.dstPlace, State.dstPlace, State.globalExchanged_dstBase]

/-- The old use count goes down (R285). -/
theorem lowerOldUse_ok (hw : s.mem.wf = true)
    (hlim : (s.dstBase old).toNat + 16 * (field old 1 11).toNat < addressSpace) (ho : s.hasWord (s.dstPlace old) = true)
    (hfree : bit (s.word (s.dstPlace old)) 0 = false) (db : Word) :
    let o := s.dstPlace old
    (dstAddress old >>= fun a => decUse a >>= fun _ => pure done) (s.rebased db dl) =
      .ok (done, (s.putWord o (setField (s.word o) 1 12 (useCount (s.word o) - 1#12))).rebased db dl) := by
  intro o
  have ha : dstAddress old (s.rebased db dl) = .ok (o, s.rebased db dl) := dstAddress_at (s := s.rebased db dl) hlim
  rw [M.bind_ok ha, M.bind_ok (decUse_free (s := s.rebased db dl) hw ho hfree),
    State.rebased_putWord, BitVec.sub_eq_add_neg]
  rfl

/-- The stores of XGDS before the old use count (R285). -/
theorem exchangeGlobal_apply {e : DstHead} (hw : s.mem.wf = true) (h : s.hasWord e.addr = true)
    (he : e.w0 = s.word e.addr) (hk : s.hasWord task = true) (hs : s.hasStack 1 0 = true) :
    let t := s.globalExchanged p n e.addr task segs
    t.mem.wf = true ∧ exchangeGlobal p n e task segs dl (s.taken e.addr) =
      (dstAddress (field segs 20 12) >>= fun a => decUse a >>= fun _ => pure done) (t.rebased e.loc dl) := by
  let u := s.putWord e.addr (setField e.w0 1 12 (useCount e.w0 + 1))
  let v := u.putWord task (setField segs 20 12 n)
  have hku : u.hasWord task = true := hk
  have hv : v.hasStack 1 0 = true :=
    (State.hasStack_congr (by simp only [State.putWord_cfg, v, u]) (by simp only [State.putWord_S, v, u])).trans hs
  intro t
  have ht : t = v.putTop 0 (setField p 1 12 (field segs 20 12)) := by
    simp only [t, u, v, State.globalExchanged, he]
    rfl
  have hwv : v.mem.wf = true := State.wf_putWord (State.wf_putWord hw h) hku
  refine ⟨ht ▸ State.wf_putWord hwv (State.hasStack_top hv), ?_⟩
  unfold exchangeGlobal
  rw [M.modify_bind, M.bind_ok (release_present (s := (s.taken e.addr).rebased e.loc dl) h), State.rebased_putWord,
    State.taken_put hw h, M.bind_ok (writeWord_present (s := u.rebased e.loc dl) hku), State.rebased_putWord,
    M.bind_ok (poke_present (s := v.rebased e.loc dl) (State.hasStack_top hv)), State.rebased_putTop, ← ht]

theorem exchangeGlobal_ok {e : DstHead} (hw : s.mem.wf = true) (h : s.hasWord e.addr = true) (he : e.w0 = s.word e.addr)
    (hk : s.hasWord task = true) (hs : s.hasStack 1 0 = true)
    (hlim : (s.dstBase (field segs 20 12)).toNat + 16 * (field (field segs 20 12) 1 11).toNat < addressSpace)
    (ho : s.hasWord (s.dstPlace (field segs 20 12)) = true) :
    let o := s.dstPlace (field segs 20 12)
    let t := s.globalExchanged p n e.addr task segs
    bit (t.word o) 0 = false →
    exchangeGlobal p n e task segs dl (s.taken e.addr) =
      .ok (done, (t.putWord o (setField (t.word o) 1 12 (useCount (t.word o) - 1#12))).rebased e.loc dl) := by
  intro o t hfree
  obtain ⟨hwt, hrun⟩ := exchangeGlobal_apply (p := p) (n := n) (segs := segs) (dl := dl) hw h he hk hs
  have hplace : t.dstPlace (field segs 20 12) = o := State.globalExchanged_dstPlace
  have hbase : t.dstBase (field segs 20 12) = s.dstBase (field segs 20 12) := State.globalExchanged_dstBase
  have hlow := lowerOldUse_ok (s := t) (old := field segs 20 12) (dl := dl) hwt (by rwa [hbase])
    (by rw [hplace, State.hasWord_congr (s := s) State.globalExchanged_cfg]; exact ho) (by rwa [hplace]) e.loc
  rw [hplace] at hlow
  exact hrun.trans hlow

end

/-- XGDS when its tests have passed (R285). -/
theorem xgds_completes {p task segs : Word} (hw : s.mem.wf = true) (h : s.hasWord a = true)
    (hrun : RunsBody .xgds s fun _ => leaveOldGlobal p n (s.dstHead a) task segs (s.taken a))
    (ht : ∀ f : Unit → M Word, (checkOldGlobal (field segs 20 12) (s.dstHead a) >>= f) (s.taken a) = f () (s.taken a))
    (hl : ((s.taken a).word (a + 8#32)).toNat + ((s.taken a).word (a + 4#32)).toNat < addressSpace)
    (hk : s.hasWord task = true) (hs : s.hasStack 1 0 = true)
    (hlim : (s.dstBase (field segs 20 12)).toNat + 16 * (field (field segs 20 12) 1 11).toNat < addressSpace)
    (ho : s.hasWord (s.dstPlace (field segs 20 12)) = true) :
    let o := s.dstPlace (field segs 20 12)
    let t := s.globalExchanged p n a task segs
    let loc := (s.taken a).word (a + 8#32)
    bit (t.word o) 0 = false →
    CompletesAs .xgds s ((t.putWord o (setField (t.word o) 1 12 (useCount (t.word o) - 1#12))).rebased loc
      (BitVec.ofNat 32 (loc.toNat + ((s.taken a).word (a + 4#32)).toNat))) := by
  intro o t loc hfree
  have hloc : (s.taken a).word (a + 8#32) = (s.dstHead a).loc :=
    State.word_putWord_other hw h (wordAlign_add_ne a (d := 8) (by omega) rfl (by omega))
  have hlen : (s.taken a).word (a + 4#32) = (s.dstHead a).lenM1 :=
    State.word_putWord_other hw h (wordAlign_add_ne a (d := 4) (by omega) rfl (by omega))
  simp only [loc, hloc, hlen] at hl ⊢
  exact hrun.completes ((leaveOldGlobal_apply ht hl).trans
    (exchangeGlobal_ok (e := s.dstHead a) hw h rfl hk hs hlim ho hfree)) (done_plain _)

/-! ## The order of the tests -/

section
variable {own p task segs : Word} {C : Prop}

/-- A number that names no entry is refused, else XGDS owns the entry that it names (R137, R285). -/
theorem xgds_named (hs : s.hasStack 1 0 = true) (ht : s.hasWord (s.dstBase (field (s.top 0) 1 12)) = true)
    (hC : let n := field (s.top 0) 1 12
      (∀ e, readDstHead n s = .ok (e, s.taken e.addr) →
        RunsBody .xgds s fun _ => enterNewGlobal (s.cpuBlock + 4#32) (s.top 0) n e (s.taken e.addr)) → C) :
    let n := field (s.top 0) 1 12
    if field n 1 11 = 0#11 then Raises .xgds s .edsPointerViolation none
    else if (s.word (s.dstBase n)).toNat < 16 * (field n 1 11).toNat then Raises .xgds s .dstViolation none else C := by
  intro n
  have hrun : RunsBody .xgds s fun _ => (dstEntryOf n >>= enterNewGlobal (s.cpuBlock + 4#32) (s.top 0) n) s :=
    xgds_runs.congr (M.bind_ok (peek_present (State.hasStack_top hs)))
  have hentry := dstEntryOf_apply (s := s) (n := n) ht
  refine prop_ite (fun h1 => hrun.raises (M.bind_error (hentry.trans (if_pos h1)))) fun h1 => ?_
  rw [if_neg h1] at hentry
  refine prop_ite (fun h2 => hrun.raises (M.bind_error (hentry.trans (if_pos h2)))) fun h2 => ?_
  exact hC fun e he => hrun.congr (M.bind_ok ((hentry.trans (if_neg h2)).trans he))

/-- The tests of the new entry, in their order (R285, R139). -/
theorem xgds_newTests (hw : s.mem.wf = true) (h : s.hasWord a = true)
    (hrun : RunsBody .xgds s fun _ => enterNewGlobal own p n (s.dstHead a) (s.taken a))
    (hC : (∀ f : Unit → M Word, (checkGlobal n (s.word a) >>= f) (s.taken a) = f () (s.taken a)) → C) :
    let w := s.word a
    if bit w 26 = true then exec .xgds s = .refused .pagedGlobalSegment
    else if bit w 27 = false then Raises .xgds s .dataSegmentWrite none
    else if bit w 30 = true ∧ s.privileged = false then Raises .xgds s .privilegedModeData none
    else if bit w 31 = true then Raises .xgds s .absentDataSegment (some (n.setWidth 32))
    else if useCount w = 4095#12 then Raises .xgds s .systemError (some 1#32) else C := by
  intro w
  have hfail {tr q} (ht : ∀ f : Unit → M Word, (checkGlobal n w >>= f) (s.taken a) = .error (.trap tr q (s.taken a))) :
      Raises .xgds s tr q := hrun.raises (enterNewGlobal_fails hw h ht)
  have hall (f : Unit → M Word) := checkGlobal_bind (n := n) (w := w) (s := s.taken a) (f := f)
  have hpriv : (s.taken a).privileged = s.privileged := rfl
  rw [hpriv] at hall
  refine prop_ite (fun h1 => hrun.refuses (enterNewGlobal_refused fun f => (hall f).trans (if_pos h1))) fun h1 => ?_
  simp only [if_neg h1] at hall
  refine prop_ite (fun h2 => hfail fun f => (hall f).trans (if_pos h2)) fun h2 => ?_
  simp only [if_neg h2] at hall
  refine prop_ite (fun h3 => hfail fun f => (hall f).trans (if_pos h3)) fun h3 => ?_
  simp only [if_neg h3] at hall
  refine prop_ite (fun h4 => hfail fun f => (hall f).trans (if_pos h4)) fun h4 => ?_
  simp only [if_neg h4] at hall
  exact prop_ite (fun h5 => hfail fun f => (hall f).trans (if_pos h5)) fun h5 =>
    hC fun f => (hall f).trans (if_neg h5)

/-- The tests of the old segment's number, then that of its use count (R285, R137, R139). -/
theorem xgds_oldTests {q : State} (hq : q = s.taken a) (hw : s.mem.wf = true) (h : s.hasWord a = true)
    (hrun : RunsBody .xgds s fun _ => leaveOldGlobal p n (s.dstHead a) task segs q)
    (ht : q.hasWord (q.dstBase (field segs 20 12)) = true)
    (hC : let old := field segs 20 12
      (∀ f : Unit → M Word, (checkOldGlobal old (s.dstHead a) >>= f) q = (checkOldEntry old a >>= f) q) → C) :
    let old := field segs 20 12
    if field old 1 11 = 0#11 then Raises .xgds s .edsPointerViolation none
    else if (q.word (q.dstBase old)).toNat < 16 * (field old 1 11).toNat then Raises .xgds s .dstViolation none
    else C := by
  subst hq
  intro old
  have hall (f : Unit → M Word) := checkOldGlobal_bind (old := old) (e := s.dstHead a) (f := f) ht
  refine prop_ite (fun h1 => hrun.raises (leaveOldGlobal_fails hw h fun f => (hall f).trans (if_pos h1))) fun h1 => ?_
  simp only [if_neg h1] at hall
  exact prop_ite (fun h2 => hrun.raises (leaveOldGlobal_fails hw h fun f => (hall f).trans (if_pos h2))) fun h2 =>
    hC fun f => (hall f).trans (if_neg h2)

end

/-- Settles O37: the tests of the new entry, the tests of the old one while the new is owned, then the stores. -/
theorem exchangeGlobalDataSegment : Obligations.ExchangeGlobalDataSegment := by
  intro s p n table index entry e0 q own task segs old same o0 loc last t c fails hw hs ht
  refine xgds_named hs ht fun hnamed hlim hwords hfree => ?_
  have hd : s.DstAt n (entry n) 3 := ⟨rfl, hlim, hwords, hfree⟩
  have hA : s.hasWord (entry n) = true := hd.first
  have hrun : RunsBody .xgds s fun _ => enterNewGlobal own p n (s.dstHead (entry n)) q :=
    hnamed _ (readDstHead_at (n := 0) hw hd)
  refine xgds_newTests hw hA hrun fun hnew ho hol hk hto => ?_
  have hrun' : RunsBody .xgds s fun _ => leaveOldGlobal p n (s.dstHead (entry n)) task segs q :=
    hrun.congr (enterNewGlobal_apply (s := q) hnew ho hol hk)
  refine xgds_oldTests rfl hw hA hrun' hto fun hold holim hoe hofree => ?_
  have hcount (f : Unit → M Word) :=
    (hold f).trans (checkOldEntry_bind (s := q) (State.wf_putWord hw hA) holim hoe hofree)
  refine prop_ite (fun h => hrun'.raises (leaveOldGlobal_fails hw hA fun f => (hcount f).trans (if_pos h)))
    fun h hlast hcfree => ?_
  exact xgds_completes hw hA hrun' (fun f => (hcount f).trans (if_neg h)) hlast hk hs holim hoe hcfree

end Sys2Proof.Machine

/-! PSHR, PMPB and INT. -/

namespace Sys2Proof.Machine

variable {α : Type} {s t : State}

/-! ## Selected pushes -/

/-- Less room is there where more is (R11). -/
theorem State.hasStack_mono {n k m j : Nat} (h : s.hasStack n k = true) (hm : m ≤ n) (hj : j ≤ k) :
    s.hasStack m j = true := by
  have hlim : (j == 0 || decide (s.S.toNat + 4 * j < addressSpace)) = true := by
    by_cases h0 : j = 0
    · simp [h0]
    · have := State.hasStack_limit h (by omega)
      simp only [Bool.or_eq_true, decide_eq_true_eq]
      omega
  have hw : s.hasWords j (m + j) = true := by
    refine State.hasWords_of fun i hi => ?_
    have hi' := State.hasWords_get (State.hasStack_words h) (k := i + (k - j)) (by omega)
    have e : s.S + BitVec.ofNat 32 (4 * k) - BitVec.ofNat 32 (4 * (i + (k - j))) =
        s.S + BitVec.ofNat 32 (4 * j) - BitVec.ofNat 32 (4 * i) := by
      have hk : 4 * k = 4 * j + 4 * (k - j) := by omega
      rw [hk, Nat.mul_add, BitVec.ofNat_add, BitVec.ofNat_add]
      ring
    rwa [e] at hi'
  rw [State.hasStack, hlim, hw]
  rfl

/-- The word v when the select bit is set. -/
def selected (c : Bool) (v : Word) : List Word := if c then [v] else []

/-- The state with a word pushed when its select bit is set (R283). -/
def State.pushedIf (s : State) (c : Bool) (v : Word) : State := (selected c v).foldl State.pushed s

theorem pushIf_room {n k : Nat} {c : Bool} {v : Word} (h : s.hasStack n (k + 1) = true) :
    pushIf c v s = .ok ((), s.pushedIf c v) := by
  cases c
  · rfl
  · exact push_room h

theorem State.pushedIf_hasStack {n k : Nat} {c : Bool} {v : Word} (h : s.hasStack n (k + 1) = true) :
    (s.pushedIf c v).hasStack n k = true := by
  cases c
  · exact State.hasStack_mono h (Nat.le_refl n) (Nat.le_succ k)
  · exact State.hasStack_mono (State.pushed_hasStack h) (Nat.le_succ n) (Nat.le_refl k)

/-- Push the words whose select bits are set, then go on (R283, R532). -/
def pushSelected (f : M α) : List (Bool × Word) → M α
  | [] => f
  | (c, v) :: l => pushIf c v >>= fun _ => pushSelected f l

/-- The words whose select bits are set. -/
def chosenWords (l : List (Bool × Word)) : List Word := l.flatMap fun p => selected p.1 p.2

theorem pushSelected_room {f : M α} {l : List (Bool × Word)} {n k : Nat} (h : s.hasStack n (k + l.length) = true) :
    pushSelected f l s = f ((chosenWords l).foldl State.pushed s) ∧
      ((chosenWords l).foldl State.pushed s).hasStack n k = true := by
  induction l generalizing s with
  | nil => exact ⟨rfl, h⟩
  | cons p l ih =>
    have hf : (chosenWords (p :: l)).foldl State.pushed s =
        (chosenWords l).foldl State.pushed (s.pushedIf p.1 p.2) := by
      rw [chosenWords, List.flatMap_cons, List.foldl_append]
      rfl
    rw [hf, pushSelected, M.bind_ok (pushIf_room h)]
    exact ih (State.pushedIf_hasStack h)

/-- Pushes change memory and S only. -/
theorem State.pushes_eq (s : State) (l : List Word) :
    l.foldl State.pushed s =
      { s with mem := (l.foldl State.pushed s).mem, S := s.S + BitVec.ofNat 32 (4 * l.length) } := by
  induction l generalizing s with
  | nil => simp
  | cons v l ih =>
    rw [List.foldl_cons, ih, State.pushed_S, List.length_cons, Nat.mul_succ, BitVec.ofNat_add,
      BitVec.add_comm (BitVec.ofNat 32 (4 * l.length)), BitVec.add_assoc]
    rfl

/-! ## PSHR -/

/-- The registers of the block of PSHR (R283). -/
def State.blockWords (s : State) : List Word := [s.P, s.PB, s.PL, s.DB, s.DL, s.SB, s.SL]

/-- The block of PSHR, pushed or not (R283). -/
def State.pushedBlock (s : State) (block : Bool) : State := (if block then s.blockWords else []).foldl State.pushed s

/-- The registers that PSHR pushes one by one, when S is top (R283). -/
def State.singleWords (s : State) (sel : BitVec 6) (top : Word) : List (Bool × Word) :=
  [(bit sel 5, top - s.SB), (bit sel 4, s.Q - s.SB), (bit sel 3, s.STATUS), (bit sel 2, s.DST), (bit sel 1, s.BRKPT),
    (bit sel 0, s.FLAGS.setWidth 32)]

theorem State.singleWords_chosen (s : State) (sel : BitVec 6) (top : Word) :
    chosenWords (s.singleWords sel top) =
      selected (bit sel 5) (top - s.SB) ++ selected (bit sel 4) (s.Q - s.SB) ++ selected (bit sel 3) s.STATUS ++
        selected (bit sel 2) s.DST ++ selected (bit sel 1) s.BRKPT ++ selected (bit sel 0) (s.FLAGS.setWidth 32) := by
  simp [chosenWords, State.singleWords]

theorem pushBlock_room {block : Bool} {k : Nat} (h : s.hasStack 0 (k + 7) = true) :
    pushBlock block s = .ok ((), s.pushedBlock block) ∧ (s.pushedBlock block).hasStack 0 k = true := by
  have hb : pushBlock block s = pushSelected (pushIf block s.SL)
      [(block, s.P), (block, s.PB), (block, s.PL), (block, s.DB), (block, s.DL), (block, s.SB)] s := rfl
  obtain ⟨hrun, hs⟩ := pushSelected_room (f := pushIf block s.SL) (n := 0) (k := k + 1)
    (l := [(block, s.P), (block, s.PB), (block, s.PL), (block, s.DB), (block, s.DL), (block, s.SB)]) h
  have hall : (if block then s.blockWords else []) = chosenWords [(block, s.P), (block, s.PB), (block, s.PL),
      (block, s.DB), (block, s.DL), (block, s.SB)] ++ selected block s.SL := by
    cases block <;> rfl
  rw [hb, hrun, State.pushedBlock, hall, List.foldl_append]
  exact ⟨pushIf_room hs, State.pushedIf_hasStack hs⟩

/-- The single registers of PSHR and what comes after them. -/
def pushSingles (s : State) (block : Bool) (sel : BitVec 6) : M End :=
  get >>= fun t => pushSelected
    (if s.cfg.pshrBlockFirst = false then pushBlock block >>= fun _ => pure done else pure done)
    (s.singleWords sel t.S)

/-- The body of PSHR (R283). -/
def pushRegisters (s : State) (block : Bool) (sel : BitVec 6) : M End :=
  if s.cfg.pshrBlockFirst then pushBlock block >>= fun _ => pushSingles s block sel else pushSingles s block sel

section
variable {block : Bool} {sel : BitVec 6}

theorem pshr_runs : RunsBody (.pshr block sel) s (pushRegisters s block sel) :=
  .of_get (fun s => pushRegisters s block sel) ⟨rfl, nofun⟩

theorem pushRegisters_blockFirst (h : s.hasStack 0 13 = true) (hf : s.cfg.pshrBlockFirst = true) :
    pushRegisters s block sel s = .ok (done, ((if block then s.blockWords else []) ++
      chosenWords (s.singleWords sel (if block then s.S + 28#32 else s.S))).foldl State.pushed s) := by
  obtain ⟨hb, hs⟩ := pushBlock_room (s := s) (block := block) (k := 6) h
  have hS : (s.pushedBlock block).S = if block then s.S + 28#32 else s.S := by
    cases block
    · rfl
    · exact congrArg State.S (s.pushes_eq s.blockWords)
  unfold pushRegisters pushSingles
  rw [if_pos hf, M.bind_ok hb, M.get_bind, if_neg (by simp [hf]), hS, List.foldl_append]
  exact (pushSelected_room (f := pure done) (n := 0) (k := 0) hs).1

theorem pushRegisters_blockLast (h : s.hasStack 0 13 = true) (hf : s.cfg.pshrBlockFirst = false) :
    pushRegisters s block sel s = .ok (done,
      (chosenWords (s.singleWords sel s.S) ++ if block then s.blockWords else []).foldl State.pushed s) := by
  obtain ⟨hr, hs⟩ := pushSelected_room (f := pushBlock block >>= fun _ => pure done) (n := 0) (k := 7)
    (l := s.singleWords sel s.S) h
  have hblock : ((chosenWords (s.singleWords sel s.S)).foldl State.pushed s).blockWords = s.blockWords := by
    rw [State.pushes_eq]
    rfl
  unfold pushRegisters pushSingles
  rw [if_neg (by simp [hf]), M.get_bind, if_pos hf, hr, M.bind_ok (pushBlock_room (k := 0) hs).1, List.foldl_append,
    State.pushedBlock, hblock]
  rfl

theorem pshr_onStack :
    let top := if block && s.cfg.pshrBlockFirst then s.S + 28#32 else s.S
    let whole := if block then s.blockWords else []
    let chosen := selected (bit sel 5) (top - s.SB) ++ selected (bit sel 4) (s.Q - s.SB) ++
      selected (bit sel 3) s.STATUS ++
      selected (bit sel 2) s.DST ++ selected (bit sel 1) s.BRKPT ++ selected (bit sel 0) (s.FLAGS.setWidth 32)
    OnStack (.pshr block sel) s 0 13 0
      ((if s.cfg.pshrBlockFirst then whole ++ chosen else chosen ++ whole).foldl State.pushed s) := by
  refine RunsOnStack.onStack (m := pushRegisters s block sel) (.keeping fun h => ?_) (done_plain _) pshr_runs
  rw [← State.singleWords_chosen]
  cases hf : s.cfg.pshrBlockFirst
  · rw [Bool.and_false]
    exact pushRegisters_blockLast h hf
  · rw [Bool.and_true]
    exact pushRegisters_blockFirst h hf

end

/-! ## PMPB and INT -/

section
variable {m : BitVec 3}

/-- The words that PMPB pushes (R532). -/
def State.messageWords (s : State) (m : BitVec 3) : List (Bool × Word) :=
  [(bit m 2, s.MASK), (bit m 1, s.MSG), (bit m 0, (field s.MASK 3 3).setWidth 32)]

theorem State.messageWords_chosen (s : State) (m : BitVec 3) :
    chosenWords (s.messageWords m) =
      selected (bit m 2) s.MASK ++ selected (bit m 1) s.MSG ++ selected (bit m 0) ((field s.MASK 3 3).setWidth 32) := by
  simp [chosenWords, State.messageWords]

/-- The body of PMPB (R532). -/
def pushMessages (s : State) (m : BitVec 3) : M End :=
  pushIf (bit m 2) s.MASK >>= fun _ => get >>= fun t =>
    pushSelected (pure done) [(bit m 1, t.MSG), (bit m 0, (field s.MASK 3 3).setWidth 32)]

theorem pmpb_runs : RunsBody (.pmpb m) s (pushMessages s m) := .of_get (fun s => pushMessages s m) ⟨rfl, nofun⟩

theorem pmpb_onStack : OnStack (.pmpb m) s 0 3 0 ((chosenWords (s.messageWords m)).foldl State.pushed s) := by
  refine RunsOnStack.onStack (m := pushMessages s m) (.keeping fun h => ?_) (done_plain _) pmpb_runs
  have hM : (s.pushedIf (bit m 2) s.MASK).MSG = s.MSG := by
    rw [State.pushedIf, State.pushes_eq]
  have hall : (chosenWords (s.messageWords m)).foldl State.pushed s =
      (chosenWords [(bit m 1, s.MSG), (bit m 0, (field s.MASK 3 3).setWidth 32)]).foldl State.pushed
        (s.pushedIf (bit m 2) s.MASK) := by
    rw [chosenWords, State.messageWords, List.flatMap_cons, List.foldl_append]
    rfl
  unfold pushMessages
  rw [M.bind_ok (pushIf_room h), M.get_bind, hM, hall]
  exact (pushSelected_room (n := 0) (k := 0) (State.pushedIf_hasStack h)).1

theorem int_runs {b3 : Bool} (h : s.privileged = true) :
    RunsBody (.int b3) s ((modify (·.setI b3) : M PUnit) >>= fun _ => pure done) :=
  .congr (m := requirePrivileged >>= fun _ => (modify (·.setI b3) : M PUnit) >>= fun _ => pure done) ⟨rfl, nofun⟩
    ((requirePrivileged_bind ..).trans (if_pos h))

theorem int_completes {b3 : Bool} (h : s.privileged = true) : CompletesAs (.int b3) s (s.setI b3) :=
  (int_runs h).completes (M.modify_bind ..) (done_plain _)

end

end Sys2Proof.Machine

/-! SMPB and SETR. -/

namespace Sys2Proof.Machine

variable {α : Type} {s t : State}

/-! ## An instruction that says what it leaves when it traps -/

/-- i runs the body m from s, whose trap finds the state that m leaves (R284, R540, R626). -/
structure RunsKept (i : Instr) (s : State) (m : M End) : Prop where
  body : exec i s = runKeep16 m s
  size : i.ilen = 2
  notDup : i ≠ .dup

section
variable {i : Instr} {m : M End} {s u : State} {e : End} {tr : Trap} {q : Option Word}

theorem RunsKept.congr {n : M End} (h : RunsKept i s m) (hm : m s = n s) : RunsKept i s n :=
  ⟨h.body.trans (by unfold runKeep16 runBody; rw [hm]), h.size, h.notDup⟩

/-- A body that starts by reading the state. -/
theorem RunsKept.of_get (f : State → M End) (h : RunsKept i s (get >>= f)) : RunsKept i s (f s) :=
  h.congr (M.get_bind f s)

theorem RunsKept.completes (h : RunsKept i s m) (hm : m s = .ok (e, u)) (he : e.plain u) : CompletesAs i s u :=
  completesKeep16 h.body h.size h.notDup hm he

theorem RunsKept.traps (h : RunsKept i s m) (hm : m s = .error (.trap tr q u)) :
    exec i s = conclude s (takeTrap tr q) u := h.body.trans (runKeep16_trap hm)

theorem RunsKept.raises (h : RunsKept i s m) (hm : m s = .error (.trap tr q s)) : Raises i s tr q := h.traps hm

end

/-! ## Selected pops -/

theorem State.canPop_mono {n k : Nat} (h : s.canPop k = true) (hn : n ≤ k) : s.canPop n = true := by
  have h' : s.Q.toNat + 4 * k ≤ s.S.toNat := of_decide_eq_true h
  exact decide_eq_true (by omega)

/-- A word popped when k are popped already (R260). -/
theorem popWord_at {k : Nat} (h : s.hasWord (s.S - BitVec.ofNat 32 (4 * k)) = true) (hp : s.canPop (k + 1) = true) :
    popWord (s.popped k) = .ok (s.top k, s.popped (k + 1)) := by
  have hS : (s.popped k).S - BitVec.ofNat 32 (4 * 0) = s.S - BitVec.ofNat 32 (4 * k) := BitVec.sub_zero _
  have hw : (s.popped k).hasWord ((s.popped k).S - BitVec.ofNat 32 (4 * 0)) = true := hS ▸ h
  have htop : (s.popped k).top 0 = s.top k := congrArg s.word hS
  have hc : (s.popped k).canPop 1 = true := by
    have hp' : s.Q.toNat + 4 * (k + 1) ≤ s.S.toNat := of_decide_eq_true hp
    have hk : (s.S - BitVec.ofNat 32 (4 * k)).toNat = s.S.toNat - 4 * k := by bv_omega
    exact decide_eq_true (by rw [State.popped_S, State.popped_Q, hk]; omega)
  have hall : (s.popped k).popped 1 = s.popped (k + 1) := by
    have e : s.S - BitVec.ofNat 32 (4 * k) - BitVec.ofNat 32 (4 * 1) = s.S - BitVec.ofNat 32 (4 * (k + 1)) := by
      rw [Nat.mul_add, BitVec.ofNat_add]
      ring
    exact congrArg (fun a => ({ s with S := a } : State)) e
  unfold popWord
  rw [M.bind_ok (peek_present hw), M.bind_ok (checkPop_can hc), dropWords_bind, htop, hall, M.pure_apply]

/-- Pop a word into a register when its select bit is set, then go on (R284, R533). -/
def popThen (c : Bool) (set : Word → State → State) (f : PUnit → M α) : M α :=
  if c then popWord >>= fun v => (modify (set v) : M PUnit) >>= f else f ⟨⟩

/-- The state r with k words popped goes to u with one more popped when the bit is set. -/
theorem popThen_at {u : State} {k : Nat} {c : Bool} {set : Word → State → State} {f : PUnit → M α}
    (h : s.hasWord (s.S - BitVec.ofNat 32 (4 * k)) = true) (hp : s.canPop (k + c.toNat) = true)
    (hu : ∀ j, (if c then set (s.top k) (s.popped j) else s.popped j) = u.popped j) :
    popThen c set f (s.popped k) = f ⟨⟩ (u.popped (k + c.toNat)) := by
  rw [← hu]
  cases c
  · rfl
  · exact (M.bind_ok (popWord_at h hp)).trans (M.modify_bind ..)

/-! ## SMPB -/

section
variable {m : BitVec 3}

/-- SMPB after the channel number (R533). -/
def setMessagesAndMask (m : BitVec 3) : M End :=
  popThen (bit m 1) (fun v s => { s with MSG := s.MSG &&& ~~~ v }) fun _ =>
    popThen (bit m 2) (fun v s => { s with MASK := setField v 3 3 (field s.MASK 3 3) }) fun _ => pure done

/-- The body of SMPB (R533). -/
def setMessages (m : BitVec 3) : M End :=
  checkPop ((bit m 0).toNat + (bit m 1).toNat + (bit m 2).toNat) >>= fun _ =>
    if bit m 0 then popWord >>= fun v => insist (field v 29 3 != 0) .channelZero >>= fun _ =>
      (modify fun s => { s with MASK := setField s.MASK 3 3 (field v 29 3) } : M PUnit) >>= fun _ =>
          setMessagesAndMask m
    else setMessagesAndMask m

theorem smpb_runs (h : s.privileged = true) : RunsBody (.smpb m) s (setMessages m) :=
  .congr (m := requirePrivileged >>= fun _ => setMessages m) ⟨rfl, nofun⟩ ((requirePrivileged_bind ..).trans (if_pos h))

theorem setMessagesAndMask_at {k : Nat} (hw : ∀ j ≤ k + 1, s.hasWord (s.S - BitVec.ofNat 32 (4 * j)) = true)
    (hp : s.canPop (k + (bit m 1).toNat + (bit m 2).toNat) = true) :
    let n := k + (bit m 1).toNat
    setMessagesAndMask m (s.popped k) = .ok (done, { s.popped (n + (bit m 2).toNat) with
      MSG := if bit m 1 then s.MSG &&& ~~~ s.top k else s.MSG,
      MASK := if bit m 2 then setField (s.top n) 3 3 (field s.MASK 3 3) else s.MASK }) := by
  intro n
  have hn : n ≤ k + 1 := Nat.add_le_add_left (Bool.toNat_le _) k
  let u : State := { s with MSG := if bit m 1 then s.MSG &&& ~~~ s.top k else s.MSG }
  have h1 : ∀ f : PUnit → M End, popThen (bit m 1) (fun v s => { s with MSG := s.MSG &&& ~~~ v }) f (s.popped k) =
      f ⟨⟩ (u.popped n) := fun f =>
    popThen_at (hw k (by omega)) (State.canPop_mono hp (by omega)) fun j => by
      dsimp only [u]
      cases bit m 1 <;> rfl
  have hu : u.hasWord (u.S - BitVec.ofNat 32 (4 * n)) = true := hw n hn
  have h2 := popThen_at (s := u) (c := bit m 2) (f := fun _ => (pure done : M End))
    (set := fun v s => { s with MASK := setField v 3 3 (field s.MASK 3 3) })
    (u := { u with MASK := if bit m 2 then setField (s.top n) 3 3 (field s.MASK 3 3) else s.MASK }) hu hp fun j => by
      cases bit m 2 <;> rfl
  exact (h1 _).trans h2

theorem setMessages_ok (h : s.hasStack 3 0 = true) (hz : bit m 0 = true → field (s.top 0) 29 3 ≠ 0#3) :
    let n0 := (bit m 0).toNat
    let n1 := n0 + (bit m 1).toNat
    let n2 := n1 + (bit m 2).toNat
    let channel := if bit m 0 then field (s.top 0) 29 3 else field s.MASK 3 3
    s.canPop n2 = true → setMessages m s = .ok (done, { s.popped n2 with
      MASK := setField (if bit m 2 then s.top n1 else s.MASK) 3 3 channel,
      MSG := if bit m 1 then s.MSG &&& ~~~ s.top n0 else s.MSG }) := by
  intro n0 n1 n2 channel hp
  let u : State := { s with MASK := if bit m 0 then setField s.MASK 3 3 (field (s.top 0) 29 3) else s.MASK }
  have hw : ∀ j ≤ 2, u.hasWord (u.S - BitVec.ofNat 32 (4 * j)) = true := fun j hj =>
    State.hasStack_below (s := s) h (by omega)
  have hn0 : n0 ≤ 1 := Bool.toNat_le _
  have hend := setMessagesAndMask_at (s := u) (k := n0) (fun j hj => hw j (by omega)) hp
  have hmask : (if bit m 2 then setField (s.top n1) 3 3 (field u.MASK 3 3) else u.MASK) =
      setField (if bit m 2 then s.top n1 else s.MASK) 3 3 channel := by
    dsimp only [u, channel]
    cases bit m 2 <;> cases bit m 0 <;> simp [setField_self]
  have hfirst : setMessages m s = setMessagesAndMask m (u.popped n0) := by
    unfold setMessages
    rw [M.bind_ok (checkPop_can hp)]
    cases hb : bit m 0
    · simp only [n0, u, hb]
      exact congrArg (setMessagesAndMask m) s.popped_zero.symm
    · have h0 : popWord (s.popped 0) = .ok (s.top 0, s.popped 1) := popWord_at (hw 0 (by omega))
        (State.canPop_mono hp (by simp [n2, n1, n0, hb]; omega))
      rw [State.popped_zero] at h0
      rw [if_pos rfl, M.bind_ok h0, insist_bind, if_pos (by simpa using hz hb), M.modify_bind]
      simp only [n0, u, hb]
      rfl
  rw [hfirst, ← hmask]
  exact hend

end

/-! ## SETR -/

section
variable {sel : BitVec 6} {s0 : State}

/-- How many of the first j registers SETR sets (R284). -/
def selectedBelow (sel : BitVec 6) (j : Nat) : Nat := (List.range j).countP fun m => bit sel m

theorem selectedBelow_succ (sel : BitVec 6) (j : Nat) :
    selectedBelow sel (j + 1) = selectedBelow sel j + (bit sel j).toNat := by
  unfold selectedBelow
  rw [List.range_succ, List.countP_append, List.countP_singleton]
  cases bit sel j <;> rfl

theorem selectedBelow_le (sel : BitVec 6) (j : Nat) : selectedBelow sel j ≤ j :=
  List.countP_le_length.trans_eq List.length_range

theorem selectedBelow_mono (sel : BitVec 6) {j k : Nat} (h : j ≤ k) : selectedBelow sel j ≤ selectedBelow sel k :=
  (List.range_sublist.2 h).countP_le

/-- The test of SETR on the registers it has set, against those of its start (R284). -/
def testRegisters (sel : BitVec 6) (s0 : State) : M End :=
  get >>= fun t => if (bit sel 4 || bit sel 5) && !t.stackConsistent then
    (modify fun s => { s with Q := s0.Q, S := s0.S } : M PUnit) >>= fun _ =>
      raise .inconsistentRegisters (some s0.CIR) >>= fun _ : Unit => pure done
  else pure done

/-- SETR once the popped registers are set (R284). -/
def setStackRegister (sel : BitVec 6) (s0 : State) : M End :=
  if bit sel 5 then peek 0 >>= fun v => (modify fun s => { s with S := v + s.SB } : M PUnit) >>= fun _ =>
    testRegisters sel s0
  else testRegisters sel s0

/-- The pops of SETR (R284). -/
def popRegisters (sel : BitVec 6) (s0 : State) : M End :=
  popThen (bit sel 0) (fun v s => { s with FLAGS := mergeFlags s0.privileged s.FLAGS (field v 24 8) }) fun _ =>
    popThen (bit sel 1) (fun v s => { s with BRKPT := v }) fun _ =>
      popThen (bit sel 2) (fun v s => { s with DST := v }) fun _ =>
      popThen (bit sel 3) (fun v s => { s with STATUS := mergeStatus s0.privileged s.STATUS v }) fun _ =>
        popThen (bit sel 4) (fun v s => { s with Q := v + s.SB }) fun _ => setStackRegister sel s0

/-- The body of SETR (R284). -/
def setRegisters (sel : BitVec 6) (s0 : State) : M End :=
  require (s0.privileged || !(bit sel 1 || bit sel 2 || bit sel 5)) .privilegedMode (some 1#32) >>= fun _ =>
    checkPop ((bit sel 0).toNat + (bit sel 1).toNat + (bit sel 2).toNat + (bit sel 3).toNat + (bit sel 4).toNat) >>=
      fun _ =>
      popRegisters sel s0

theorem setr_runs : RunsKept (.setr sel) s (setRegisters sel s) := .of_get (setRegisters sel) ⟨rfl, rfl, nofun⟩

theorem setRegisters_violates (hp : s.privileged = false) (h : (bit sel 1 || bit sel 2 || bit sel 5) = true) :
    setRegisters sel s s = .error (.trap .privilegedMode (some 1#32) s) := by
  unfold setRegisters
  rw [require_bind, if_neg (by simp [hp, h])]

theorem setRegisters_apply (hp : s.privileged = true ∨ (bit sel 1 || bit sel 2 || bit sel 5) = false) :
    setRegisters sel s s = if s.canPop (selectedBelow sel 5) = false then .error (.trap .stackUnderflow none s)
      else popRegisters sel s s := by
  have hc : s.privileged || !(bit sel 1 || bit sel 2 || bit sel 5) := by
    obtain h | h := hp
    · rw [h, Bool.true_or]
    · rw [h, Bool.not_false, Bool.or_true]
  have hk : selectedBelow sel 5 =
      (bit sel 0).toNat + (bit sel 1).toNat + (bit sel 2).toNat + (bit sel 3).toNat + (bit sel 4).toNat := by
    simp only [selectedBelow_succ]
    exact congrArg (· + _) (congrArg (· + _) (congrArg (· + _) (congrArg (· + _) (Nat.zero_add _))))
  unfold setRegisters
  rw [require_bind, if_pos hc, ← hk]
  split
  next h => exact M.bind_error (checkPop_cannot h)
  next h => exact M.bind_ok (checkPop_can (by simpa using h))

/-- The registers that SETR pops, but Q (R284). -/
def State.withRegisters (s : State) (sel : BitVec 6) : State :=
  let v := fun j => s.top (selectedBelow sel j)
  { s with
    FLAGS := if bit sel 0 then mergeFlags s.privileged s.FLAGS (field (v 0) 24 8) else s.FLAGS,
    BRKPT := if bit sel 1 then v 1 else s.BRKPT,
    DST := if bit sel 2 then v 2 else s.DST,
    STATUS := if bit sel 3 then mergeStatus s.privileged s.STATUS (v 3) else s.STATUS }

/-- The Q that SETR sets (R284). -/
def State.newQ (s : State) (sel : BitVec 6) : Word := if bit sel 4 then s.top (selectedBelow sel 4) + s.SB else s.Q

/-- The S that SETR sets (R284). -/
def State.newS (s : State) (sel : BitVec 6) : Word :=
  if bit sel 5 then s.top (selectedBelow sel 5) + s.SB else s.S - BitVec.ofNat 32 (4 * selectedBelow sel 5)

/-- One pop of SETR, for the j-th register: the state u has the registers before it, the state v that one too. -/
theorem popThen_register {u v : State} {j : Nat} {set : Word → State → State} {f : PUnit → M α} (hj : j < 5)
    (hu : u.cfg = s.cfg) (hS : u.S = s.S) (hQ : u.Q = s.Q) (h : s.hasStack 6 0 = true)
    (hp : s.canPop (selectedBelow sel 5) = true)
    (hv : ∀ n, (if bit sel j then set (u.top (selectedBelow sel j)) (u.popped n) else u.popped n) = v.popped n) :
    popThen (bit sel j) set f (u.popped (selectedBelow sel j)) = f ⟨⟩ (v.popped (selectedBelow sel (j + 1))) := by
  have hk := selectedBelow_le sel j
  have hw : u.hasWord (u.S - BitVec.ofNat 32 (4 * selectedBelow sel j)) = true :=
    State.hasStack_below ((State.hasStack_congr hu hS).trans h) (by omega)
  have hc : u.canPop (selectedBelow sel j + (bit sel j).toNat) = true := by
    rw [← selectedBelow_succ]
    unfold State.canPop
    rw [hQ, hS]
    exact State.canPop_mono hp (selectedBelow_mono sel (by omega))
  rw [selectedBelow_succ]
  exact popThen_at hw hc hv

theorem popRegisters_apply (h : s.hasStack 6 0 = true) (hp : s.canPop (selectedBelow sel 5) = true) :
    popRegisters sel s s = setStackRegister sel s
      (({ s.withRegisters sel with Q := s.newQ sel } : State).popped (selectedBelow sel 5)) := by
  let v := fun j => s.top (selectedBelow sel j)
  let u1 : State :=
    { s with FLAGS := if bit sel 0 then mergeFlags s.privileged s.FLAGS (field (v 0) 24 8) else s.FLAGS }
  let u2 : State := { u1 with BRKPT := if bit sel 1 then v 1 else s.BRKPT }
  let u3 : State := { u2 with DST := if bit sel 2 then v 2 else s.DST }
  let u5 : State := { s.withRegisters sel with Q := s.newQ sel }
  have h0 : popRegisters sel s s = popRegisters sel s (s.popped (selectedBelow sel 0)) :=
    congrArg (popRegisters sel s) s.popped_zero.symm
  rw [h0]
  refine (popThen_register (j := 0) (u := s) (v := u1) (by omega) rfl rfl rfl h hp fun n => ?_).trans
    ((popThen_register (j := 1) (u := u1) (v := u2) (by omega) rfl rfl rfl h hp fun n => ?_).trans
    ((popThen_register (j := 2) (u := u2) (v := u3) (by omega) rfl rfl rfl h hp fun n => ?_).trans
    ((popThen_register (j := 3) (u := u3) (v := s.withRegisters sel) (by omega) rfl rfl rfl h hp fun n => ?_).trans
    (popThen_register (j := 4) (u := s.withRegisters sel) (v := u5) (by omega) rfl rfl rfl h hp fun n => ?_))))
  · dsimp only [u1]
    cases bit sel 0 <;> rfl
  · dsimp only [u2]
    cases bit sel 1 <;> rfl
  · dsimp only [u3]
    cases bit sel 2 <;> rfl
  · dsimp only [State.withRegisters]
    cases bit sel 3 <;> rfl
  · dsimp only [u5, State.newQ]
    cases bit sel 4 <;> rfl

theorem setStackRegister_apply (h : s.hasStack 6 0 = true) :
    let u := s.withRegisters sel
    setStackRegister sel s (({ u with Q := s.newQ sel } : State).popped (selectedBelow sel 5)) =
      testRegisters sel s { u with Q := s.newQ sel, S := s.newS sel } := by
  intro u
  have hk := selectedBelow_le sel 5
  let t : State := { u with Q := s.newQ sel }
  have hS : (t.popped (selectedBelow sel 5)).S - BitVec.ofNat 32 (4 * 0) =
      t.S - BitVec.ofNat 32 (4 * selectedBelow sel 5) :=
    BitVec.sub_zero _
  have hw : (t.popped (selectedBelow sel 5)).hasWord ((t.popped (selectedBelow sel 5)).S - BitVec.ofNat 32 (4 * 0)) =
      true :=
    hS ▸ State.hasStack_below (s := s) h (by omega)
  have htop : (t.popped (selectedBelow sel 5)).top 0 = s.top (selectedBelow sel 5) := congrArg s.word hS
  unfold setStackRegister State.newS
  cases bit sel 5
  · rfl
  · refine (M.bind_ok (peek_present hw)).trans ((M.modify_bind ..).trans ?_)
    rw [htop]
    rfl

theorem testRegisters_apply {u : State} :
    testRegisters sel s u =
      if bit sel 4 = false ∧ bit sel 5 = false ∨ u.stackConsistent = true then .ok (done, u)
      else .error (.trap .inconsistentRegisters (some s.CIR) { u with Q := s.Q, S := s.S }) := by
  unfold testRegisters
  rw [M.get_bind]
  cases bit sel 4 <;> cases bit sel 5 <;> cases u.stackConsistent <;> rfl

theorem setr_apply (h : s.hasStack 6 0 = true) (hp : s.canPop (selectedBelow sel 5) = true) :
    let u := s.withRegisters sel
    let t := { u with Q := s.newQ sel, S := s.newS sel }
    popRegisters sel s s = if bit sel 4 = false ∧ bit sel 5 = false ∨ t.stackConsistent = true then .ok (done, t)
      else .error (.trap .inconsistentRegisters (some s.CIR) u) :=
  (popRegisters_apply h hp).trans ((setStackRegister_apply h).trans testRegisters_apply)

end

/-- Settles O36: PSHR, PMPB, INT and SMPB one at a time, then SETR by its tests. -/
theorem registerPushesAndSetRegisters : Obligations.RegisterPushesAndSetRegisters := by
  refine ⟨fun s block sel m => ?_, fun s sel => ?_⟩
  · intro all first S' pick chosen whole channel n0 n1 n2 newChannel
    refine ⟨?_, ?_, fun h => ⟨int_completes h, int_completes h⟩, fun h hz hs => ?_⟩
    · exact pshr_onStack
    · exact s.messageWords_chosen m ▸ pmpb_onStack
    · refine prop_ite (fun hc => (smpb_runs h).raises (M.bind_error (checkPop_cannot hc))) fun hc => ?_
      exact (smpb_runs h).completes (setMessages_ok hs hz (by simpa using hc)) (done_plain _)
  · intro k v mask flags u q top orderly
    refine ⟨fun hp h => setr_runs.raises (setRegisters_violates hp h), fun hp hs => ?_⟩
    have hrun := setRegisters_apply hp
    refine prop_ite (fun hc => setr_runs.raises (hrun.trans (if_pos hc))) fun hc => ?_
    have hall := (hrun.trans (if_neg hc)).trans (setr_apply hs (Bool.eq_true_of_not_eq_false hc))
    exact prop_ite (fun ho => setr_runs.completes (hall.trans (if_pos ho)) (done_plain _)) fun ho =>
      setr_runs.traps (hall.trans (if_neg ho))

end Sys2Proof.Machine

/-! The I/O and channel instructions. -/

namespace Sys2Proof.Machine

variable {α : Type} {s v u : State} {i : Instr} {rq : MpbRequest}

/-! ## Bits of MSG -/

/-- A bit that is cleared, as a mask (R7). -/
theorem setBit_false (v : Word) (n : Nat) : setBit v n false = v &&& ~~~ fieldMask 32 n 1 := by
  simp [setBit, setField]

theorem setBit_self (v : Word) {n : Nat} (hn : n < 32) : setBit v n (bit v n) = v :=
  eq_of_bits fun k hk => by
    rw [bit_setBit v n k _ hn hk]
    split
    next h => rw [h]
    next => rfl

/-- A bit that c may set, as a mask (R7). -/
theorem setBit_or (v : Word) (c : Bool) {n : Nat} (hn : n < 32) :
    setBit v n (bit v n || c) = v ||| (if c then fieldMask 32 n 1 else 0#32) := by
  cases c
  · simpa using setBit_self v hn
  · simpa using setBit_true v n

/-! ## The MPB -/

theorem preCheckMpb_bind {f : Unit → M α} :
    (preCheckMpb >>= f) s = if s.mpbReady then f () s else .error (.trap .systemError (some 2#32) s) := by
  unfold preCheckMpb
  rw [M.bind_assoc_apply, M.get_bind, require_bind]
  rfl

theorem mpbRequest_apply : mpbRequest rq s = .ok (s.reply, s.asked rq) := by
  unfold mpbRequest State.reply State.asked
  cases h : s.mpb <;> rfl

theorem noteMpbErrors_apply (r : MpbReply) : noteMpbErrors r s = .ok (⟨⟩, s.noted r) := by
  have h2 : bit s.MSG 2 = bit (setBit s.MSG 1 (bit s.MSG 1 || r.addrErr)) 2 := by
    rw [bit_setBit _ 1 2 _ (by omega) (by omega), if_neg (by omega)]
  have hM : setBit (setBit s.MSG 1 (bit s.MSG 1 || r.addrErr)) 2 (bit s.MSG 2 || r.dataErr) = (s.noted r).MSG := by
    rw [h2, setBit_or _ _ (by omega), setBit_or _ _ (by omega)]
    rfl
  unfold noteMpbErrors
  rw [M.modify_apply, hM]
  rfl

/-- An answer without errors leaves MSG as it is (R545). -/
theorem State.noted_none {r : MpbReply} (ha : r.addrErr = false) (hd : r.dataErr = false) : s.noted r = s := by
  unfold State.noted
  simp [ha, hd]

theorem raiseMpbError_none {r : MpbReply} (ha : r.addrErr = false) (hd : r.dataErr = false) :
    raiseMpbError r s = .ok ((), s) := by
  unfold raiseMpbError
  rw [M.bind_ok (noteMpbErrors_apply r), State.noted_none ha hd, if_neg (by simp [ha, hd])]
  rfl

/-- The two error bits cleared, as a mask (R540). -/
theorem clearErrors_eq (w : Word) : setBit (setBit w 1 false) 2 false = w &&& 0x9FFFFFFF#32 := by
  rw [setBit_false, setBit_false, BitVec.and_assoc]
  rfl

theorem raiseMpbError_some {r : MpbReply} (h : ¬ (r.addrErr = false ∧ r.dataErr = false)) :
    let t := s.noted r
    raiseMpbError r s = .error (.trap .systemError
      (some (BitVec.ofNat 32 (4 + 2 * (bit t.MSG 1).toNat + (bit t.MSG 2).toNat)))
      { t with MSG := t.MSG &&& 0x9FFFFFFF#32 }) := by
  intro t
  have hc : r.addrErr = true ∨ r.dataErr = true := by
    rw [← Bool.not_eq_false, ← Bool.not_eq_false]
    exact not_and_or.1 h
  unfold raiseMpbError
  rw [M.bind_ok (noteMpbErrors_apply r), if_pos hc, M.get_bind, M.modify_bind, clearErrors_eq]
  rfl

/-! ## Requests of the instructions -/

/-- An instruction that sends the request rq from v, where v differs from its start s in nothing that an answer depends
on, and goes on by f when there is no error (R540, R545). -/
theorem RunsKept.sends {f : MpbReply → M End}
    (h : RunsKept i s fun _ => (mpbRequest rq >>= fun r => raiseMpbError r >>= fun _ => f r) v)
    (hv : v.reply = s.reply)
    (hf : s.reply.addrErr = false → s.reply.dataErr = false → f s.reply (v.asked rq) = .ok (done, u)) :
    SendsAs i s v rq u := by
  have hrun : (mpbRequest rq >>= fun r => raiseMpbError r >>= fun _ => f r) v =
      (raiseMpbError s.reply >>= fun _ => f s.reply) (v.asked rq) :=
    (M.bind_ok mpbRequest_apply).trans (by rw [hv])
  refine prop_ite (fun hn => ?_) fun he => ?_
  · obtain ⟨ha, hd⟩ := hn
    exact h.completes (hrun.trans ((M.bind_ok (raiseMpbError_none ha hd)).trans (hf ha hd))) (done_plain _)
  · exact h.traps (hrun.trans (M.bind_error (raiseMpbError_some he)))

/-- What the I/O and channel instructions test first (R540, R671). -/
def onMpb (m : M End) : M End := requirePrivileged >>= fun _ => preCheckMpb >>= fun _ => m

theorem onMpb_ready {m : M End} (hp : s.privileged = true) (hr : s.mpbReady = true) : onMpb m s = m s := by
  unfold onMpb
  rw [requirePrivileged_bind, if_pos hp, preCheckMpb_bind, if_pos hr]

theorem onMpb_blocked {m : M End} (hp : s.privileged = true) (hr : s.mpbReady = false) :
    onMpb m s = .error (.trap .systemError (some 2#32) s) := by
  unfold onMpb
  rw [requirePrivileged_bind, if_pos hp, preCheckMpb_bind, if_neg (by simp [hr])]

section
variable {n : BitVec 8} {b3 : Bool}

/-- IOW (R534). -/
def writeDevice (n : BitVec 8) : M End :=
  peek 0 >>= fun a => peek 1 >>= fun w => checkPop 2 >>= fun _ => checkDeviceWord w >>= fun _ => get >>= fun s =>
    mpbRequest (.write (field w 26 3) (field w 29 3) (field w 22 4) n a s.secondary) >>= fun r =>
      raiseMpbError r >>= fun _ => dropWords 2 >>= fun _ => pure done

/-- IOR once its request is answered (R535). -/
def readAnswer (r : MpbReply) : M End :=
  if r.timeout then (modify (·.setPending false) : M PUnit) >>= fun _ =>
    raise .systemError (some 3#32) >>= fun _ : Unit =>
    raiseMpbError r >>= fun _ => poke 0 r.data >>= fun _ => pure done
  else raiseMpbError r >>= fun _ => poke 0 r.data >>= fun _ => pure done

/-- IOR (R535). -/
def readDevice (n : BitVec 8) : M End :=
  peek 0 >>= fun w => checkPop 1 >>= fun _ => checkDeviceWord w >>= fun _ => get >>= fun s =>
    (modify fun s => { s with secondary := false } : M PUnit) >>= fun _ =>
      mpbRequest (.read (field w 26 3) (field w 29 3) (field w 22 4) n s.X s.secondary) >>= readAnswer

/-- IOC (R536). -/
def controlDevice (n : BitVec 8) : M End :=
  peek 0 >>= fun w => checkPop 1 >>= fun _ => checkDeviceWord w >>= fun _ => get >>= fun s =>
    mpbRequest (.control (field w 26 3) (field w 29 3) (field w 22 4) n s.secondary) >>= fun r =>
      raiseMpbError r >>= fun _ => dropWords 1 >>= fun _ => pure done

/-- SMSG (R581). -/
def sendMessage (b3 : Bool) : M End :=
  peek 0 >>= fun w => checkPop 1 >>= fun _ => get >>= fun s =>
    mpbRequest (.message (field w 3 29) b3 s.secondary) >>= fun r =>
      raiseMpbError r >>= fun _ => dropWords 1 >>= fun _ => pure done

/-- RFC (R577). -/
def readChannel (b3 : Bool) : M End :=
  peek 0 >>= fun w => mpbRequest (.channelRead (field w 3 29) b3) >>= fun r => noteMpbErrors r >>= fun _ =>
    (if r.addrErr || r.dataErr then drawFree else pure r.data : M Word) >>= fun v => push v >>= fun _ =>
      putCC (channelCC r) >>= fun _ => pure done

/-- WTC once its request is answered (R578). -/
def writeAnswer (w : Word) (r : MpbReply) : M End :=
  if !r.addrErr && !r.dataErr && bit w 0 then get >>= fun s => if bit s.MSG 12 then finishWait
    else (modify fun s => { s with run := .channelWait } : M PUnit) >>= fun _ => pure { stay := true }
  else putCC (channelCC r) >>= fun _ => dropWords 2 >>= fun _ => pure done

/-- WTC (R578). -/
def writeChannel (b3 : Bool) : M End :=
  peek 0 >>= fun a => peek 1 >>= fun w => checkPop 2 >>= fun _ =>
    mpbRequest (.channelWrite (field w 3 29) a b3) >>= fun r =>
    noteMpbErrors r >>= fun _ => writeAnswer w r

theorem iow_runs : RunsKept (.iow n) s (onMpb (writeDevice n)) := ⟨rfl, rfl, nofun⟩

theorem ior_runs : RunsKept (.ior n) s (onMpb (readDevice n)) := ⟨rfl, rfl, nofun⟩

theorem ioc_runs : RunsKept (.ioc n) s (onMpb (controlDevice n)) := ⟨rfl, rfl, nofun⟩

theorem smsg_runs : RunsKept (.smsg b3) s (onMpb (sendMessage b3)) := ⟨rfl, rfl, nofun⟩

theorem rfc_runs : RunsKept (.rfc b3) s (onMpb (readChannel b3)) := ⟨rfl, rfl, nofun⟩

theorem wtc_runs : RunsKept (.wtc b3) s (onMpb (writeChannel b3)) := ⟨rfl, rfl, nofun⟩

end

/-! ## What they pop -/

theorem peekOne_underflows {f : Word → M α} (h : s.hasStack 1 0 = true) (hc : s.canPop 1 = false) :
    (peek 0 >>= fun w => checkPop 1 >>= fun _ => f w) s = .error (.trap .stackUnderflow none s) := by
  rw [M.bind_ok (peek_present (State.hasStack_top h)), M.bind_error (checkPop_cannot hc)]

theorem peekOne_apply {f : Word → M α} (h : s.hasStack 1 0 = true) (hc : s.canPop 1 = true) :
    (peek 0 >>= fun w => checkPop 1 >>= fun _ => f w) s = f (s.top 0) s := by
  rw [M.bind_ok (peek_present (State.hasStack_top h)), M.bind_ok (checkPop_can hc)]

theorem peekTwo_underflows {f : Word → Word → M α} (h : s.hasStack 2 0 = true) (hc : s.canPop 2 = false) :
    (peek 0 >>= fun a => peek 1 >>= fun w => checkPop 2 >>= fun _ => f a w) s =
        .error (.trap .stackUnderflow none s) := by
  rw [M.bind_ok (peek_present (State.hasStack_below h (by omega))),
    M.bind_ok (peek_present (State.hasStack_below h (by omega))), M.bind_error (checkPop_cannot hc)]

theorem peekTwo_apply {f : Word → Word → M α} (h : s.hasStack 2 0 = true) (hc : s.canPop 2 = true) :
    (peek 0 >>= fun a => peek 1 >>= fun w => checkPop 2 >>= fun _ => f a w) s = f (s.top 0) (s.top 1) s := by
  rw [M.bind_ok (peek_present (State.hasStack_below h (by omega))),
    M.bind_ok (peek_present (State.hasStack_below h (by omega))), M.bind_ok (checkPop_can hc)]

theorem checkDeviceWord_bind {f : Unit → M α} {w : Word} (h : field w 0 22 = 0#22) :
    (checkDeviceWord w >>= f) s = f () s :=
  (insist_bind ..).trans (if_pos (by simp [h]))

/-! ## Each of them -/

theorem finishWait_apply (s : State) :
    finishWait s =
      .ok (done, (({ s with MSG := s.MSG &&& 0xFFF7FFFF#32, run := .running } : State).setCC 0b10#2).popped 2) := by
  have hM : setBit s.MSG 12 false = s.MSG &&& 0xFFF7FFFF#32 := setBit_false s.MSG 12
  unfold finishWait
  rw [M.modify_bind, hM]
  rfl

section
variable {n : BitVec 8} {b3 : Bool} (hp : s.privileged = true) (hr : s.mpbReady = true)
include hp hr

theorem RunsKept.ready {m : M End} (h : RunsKept i s (onMpb m)) : RunsKept i s m := h.congr (onMpb_ready hp hr)

theorem two_underflow (h : s.hasStack 2 0 = true) (hc : s.canPop 2 = false) :
    ∀ i ∈ [Instr.iow n, .wtc b3], Raises i s .stackUnderflow none := by
  intro i hi
  simp only [List.mem_cons, List.not_mem_nil, or_false] at hi
  obtain rfl | rfl := hi
  · exact (iow_runs.ready hp hr).raises (peekTwo_underflows h hc)
  · exact (wtc_runs.ready hp hr).raises (peekTwo_underflows h hc)

theorem one_underflow (h : s.hasStack 1 0 = true) (hc : s.canPop 1 = false) :
    ∀ i ∈ [Instr.ior n, .ioc n, .smsg b3], Raises i s .stackUnderflow none := by
  intro i hi
  simp only [List.mem_cons, List.not_mem_nil, or_false] at hi
  obtain rfl | rfl | rfl := hi
  · exact (ior_runs.ready hp hr).raises (peekOne_underflows h hc)
  · exact (ioc_runs.ready hp hr).raises (peekOne_underflows h hc)
  · exact (smsg_runs.ready hp hr).raises (peekOne_underflows h hc)

theorem ioc_sends (h : s.hasStack 1 0 = true) (hc : s.canPop 1 = true) (hz : field (s.top 0) 0 22 = 0#22) :
    let w := s.top 0
    let rq := MpbRequest.control (field w 26 3) (field w 29 3) (field w 22 4) n s.secondary
    SendsAs (.ioc n) s s rq ((s.asked rq).popped 1) :=
  RunsKept.sends (f := fun _ => dropWords 1 >>= fun _ => pure done)
    ((ioc_runs.ready hp hr).congr ((peekOne_apply h hc).trans ((checkDeviceWord_bind hz).trans (M.get_bind ..))))
    rfl fun _ _ => rfl

theorem smsg_sends (h : s.hasStack 1 0 = true) (hc : s.canPop 1 = true) :
    let rq := MpbRequest.message (field (s.top 0) 3 29) b3 s.secondary
    SendsAs (.smsg b3) s s rq ((s.asked rq).popped 1) :=
  RunsKept.sends (f := fun _ => dropWords 1 >>= fun _ => pure done)
    ((smsg_runs.ready hp hr).congr ((peekOne_apply h hc).trans (M.get_bind ..))) rfl fun _ _ => rfl

theorem iow_sends (h : s.hasStack 2 0 = true) (hc : s.canPop 2 = true) (hz : field (s.top 1) 0 22 = 0#22) :
    let w := s.top 1
    let rq := MpbRequest.write (field w 26 3) (field w 29 3) (field w 22 4) n (s.top 0) s.secondary
    SendsAs (.iow n) s s rq ((s.asked rq).popped 2) :=
  RunsKept.sends (f := fun _ => dropWords 2 >>= fun _ => pure done)
    ((iow_runs.ready hp hr).congr ((peekTwo_apply h hc).trans ((checkDeviceWord_bind hz).trans (M.get_bind ..))))
    rfl fun _ _ => rfl

/-- IOR sends its request in primary mode, with the mode that it has found (R535). -/
theorem ior_answered (h : s.hasStack 1 0 = true) (hc : s.canPop 1 = true) (hz : field (s.top 0) 0 22 = 0#22) :
    let w := s.top 0
    let rq := MpbRequest.read (field w 26 3) (field w 29 3) (field w 22 4) n s.X s.secondary
    RunsKept (.ior n) s fun _ => readAnswer s.reply (({ s with secondary := false } : State).asked rq) :=
  (ior_runs.ready hp hr).congr ((peekOne_apply h hc).trans ((checkDeviceWord_bind hz).trans
    ((M.get_bind ..).trans ((M.modify_bind ..).trans (M.bind_ok mpbRequest_apply)))))

theorem ior_sends (h : s.hasStack 1 0 = true) (hc : s.canPop 1 = true) (hz : field (s.top 0) 0 22 = 0#22)
    (ht : s.reply.timeout = false) :
    let w := s.top 0
    let rq := MpbRequest.read (field w 26 3) (field w 29 3) (field w 22 4) n s.X s.secondary
    let v := { s with secondary := false }
    SendsAs (.ior n) s v rq ((v.asked rq).putTop 0 s.reply.data) := by
  intro w rq v
  have htop : (v.asked rq).hasWord ((v.asked rq).S - BitVec.ofNat 32 (4 * 0)) = true := State.hasStack_top (s := s) h
  refine RunsKept.sends (f := fun r => poke 0 r.data >>= fun _ => pure done) ((ior_answered hp hr h hc hz).congr ?_) rfl
    fun _ _ => M.bind_ok (poke_present htop)
  have hq : mpbRequest rq v = .ok (s.reply, v.asked rq) := mpbRequest_apply
  rw [M.bind_ok hq]
  unfold readAnswer
  rw [if_neg (by simp [ht])]

theorem ior_timesOut (h : s.hasStack 1 0 = true) (hc : s.canPop 1 = true) (hz : field (s.top 0) 0 22 = 0#22)
    (ht : s.reply.timeout = true) :
    let w := s.top 0
    let rq := MpbRequest.read (field w 26 3) (field w 29 3) (field w 22 4) n s.X s.secondary
    exec (.ior n) s = conclude s (takeTrap .systemError (some 3#32))
      ((({ s with secondary := false } : State).asked rq).setPending false) := by
  refine (ior_answered hp hr h hc hz).traps ?_
  unfold readAnswer
  rw [if_pos ht, M.modify_bind]
  rfl

/-- The word that RFC delivers, and the state it leaves (R577, U20). -/
theorem rfc_completes (h : s.hasStack 1 1 = true) {d : Word} {v : State} (hS : v.S = s.S) (hcfg : v.cfg = s.cfg)
    (hd : let rq := MpbRequest.channelRead (field (s.top 0) 3 29) b3
      (if s.reply.addrErr || s.reply.dataErr then drawFree else pure s.reply.data : M Word)
        ((s.asked rq).noted s.reply) =
        .ok (d, v)) :
    CompletesAs (.rfc b3) s ((v.pushed d).setCC (channelCC s.reply)) := by
  have hpush : v.hasStack 1 1 = true := (State.hasStack_congr hcfg hS).trans h
  refine (rfc_runs.ready hp hr).completes ?_ (done_plain _)
  unfold readChannel
  rw [M.bind_ok (peek_present (State.hasStack_below h (by omega))), M.bind_ok mpbRequest_apply,
    M.bind_ok (noteMpbErrors_apply _), M.bind_ok hd, M.bind_ok (push_room hpush)]
  rfl

theorem rfc_accepted (h : s.hasStack 1 1 = true) (ha : s.reply.addrErr = false) (hd : s.reply.dataErr = false) :
    let got := (s.asked (.channelRead (field (s.top 0) 3 29) b3)).noted s.reply
    CompletesAs (.rfc b3) s ((got.pushed s.reply.data).setCC 0b10#2) := by
  have hcc : channelCC s.reply = 0b10#2 := by simp [channelCC, ha, hd, ccE]
  rw [← hcc]
  exact rfc_completes hp hr h rfl rfl (by rw [if_neg (by simp [ha, hd])]; rfl)

theorem rfc_failed (h : s.hasStack 1 1 = true) (he : s.reply.addrErr = true ∨ s.reply.dataErr = true) :
    let got := (s.asked (.channelRead (field (s.top 0) 3 29) b3)).noted s.reply
    CompletesAs (.rfc b3) s
      ((({ got with freeCtr := got.freeCtr + 1 } : State).pushed (Config.freeWord got.freeCtr)).setCC
          (channelCC s.reply)) :=
  rfc_completes hp hr h rfl rfl (by rw [if_pos (by simpa using he)]; rfl)

theorem wtc_answered (h : s.hasStack 2 0 = true) (hc : s.canPop 2 = true) :
    RunsKept (.wtc b3) s fun _ => writeAnswer (s.top 1) s.reply
      ((s.asked (.channelWrite (field (s.top 1) 3 29) (s.top 0) b3)).noted s.reply) :=
  (wtc_runs.ready hp hr).congr ((peekTwo_apply h hc).trans ((M.bind_ok mpbRequest_apply).trans
    (M.bind_ok (noteMpbErrors_apply _))))

theorem wtc_ends (h : s.hasStack 2 0 = true) (hc : s.canPop 2 = true)
    (he : bit (s.top 1) 0 = false ∨ s.reply.addrErr = true ∨ s.reply.dataErr = true) :
    let rq := MpbRequest.channelWrite (field (s.top 1) 3 29) (s.top 0) b3
    CompletesAs (.wtc b3) s ((((s.asked rq).noted s.reply).setCC (channelCC s.reply)).popped 2) := by
  refine (wtc_answered hp hr h hc).completes ?_ (done_plain _)
  unfold writeAnswer
  rw [if_neg (by obtain h | h | h := he <;> simp [h])]
  rfl

theorem wtc_found (h : s.hasStack 2 0 = true) (hc : s.canPop 2 = true) (hb : bit (s.top 1) 0 = true)
    (ha : s.reply.addrErr = false) (hd : s.reply.dataErr = false) (hm : bit s.MSG 12 = true) (hrun : s.run = .running) :
    let rq := MpbRequest.channelWrite (field (s.top 1) 3 29) (s.top 0) b3
    CompletesAs (.wtc b3) s
      ((({ (s.asked rq).noted s.reply with MSG := s.MSG &&& 0xFFF7FFFF#32 } : State).setCC 0b10#2).popped 2) := by
  intro rq
  have hw := wtc_answered (b3 := b3) hp hr h hc
  rw [State.noted_none ha hd] at hw ⊢
  have hu : ({ s.asked rq with MSG := s.MSG &&& 0xFFF7FFFF#32 } : State) =
      { s.asked rq with MSG := s.MSG &&& 0xFFF7FFFF#32, run := .running } :=
    congrArg (fun r => ({ s.asked rq with MSG := s.MSG &&& 0xFFF7FFFF#32, run := r } : State)) hrun
  have hm' : bit (s.asked rq).MSG 12 = true := hm
  refine hw.completes ?_ (done_plain _)
  unfold writeAnswer
  rw [if_pos (by simp [ha, hd, hb]), M.get_bind, if_pos hm', finishWait_apply, hu]
  rfl

theorem wtc_waits (h : s.hasStack 2 0 = true) (hc : s.canPop 2 = true) (hb : bit (s.top 1) 0 = true)
    (ha : s.reply.addrErr = false) (hd : s.reply.dataErr = false) (hm : bit s.MSG 12 = false) :
    let rq := MpbRequest.channelWrite (field (s.top 1) 3 29) (s.top 0) b3
    exec (.wtc b3) s = .next { (s.asked rq).noted s.reply with run := .channelWait, prevDup := false } := by
  intro rq
  have hw := wtc_answered (b3 := b3) hp hr h hc
  rw [State.noted_none ha hd] at hw ⊢
  have hm' : ¬ bit (s.asked rq).MSG 12 = true := Bool.eq_false_iff.1 hm
  rw [hw.body]
  refine runKeep16_stay (t := { s.asked rq with run := .channelWait }) ?_
  unfold writeAnswer
  rw [if_pos (by simp [ha, hd, hb]), M.get_bind, if_neg hm', M.modify_bind]
  rfl

end

/-! ## RSC, ALM and the end of the wait -/

section
variable {n : BitVec 8} {b3 : Bool}

theorem mpb_blocked (hp : s.privileged = true) (hr : s.mpbReady = false) :
    ∀ i ∈ [Instr.iow n, .ior n, .ioc n, .rfc b3, .wtc b3, .smsg b3], Raises i s .systemError (some 2#32) := by
  have key {i : Instr} {m : M End} (h : RunsKept i s (onMpb m)) : Raises i s .systemError (some 2#32) :=
    h.raises (onMpb_blocked hp hr)
  intro i hi
  simp only [List.mem_cons, List.not_mem_nil, or_false] at hi
  obtain rfl | rfl | rfl | rfl | rfl | rfl := hi
  exacts [key iow_runs, key ior_runs, key ioc_runs, key rfc_runs, key wtc_runs, key smsg_runs]

/-- The body of RSC (R580). -/
def pushSlaveData : M End :=
  requirePrivileged >>= fun _ => get >>= fun s => insist (!bit s.MSG 6) .slaveDataValid >>= fun _ =>
    push s.SAR >>= fun _ => push s.SDR >>= fun _ => pure done

theorem rsc_completes (hp : s.privileged = true) (h : s.hasStack 0 2 = true) (hm : bit s.MSG 6 = false) :
    CompletesAs .rsc s ((s.pushed s.SAR).pushed s.SDR) := by
  have hrun : RunsBody .rsc s pushSlaveData := ⟨rfl, nofun⟩
  refine hrun.completes ?_ (done_plain _)
  unfold pushSlaveData
  rw [requirePrivileged_bind, if_pos hp, M.get_bind, insist_bind, if_pos (by simp [hm]), M.bind_ok (push_room h),
    M.bind_ok (push_room (State.pushed_hasStack h)), M.pure_apply]

theorem alm_completes (hp : s.privileged = true) : CompletesAs (.alm b3) s { s with lockout := b3 } := by
  have hrun : RunsBody (.alm b3) s (requirePrivileged >>= fun _ =>
      (modify fun s => { s with lockout := b3 } : M PUnit) >>= fun _ => pure done) := ⟨rfl, nofun⟩
  exact hrun.completes ((requirePrivileged_bind ..).trans (if_pos hp)) (done_plain _)

theorem regained_waiting_MSG : ({ s with run := .channelWait } : State).regained.MSG = s.MSG := by
  rw [State.regained_mem]

/-- A CPU that waits in WTC waits on while MSG bit 12 is 0 (R578). -/
theorem channelWait_waits (h : bit s.MSG 12 = false) :
    cpuStep { s with run := .channelWait } = .next ({ s with run := .channelWait } : State).regained := by
  change channelWaitStep _ = _
  unfold channelWaitStep
  rw [regained_waiting_MSG, if_neg (by simp [h])]

/-- A CPU that waits in WTC completes it when MSG bit 12 is 1 (R578). -/
theorem channelWait_ends (h : bit s.MSG 12 = true) :
    let r := ({ s with run := .channelWait } : State).regained
    let u := (({ r with MSG := s.MSG &&& 0xFFF7FFFF#32, run := .running } : State).setCC 0b10#2).popped 2
    let t := { u with P := s.P + 2#32, prevDup := false }
    t.quiet = true → cpuStep { s with run := .channelWait } = .next (t.setEM true) := by
  intro r u t hq
  have hP : u.P = s.P := State.regained_P _
  have hu : finishWait r = .ok (done, u) := by
    have hM : r.MSG = s.MSG := regained_waiting_MSG
    rw [finishWait_apply, hM]
  have ht : t = { u with P := u.P + 2#32, prevDup := false } := by rw [hP]
  change channelWaitStep r = _
  unfold channelWaitStep
  rw [regained_waiting_MSG, if_pos h, runBody_ok hu]
  rw [ht] at hq ⊢
  exact conclude_ok (finish_quiet (t := u) rfl rfl rfl (by simp [done]) hq)

end

/-- Settles O38: the instructions that share the MPB by what they test, then each by its answer; RSC, ALM and the end of
the wait. -/
theorem channelAndMessageInstructions : Obligations.ChannelAndMessageInstructions := by
  refine ⟨fun s n b3 => ?_, fun s => ⟨fun h => State.regained_of_none (s := { s with run := .channelWait }) h,
    channelWait_waits, channelWait_ends⟩⟩
  intro a b r device iow ior ioc smsg rfc wtc primary cc got sent hp
  refine ⟨mpb_blocked hp, fun hr h => ⟨two_underflow hp hr h,
      one_underflow hp hr (State.hasStack_mono h (by omega) (by omega))⟩,
    fun hr h => ⟨rfc_accepted hp hr h, rfc_failed hp hr h⟩,
    fun hr h hc => ⟨ioc_sends hp hr h hc, ior_sends hp hr h hc, ior_timesOut hp hr h hc, smsg_sends hp hr h hc⟩,
    fun hr h hc => ⟨iow_sends hp hr h hc, wtc_ends hp hr h hc, wtc_found hp hr h hc, wtc_waits hp hr h hc⟩,
    rsc_completes hp, alm_completes hp⟩

end Sys2Proof.Machine

/-! The integer arithmetic and the logic instructions, on the words on top of the stack. -/

namespace Sys2Proof.Machine

/-! ## The ends that these instructions share -/

section
variable {s : State} {n k : Nat}

theorem replaceTwo_below {v : Word} (h : s.hasStack n k = true) (hn : 1 < n) :
    replaceTwo v s = .ok ((), (s.putTop 1 v).popped 1) := by
  unfold replaceTwo
  rw [M.bind_ok (poke_below h hn), dropWords_apply]

theorem pokeDouble_words {j : Nat} {d : DWord} (h : s.hasStack n k = true) (hj : 2 * j + 1 < n) :
    pokeDouble j d s = .ok ((), (s.putTop (2 * j + 1) (hiWord d)).putTop (2 * j) (loWord d)) := by
  have hj' : (s.putTop (2 * j + 1) (hiWord d)).hasStack n k = true := s.hasStack_putTop.trans h
  unfold pokeDouble
  rw [M.bind_ok (poke_below h hj), poke_below hj' (by omega)]

@[simp] theorem State.hasStack_noteOverflow {c : Bool} : (s.noteOverflow c).hasStack n k = s.hasStack n k := by
  unfold State.noteOverflow
  split
  · exact State.hasStack_congr rfl rfl
  · rfl

theorem State.overflow_noteOverflow (s : State) : (s.noteOverflow true).overflow = true := s.overflow_setO true

theorem State.overflow_noteExtended {v : Word} {ext : Bool} : (s.noteExtended v ext).overflow = s.overflow := by
  unfold State.noteExtended
  split
  · rfl
  · exact s.overflow_setCC _

theorem putCCExt_apply (v : Word) (ext : Bool) (s : State) :
    putCCExt v ext s = .ok (⟨⟩, s.noteExtended v ext) := by
  unfold putCCExt State.noteExtended
  rw [M.ite_apply]
  simp only [Bool.and_eq_true, beq_iff_eq]
  split <;> rfl

end

/-! ## Logic -/

section
variable {i : Instr} {s : State}

/-- AND, OR and XOR (R351 to R353). -/
theorem logicTwo_onStack {f : Word → Word → Word} (h : RunsBody i s (logicTwo f)) :
    let v := f (s.top 1) (s.top 0)
    OnStack i s 2 0 1 (((s.putTop 1 v).popped 1).setCC (ccWord v)) :=
  RunsOnStack.onStack (m := logicTwo f)
    (.peek (by omega) (.peek (by omega) (.checkPop (by omega) fun hs => M.bind_ok (replaceTwo_below hs (by omega)))))
    (done_plain _) h

end

/-- Settles O9: the instructions on two words, then those on the top word, which replace it as the shifts do. -/
theorem logicInstructionResults : Obligations.LogicInstructionResults := by
  refine ⟨fun s => ?_, fun s n => ?_⟩
  · exact ⟨logicTwo_onStack ⟨rfl, nofun⟩, rfl, logicTwo_onStack ⟨rfl, nofun⟩, rfl, logicTwo_onStack ⟨rfl, nofun⟩, rfl,
      shiftTop_onStack ⟨rfl, nofun⟩, rfl⟩
  · exact ⟨shiftTop_onStack (f := (· &&& n.setWidth 32)) ⟨rfl, nofun⟩, rfl,
      shiftTop_onStack (f := (· ||| n.setWidth 32)) ⟨rfl, nofun⟩, rfl,
      shiftTop_onStack (f := (· ^^^ n.setWidth 32)) ⟨rfl, nofun⟩, rfl⟩

/-! ## Sums and differences -/

section
variable {i : Instr} {s : State} {ext : Bool}

/-- What ADD and SUB leave of the result r (R321, R322). -/
def State.summedTwo (s : State) (r : Int) (ext : Bool) : State :=
  (((s.putTop 1 (wordOf r)).popped 1).noteOverflow (inexactWord r)).noteExtended (wordOf r) ext

theorem State.summedTwo_overflow {r : Int} (h : inexactWord r = true) : (s.summedTwo r ext).overflow = true := by
  rw [State.summedTwo, State.overflow_noteExtended, h, State.overflow_noteOverflow]

theorem arithResult_runs {r : Int} :
    RunsOnStack (arithResult r ext) s 2 0 1 (overflowEnd (inexactWord r) 0 1) (s.summedTwo r ext) := by
  refine .checkPop (by omega) fun hs => ?_
  rw [M.bind_ok (replaceTwo_below hs (by omega)), M.bind_ok (overflowIf_apply ..), overflows32_eq,
    M.bind_ok (putCCExt_apply ..), M.pure_apply]
  rfl

/-- What ADD, SUB and the one-word MPY have in common: f of the two top words replaces them (R321 to R323). -/
def arithTwo (f : Word → Word → Int) (ext : Bool) : M End :=
  peek 0 >>= fun a => peek 1 >>= fun b => arithResult (f a b) ext

theorem arithTwo_settingO {f : Word → Word → Int} (h : RunsBody i s (arithTwo f ext)) :
    let r := f (s.top 0) (s.top 1)
    OnStackSettingO i s 2 0 1 (s.summedTwo r ext) (inexactWord r) 0x01#32 := by
  intro r
  have hm : RunsOnStack (arithTwo f ext) s 2 0 1 (overflowEnd (inexactWord r) 0 1) (s.summedTwo r ext) :=
    .peek (by omega) (.peek (by omega) arithResult_runs)
  exact hm.settingO State.summedTwo_overflow h

theorem add_runs : RunsBody (.add ext) s (arithTwo (fun a b => b.toInt + a.toInt + ofFlag (ext && s.carry)) ext) :=
  .of_get (fun s => arithTwo (fun a b => b.toInt + a.toInt + ofFlag (ext && s.carry)) ext) ⟨rfl, nofun⟩

theorem sub_runs : RunsBody (.sub ext) s (arithTwo (fun a b => b.toInt - a.toInt - ofFlag (ext && !s.carry)) ext) :=
  .of_get (fun s => arithTwo (fun a b => b.toInt - a.toInt - ofFlag (ext && !s.carry)) ext) ⟨rfl, nofun⟩

/-- What LADD and LSUB leave of the word v and the carry c (R328, R329). -/
def State.logicalTwo (s : State) (v : Word) (c ext : Bool) : State :=
  let t := ((s.putTop 1 v).popped 1).setCarry c
  if v ≠ 0#32 then t.setCC ccG else if ext then t else t.setCC ccE

theorem logicalResult_runs {v : Word} {c : Bool} :
    RunsOnStack (logicalResult v c ext) s 2 0 1 done (s.logicalTwo v c ext) := by
  refine .checkPop (by omega) fun hs => ?_
  rw [M.bind_ok (replaceTwo_below hs (by omega)), M.modify_bind]
  unfold State.logicalTwo
  cases ext <;> by_cases hv : v = 0#32 <;> simp [hv]

/-- LADD (R328). -/
theorem ladd_onStack :
    let r := (s.top 1).toNat + (s.top 0).toNat + if ext && s.carry then 1 else 0
    OnStack (.ladd ext) s 2 0 1 (s.logicalTwo (BitVec.ofNat 32 r) (decide (2 ^ 32 ≤ r)) ext) := by
  intro r
  have hr : ((s.top 1).toNat : Int) + (s.top 0).toNat + ofFlag (ext && s.carry) = (r : Int) := by
    simp [r, ofFlag]
  have hv : wordOf r = BitVec.ofNat 32 r := BitVec.ofInt_natCast ..
  have hc : decide (4294967296 ≤ (r : Int)) = decide (2 ^ 32 ≤ r) := decide_eq_decide.2 (by omega)
  rw [← hv, ← hc, ← hr]
  exact RunsOnStack.onStack (.peek (by omega) (.peek (by omega) logicalResult_runs)) (done_plain _)
    (.of_get (fun s => peek 0 >>= fun a => peek 1 >>= fun b =>
      let r : Int := b.toNat + a.toNat + ofFlag (ext && s.carry)
      logicalResult (wordOf r) (decide (4294967296 ≤ r)) ext) ⟨rfl, nofun⟩)

/-- LSUB, whose Carry is the complement of the borrow (R329). -/
theorem lsub_onStack :
    let borrow := ofFlag (ext && !s.carry)
    OnStack (.lsub ext) s 2 0 1 (s.logicalTwo (wordOf (((s.top 1).toNat : Int) - (s.top 0).toNat - borrow))
      (decide ((s.top 0).toNat + borrow ≤ (s.top 1).toNat)) ext) := by
  intro borrow
  have hc : decide (0 ≤ ((s.top 1).toNat : Int) - (s.top 0).toNat - borrow) =
      decide ((s.top 0).toNat + borrow ≤ (s.top 1).toNat) := decide_eq_decide.2 (by omega)
  rw [← hc]
  exact RunsOnStack.onStack (.peek (by omega) (.peek (by omega) logicalResult_runs)) (done_plain _)
    (.of_get (fun s => peek 0 >>= fun a => peek 1 >>= fun b =>
      let r : Int := (b.toNat : Int) - a.toNat - ofFlag (ext && !s.carry)
      logicalResult (wordOf r) (decide (0 ≤ r)) ext) ⟨rfl, nofun⟩)

end

/-- Settles O6: ADD and SUB by their common end, then LADD and LSUB. -/
theorem addAndSubtractResults : Obligations.AddAndSubtractResults := by
  refine ⟨fun s ext => ?_, fun s ext => ⟨ladd_onStack, lsub_onStack⟩⟩
  exact ⟨arithTwo_settingO (f := fun a b => b.toInt + a.toInt + ofFlag (ext && s.carry)) add_runs,
    arithTwo_settingO (f := fun a b => b.toInt - a.toInt - ofFlag (ext && !s.carry)) sub_runs⟩

/-! ## The top word -/

section
variable {i : Instr} {s : State}

/-- What the instructions on the top word leave of the result r (R326, R332 to R335, R339). -/
def State.replacedTop (s : State) (r : Int) : State :=
  ((s.putTop 0 (wordOf r)).noteOverflow (inexactWord r)).setCC (ccWord (wordOf r))

theorem State.replacedTop_overflow {r : Int} (h : inexactWord r = true) : (s.replacedTop r).overflow = true := by
  rw [State.replacedTop, State.overflow_setCC, h, State.overflow_noteOverflow]

theorem arithTop_runs {r : Int} :
    RunsOnStack (arithTop r) s 1 0 0 (overflowEnd (inexactWord r) 0 1) (s.replacedTop r) := by
  refine .keeping fun hs => ?_
  unfold arithTop
  rw [M.bind_ok (poke_below hs (by omega)), M.bind_ok (overflowIf_apply ..), overflows32_eq]
  rfl

theorem arithTop_settingO {f : Word → Int} (h : RunsBody i s (peek 0 >>= fun a => arithTop (f a))) :
    let r := f (s.top 0)
    OnStackSettingO i s 1 0 0 (s.replacedTop r) (inexactWord r) 0x01#32 := by
  intro r
  have hm : RunsOnStack (peek 0 >>= fun a => arithTop (f a)) s 1 0 0 (overflowEnd (inexactWord r) 0 1)
      (s.replacedTop r) := .peek (by omega) arithTop_runs
  exact hm.settingO State.replacedTop_overflow h

theorem adxa_runs : RunsBody .adxa s (peek 0 >>= fun a => arithTop (a.toInt + s.X.toInt)) :=
  .of_get (fun s => peek 0 >>= fun a => arithTop (a.toInt + s.X.toInt)) ⟨rfl, nofun⟩

/-- A word that has sixteen bits is one whose seventeen leftmost bits are equal (R350). -/
theorem field_sign_ne (a : Word) :
    (field a 0 17 != 0 && field a 0 17 != 0x1FFFF#17) = (decide (a.toInt < -32768) || decide (32767 < a.toInt)) := by
  have hf : (field a 0 17).toNat = a.toNat / 2 ^ 15 := by
    rw [field, BitVec.extractLsb'_toNat, Nat.shiftRight_eq_div_pow]
    omega
  have ha : a.toInt = if a.toNat < 2 ^ 31 then (a.toNat : Int) else a.toNat - 2 ^ 32 := by
    rw [BitVec.toInt_eq_toNat_cond]
    split_ifs <;> omega
  rw [Bool.eq_iff_iff]
  simp only [Bool.and_eq_true, bne_iff_ne, Bool.or_eq_true, decide_eq_true_eq, ne_eq, ← BitVec.toNat_inj, hf,
    BitVec.toNat_ofNat, BitVec.ofNat_eq_ofNat, ha]
  split_ifs <;> omega

/-- ISC (R350). -/
theorem isc_settingO :
    let long := decide ((s.top 0).toInt < -32768) || decide (32767 < (s.top 0).toInt)
    OnStackSettingO .isc s 1 0 0 ((s.noteOverflow long).setCC (ccWord (s.top 0))) long 0x00#32 := by
  intro long
  have hm : RunsOnStack (peek 0 >>= fun a => overflowIf (field a 0 17 != 0 && field a 0 17 != 0x1FFFF#17) 0 0 >>=
      fun e => putCC (ccWord a) >>= fun _ => pure e) s 1 0 0 (overflowEnd long 0 0)
      ((s.noteOverflow long).setCC (ccWord (s.top 0))) := by
    refine .peek (by omega) (.keeping fun _ => ?_)
    rw [field_sign_ne, M.bind_ok (overflowIf_apply ..), putCC_bind, M.pure_apply]
  refine hm.settingO (fun hl => ?_) ⟨rfl, nofun⟩
  rw [State.overflow_setCC, hl, State.overflow_noteOverflow]

end

/-- Settles O7: the instructions that end in `arithTop`, by their results, and ISC. -/
theorem topWordArithmeticResults : Obligations.TopWordArithmeticResults := by
  intro s n
  exact ⟨arithTop_settingO (f := fun a => -a.toInt) ⟨rfl, nofun⟩,
    arithTop_settingO (f := fun a => a.toInt + n.toNat) ⟨rfl, nofun⟩,
    arithTop_settingO (f := fun a => a.toInt - n.toNat) ⟨rfl, nofun⟩,
    arithTop_settingO (f := fun a => a.toInt * n.toNat) ⟨rfl, nofun⟩,
    arithTop_settingO (f := fun a => a.toInt + s.X.toInt) adxa_runs, isc_settingO⟩

/-! ## Products -/

section
variable {s : State}

/-- A doubleword in place of the two top words, with CC (R323, R330). -/
theorem pokeDouble_runs {d : DWord} {cc : BitVec 2} :
    RunsOnStack (pokeDouble 0 d >>= fun _ => putCC cc >>= fun _ => pure done) s 2 0 0 done
      (((s.putTop 1 (hiWord d)).putTop 0 (loWord d)).setCC cc) :=
  .keeping fun hs => M.bind_ok (pokeDouble_words hs (by omega))

/-- MPY of two words to one (R323). -/
theorem mpy_settingO :
    let p := (s.top 1).toInt * (s.top 0).toInt
    OnStackSettingO (.mpy false) s 2 0 1 (s.summedTwo p false) (inexactWord p) 0x01#32 :=
  arithTwo_settingO (f := fun a b => b.toInt * a.toInt) ⟨rfl, nofun⟩

/-- MPY of two words to a doubleword (R323). -/
theorem mpy_onStack :
    let p := (s.top 1).toInt * (s.top 0).toInt
    OnStack (.mpy true) s 2 0 0
      (((s.putTop 1 (hiWord (BitVec.ofInt 64 p))).putTop 0 (loWord (BitVec.ofInt 64 p))).setCC (ccCompare p 0)) :=
  RunsOnStack.onStack (.peek (by omega) (.peek (by omega) pokeDouble_runs)) (done_plain _) ⟨rfl, nofun⟩

theorem hiWord_ofNat (q : Nat) : hiWord (BitVec.ofNat 64 q) = BitVec.ofNat 32 (q / 2 ^ 32) := by
  refine BitVec.eq_of_toNat_eq ?_
  rw [hiWord, BitVec.extractLsb'_toNat, Nat.shiftRight_eq_div_pow, BitVec.toNat_ofNat, BitVec.toNat_ofNat]
  omega

theorem loWord_ofNat (q : Nat) : loWord (BitVec.ofNat 64 q) = BitVec.ofNat 32 q := by
  refine BitVec.eq_of_toNat_eq ?_
  rw [loWord, BitVec.extractLsb'_toNat, Nat.shiftRight_eq_div_pow, BitVec.toNat_ofNat, BitVec.toNat_ofNat]
  omega

theorem ofNat_eq_zero {q : Nat} (h : q < 2 ^ 64) : BitVec.ofNat 64 q = 0#64 ↔ q = 0 := by
  rw [← BitVec.toNat_inj, BitVec.toNat_ofNat, Nat.mod_eq_of_lt h]
  rfl

/-- LMPY (R330). -/
theorem lmpy_onStack :
    let q := (s.top 1).toNat * (s.top 0).toNat
    OnStack .lmpy s 2 0 0
      (((s.putTop 1 (BitVec.ofNat 32 (q / 2 ^ 32))).putTop 0 (BitVec.ofNat 32 q)).setCC
        (if q = 0 then ccE else ccG)) := by
  intro q
  have hq : q < 2 ^ 64 := calc
    q < 2 ^ 32 * 2 ^ 32 := Nat.mul_lt_mul'' (s.top 1).isLt (s.top 0).isLt
    _ = 2 ^ 64 := rfl
  have hcc : ccUnsigned (BitVec.ofNat 64 q != 0) = if q = 0 then ccE else ccG := by
    by_cases h : q = 0 <;> simp [ccUnsigned, ofNat_eq_zero hq, h]
  rw [← hiWord_ofNat, ← loWord_ofNat, ← hcc]
  exact RunsOnStack.onStack (.peek (by omega) (.peek (by omega) pokeDouble_runs)) (done_plain _) ⟨rfl, nofun⟩

end

/-! ## Quotients -/

section
variable {n d q r : Int} {pos : Bool}

/-- The remainder of 0 is 0. -/
theorem remainder_eq_zero (h : 0 = q * d + r) (hr : |r| < |d|) : r = 0 := by
  have hd : d ∣ r := ⟨-q, by linarith⟩
  exact Int.eq_zero_of_abs_lt_dvd ((abs_dvd d r).2 hd) hr

/-- The quotient and the remainder are the only ones with a remainder of their kind (R324). -/
theorem divide_eq (hd : d ≠ 0) (h : n = q * d + r) (hr : |r| < |d|) (hs : if pos then 0 ≤ r else 0 ≤ r * n) :
    divide n d pos = (q, r) := by
  have hn : r + d * q = n := by linarith
  suffices hu : (divide n d pos).1 = q ∧ (divide n d pos).2 = r from Prod.ext hu.1 hu.2
  cases pos
  · rw [if_neg Bool.false_ne_true] at hs
    have hr' : (r.natAbs : Int) < d.natAbs := by rwa [← Int.abs_eq_natAbs, ← Int.abs_eq_natAbs]
    obtain h0 | rfl | h0 := Int.lt_trichotomy n 0
    · have hr0 : r ≤ 0 := not_lt.1 fun hc => absurd hs (not_le.2 (mul_neg_of_pos_of_neg hc h0))
      exact (Int.tdiv_tmod_unique' h0.le hd).2 ⟨hn, by omega, hr0⟩
    · have hr0 := remainder_eq_zero h hr
      exact (Int.tdiv_tmod_unique le_rfl hd).2 ⟨hn, hr0.ge, by omega⟩
    · have hr0 : 0 ≤ r := not_lt.1 fun hc => absurd hs (not_le.2 (mul_neg_of_neg_of_pos hc h0))
      exact (Int.tdiv_tmod_unique h0.le hd).2 ⟨hn, hr0, by omega⟩
  · rw [if_pos rfl] at hs
    exact (Int.ediv_emod_unique'' hd).2 ⟨hn, hs, (le_abs_self r).trans_lt hr⟩

theorem divide_natAbs_le (n d : Int) (pos : Bool) : (divide n d pos).1.natAbs ≤ n.natAbs := by
  cases pos
  · exact Int.natAbs_tdiv_le_natAbs n d
  · have := Int.abs_ediv_le_abs n d
    rw [Int.abs_eq_natAbs, Int.abs_eq_natAbs] at this
    exact Int.ofNat_le.1 this


/-- A quotient fits when it is not too large, since none is too small (R324). -/
theorem long_of_natAbs_le {v : DWord} (h : q.natAbs ≤ v.toInt.natAbs) :
    decide (9223372036854775807 < q) = decide ((BitVec.ofInt 64 q).toInt ≠ q) := by
  have hv := BitVec.two_mul_toInt_lt (x := v)
  have hv' := BitVec.le_two_mul_toInt (x := v)
  rw [decide_eq_decide, BitVec.toInt_ofInt]
  simp only [Int.bmod]
  omega

theorem inexactWord_of_natAbs_le {v : Word} (h : q.natAbs ≤ v.toInt.natAbs) :
    decide (2147483647 < q) = inexactWord q := by
  have hv := BitVec.two_mul_toInt_lt (x := v)
  have hv' := BitVec.le_two_mul_toInt (x := v)
  rw [← overflows32_eq, overflows32, ← Bool.decide_or, decide_eq_decide]
  omega

end

section
variable {s : State} {pos : Bool} {q r : Int} {n : BitVec 8}

/-- A divisor of 0 sets O and ends the instruction (R324, R325, R335). -/
theorem overflowIf_true_runs {n k kind type : Nat} :
    RunsOnStack (overflowIf true kind type) s n k 0 (overflowEnd true kind type) (s.setO true) :=
  .keeping fun _ => overflowIf_apply true kind type s

/-- DIV with a quotient and a remainder: O, the three words, and CC (R324). -/
def leaveDouble (q r : Int) : M End :=
  overflowIf (decide (9223372036854775807 < q)) 0 4 >>= fun e =>
    poke 2 (hiWord (BitVec.ofInt 64 q)) >>= fun _ => poke 1 (loWord (BitVec.ofInt 64 q)) >>= fun _ =>
      poke 0 (wordOf r) >>= fun _ => putCC (ccDouble (BitVec.ofInt 64 q)) >>= fun _ => pure e

theorem leaveDouble_runs {c : Bool} (hc : decide (9223372036854775807 < q) = c) :
    RunsOnStack (leaveDouble q r) s 3 0 0 (overflowEnd c 0 4)
      (((((s.noteOverflow c).putTop 2 (hiWord (BitVec.ofInt 64 q))).putTop 1 (loWord (BitVec.ofInt 64 q))).putTop 0
        (wordOf r)).setCC (ccDouble (BitVec.ofInt 64 q))) := by
  refine .keeping fun hs => ?_
  have h0 : (s.noteOverflow c).hasStack 3 0 = true := State.hasStack_noteOverflow.trans hs
  unfold leaveDouble
  rw [hc, M.bind_ok (overflowIf_apply ..), M.bind_ok (poke_below h0 (by omega)),
    M.bind_ok (poke_below (State.hasStack_putTop.trans h0) (by omega)),
    M.bind_ok (poke_below (State.hasStack_putTop.trans (State.hasStack_putTop.trans h0)) (by omega)), putCC_bind,
    M.pure_apply]

theorem div_runs : RunsBody (.div pos) s (peek 0 >>= fun a => peek 1 >>= fun lo => peek 2 >>= fun hi =>
    if a = 0#32 then overflowIf true 2 4
    else leaveDouble (divide (dword hi lo).toInt a.toInt pos).1 (divide (dword hi lo).toInt a.toInt pos).2) :=
  ⟨rfl, nofun⟩

theorem toInt_ne_zero {a : Word} (h : a ≠ 0#32) : a.toInt ≠ 0 := fun h0 => h (BitVec.toInt_inj.1 h0)

/-- DIV by 0 (R324). -/
theorem div_zero_settingO (h : s.top 0 = 0#32) : OnStackSettingO (.div pos) s 3 0 0 (s.setO true) true 0x24#32 := by
  refine RunsOnStack.settingO (kind := 2) (type := 4) (.peek (by omega) (.peek (by omega) (.peek (by omega) ?_)))
    (fun _ => s.overflow_setO true) div_runs
  rw [if_pos h]
  exact overflowIf_true_runs

/-- DIV (R324). -/
theorem div_settingO (h : s.top 0 ≠ 0#32) (hn : (s.top 2 ++ s.top 1).toInt = q * (s.top 0).toInt + r)
    (hr : |r| < |(s.top 0).toInt|) (hs : if pos then 0 ≤ r else 0 ≤ r * (s.top 2 ++ s.top 1).toInt) :
    let c := decide ((BitVec.ofInt 64 q).toInt ≠ q)
    OnStackSettingO (.div pos) s 3 0 0
      (((((s.noteOverflow c).putTop 2 (hiWord (BitVec.ofInt 64 q))).putTop 1 (loWord (BitVec.ofInt 64 q))).putTop 0
        (wordOf r)).setCC (ccDouble (BitVec.ofInt 64 q))) c 0x04#32 := by
  intro c
  have hqr : divide (dword (s.top 2) (s.top 1)).toInt (s.top 0).toInt pos = (q, r) :=
    divide_eq (toInt_ne_zero h) hn hr hs
  have hq := divide_natAbs_le (dword (s.top 2) (s.top 1)).toInt (s.top 0).toInt pos
  rw [hqr] at hq
  refine RunsOnStack.settingO (kind := 0) (type := 4) (.peek (by omega) (.peek (by omega) (.peek (by omega) ?_)))
    (fun hc => ?_) div_runs
  · rw [if_neg h, hqr]
    exact leaveDouble_runs (long_of_natAbs_le hq)
  · rw [hc]
    exact (State.overflow_setCC _ _).trans s.overflow_noteOverflow

/-- DIVS with a quotient and a remainder: O, the two words, and CC (R325). -/
def leaveSingle (q r : Int) : M End :=
  overflowIf (decide (2147483647 < q)) 0 1 >>= fun e =>
    poke 1 (wordOf q) >>= fun _ => poke 0 (wordOf r) >>= fun _ => putCC (ccWord (wordOf q)) >>= fun _ => pure e

theorem leaveSingle_runs {c : Bool} (hc : decide (2147483647 < q) = c) :
    RunsOnStack (leaveSingle q r) s 2 0 0 (overflowEnd c 0 1)
      ((((s.noteOverflow c).putTop 1 (wordOf q)).putTop 0 (wordOf r)).setCC (ccWord (wordOf q))) := by
  refine .keeping fun hs => ?_
  have h0 : (s.noteOverflow c).hasStack 2 0 = true := State.hasStack_noteOverflow.trans hs
  unfold leaveSingle
  rw [hc, M.bind_ok (overflowIf_apply ..), M.bind_ok (poke_below h0 (by omega)),
    M.bind_ok (poke_below (State.hasStack_putTop.trans h0) (by omega)), putCC_bind, M.pure_apply]

theorem divs_runs : RunsBody (.divs pos) s (peek 0 >>= fun a => peek 1 >>= fun b =>
    if a = 0#32 then overflowIf true 2 1
    else leaveSingle (divide b.toInt a.toInt pos).1 (divide b.toInt a.toInt pos).2) := ⟨rfl, nofun⟩

/-- DIVS by 0 (R325). -/
theorem divs_zero_settingO (h : s.top 0 = 0#32) : OnStackSettingO (.divs pos) s 2 0 0 (s.setO true) true 0x21#32 := by
  refine RunsOnStack.settingO (kind := 2) (type := 1) (.peek (by omega) (.peek (by omega) ?_))
    (fun _ => s.overflow_setO true) divs_runs
  rw [if_pos h]
  exact overflowIf_true_runs

/-- DIVS (R325). -/
theorem divs_settingO (h : s.top 0 ≠ 0#32) (hn : (s.top 1).toInt = q * (s.top 0).toInt + r)
    (hr : |r| < |(s.top 0).toInt|) (hs : if pos then 0 ≤ r else 0 ≤ r * (s.top 1).toInt) :
    OnStackSettingO (.divs pos) s 2 0 0
      ((((s.noteOverflow (inexactWord q)).putTop 1 (wordOf q)).putTop 0 (wordOf r)).setCC (ccWord (wordOf q)))
      (inexactWord q) 0x01#32 := by
  have hqr : divide (s.top 1).toInt (s.top 0).toInt pos = (q, r) := divide_eq (toInt_ne_zero h) hn hr hs
  have hq := divide_natAbs_le (s.top 1).toInt (s.top 0).toInt pos
  rw [hqr] at hq
  refine RunsOnStack.settingO (kind := 0) (type := 1) (.peek (by omega) (.peek (by omega) ?_)) (fun hc => ?_) divs_runs
  · rw [if_neg h, hqr]
    exact leaveSingle_runs (inexactWord_of_natAbs_le hq)
  · rw [hc]
    exact (State.overflow_setCC _ _).trans s.overflow_noteOverflow

theorem divi_runs : RunsBody (.divi n) s
    (peek 0 >>= fun a => if n = 0 then overflowIf true 2 1 else arithTop (a.toInt.tdiv n.toNat)) := ⟨rfl, nofun⟩

/-- DIVI by 0 (R335). -/
theorem divi_zero_settingO : OnStackSettingO (.divi 0) s 1 0 0 (s.setO true) true 0x21#32 := by
  refine RunsOnStack.settingO (kind := 2) (type := 1) (.peek (by omega) ?_) (fun _ => s.overflow_setO true) divi_runs
  rw [if_pos rfl]
  exact overflowIf_true_runs

/-- The quotient by a positive number is not too large (R335). -/
theorem quotient_le {a d : Int} (hd : 0 < d) (h : a = q * d + r) (hr : |r| < d) (ha : a ≤ 2147483647) :
    q ≤ 2147483647 := by
  have hr' := (abs_lt.1 hr).1
  by_contra hq
  have hmul : q - 1 ≤ (q - 1) * d := le_mul_of_one_le_right (by omega) hd
  linarith

/-- DIVI (R335). -/
theorem divi_onStack (h : n ≠ 0) (hn : (s.top 0).toInt = q * n.toNat + r) (hr : |r| < n.toNat)
    (hs : 0 ≤ r * (s.top 0).toInt) : OnStack (.divi n) s 1 0 0 ((s.putTop 0 (wordOf q)).setCC (ccWord (wordOf q))) := by
  have hd : (n.toNat : Int) ≠ 0 := fun h0 => h (BitVec.toNat_inj.1 (Int.ofNat_inj.1 h0))
  have hqr : divide (s.top 0).toInt n.toNat false = (q, r) := divide_eq hd hn (by rwa [Nat.abs_cast]) hs
  have hq : (s.top 0).toInt.tdiv n.toNat = q := congrArg Prod.fst hqr
  have hf : inexactWord q = false := by
    have hle := divide_natAbs_le (s.top 0).toInt n.toNat false
    rw [hqr] at hle
    have ha := BitVec.two_mul_toInt_lt (x := s.top 0)
    rw [← inexactWord_of_natAbs_le hle, decide_eq_false_iff_not, Int.not_lt]
    exact quotient_le (by omega) hn hr (by omega)
  have hm := arithTop_runs (s := s) (r := q)
  rw [State.replacedTop, hf] at hm
  refine RunsOnStack.onStack (.peek (by omega) ?_) (overflowEnd_plain false 0 1 _) divi_runs
  rw [if_neg h, hq]
  exact hm

end

/-- Settles O8: the products, then the quotients of each instruction with a divisor of 0 and with another one. -/
theorem multiplyAndDivideResults : Obligations.MultiplyAndDivideResults :=
  ⟨fun _ => ⟨mpy_settingO, mpy_onStack, lmpy_onStack⟩, fun _ _ _ =>
    ⟨fun h => ⟨div_zero_settingO h, divs_zero_settingO h⟩, fun h _ _ => div_settingO h, fun h _ _ => divs_settingO h,
      divi_zero_settingO, fun h _ _ => divi_onStack h⟩⟩

end Sys2Proof.Machine

/-! Floating-point numbers as rationals, and the results that are exact (spec/43_float_decimal.md R390, R392). -/

namespace Sys2Proof.Machine

/-! ## Powers of two -/

theorem two_zpow_eq_div (k : Int) : (2 : ℚ) ^ k = 2 ^ k.toNat / 2 ^ (-k).toNat := by
  obtain ⟨n, rfl | rfl⟩ := k.eq_nat_or_neg
  · simp
  · simp

/-- A fraction scaled by a power of two, as the integers that the model divides. -/
theorem scaled_div (num den : Nat) (k : Int) :
    ((num * 2 ^ k.toNat : Nat) : ℚ) / (den * 2 ^ (-k).toNat : Nat) = num / den * 2 ^ k := by
  rw [two_zpow_eq_div]
  push_cast
  exact mul_div_mul_comm ..

/-! ## The number that an exact number is -/

section
variable {d : Dyadic} {f : FloatFormat} {u : Unpacked}

/-- The rational number (R390). -/
def Dyadic.toRat (d : Dyadic) : ℚ := d.mant * 2 ^ d.exp

theorem FloatFormat.rat_eq_toRat : f.rat u = (f.value u).toRat := by
  unfold FloatFormat.rat FloatFormat.value Dyadic.toRat
  cases u.neg <;> split_ifs <;> push_cast <;> ring

theorem Dyadic.den_pos : 0 < d.den := Nat.two_pow_pos _

theorem Dyadic.num_div_den : (d.num : ℚ) / d.den = |d.toRat| := by
  unfold Dyadic.num Dyadic.den Dyadic.toRat
  rw [abs_mul, abs_of_pos (zpow_pos two_pos d.exp : (0 : ℚ) < 2 ^ d.exp), two_zpow_eq_div, Nat.cast_mul, mul_div_assoc,
    Nat.cast_natAbs, Int.cast_abs]
  push_cast
  rfl

theorem Dyadic.toRat_neg_iff : d.toRat < 0 ↔ d.mant < 0 := by
  unfold Dyadic.toRat
  have hp : (0 : ℚ) < 2 ^ d.exp := zpow_pos two_pos _
  have h := mul_lt_mul_iff_left₀ (b := (d.mant : ℚ)) (c := 0) hp
  rw [zero_mul] at h
  exact h.trans Int.cast_lt_zero

theorem Dyadic.toRat_eq_zero_iff : d.toRat = 0 ↔ d.mant = 0 := by
  unfold Dyadic.toRat
  rw [mul_eq_zero_iff_right (zpow_ne_zero d.exp two_ne_zero), Int.cast_eq_zero]

theorem Dyadic.num_eq_zero_iff : d.num = 0 ↔ d.mant = 0 := by
  unfold Dyadic.num
  simp

/-- The integer part of a magnitude is a floor (R409). -/
theorem Dyadic.integerPart_eq (half : Bool) :
    (d.integerPart half : Int) = ⌊|d.toRat| + (if half then 1 / 2 else 0)⌋ := by
  have hd : (d.den : ℚ) ≠ 0 := Nat.cast_ne_zero.2 d.den_pos.ne'
  rw [← Dyadic.num_div_den]
  unfold Dyadic.integerPart
  cases half
  · rw [if_neg Bool.false_ne_true, if_neg Bool.false_ne_true, add_zero, Rat.floor_natCast_div_natCast]
    rfl
  · have e : (d.num : ℚ) / d.den + 1 / 2 = ((2 * d.num + d.den : Nat) : ℚ) / (2 * d.den : Nat) := by
      push_cast
      field_simp
    rw [if_pos rfl, if_pos rfl, e, Rat.floor_natCast_div_natCast]
    rfl

theorem Dyadic.fix_eq (half : Bool) :
    d.fix half = (if d.toRat < 0 then -1 else 1) * ⌊|d.toRat| + (if half then 1 / 2 else 0)⌋ := by
  unfold Dyadic.fix
  rw [d.integerPart_eq, if_congr d.toRat_neg_iff rfl rfl]
  split_ifs <;> ring

end

/-! ## The sign and the class of a number -/

section
variable {f : FloatFormat} {u : Unpacked}

theorem FloatFormat.abs_rat (h : u.exponent ≠ 0) :
    |f.rat u| = (2 ^ f.fracBits + u.fraction : Nat) * (2 : ℚ) ^ ((u.exponent : Int) - f.bias - f.fracBits) := by
  unfold FloatFormat.rat
  have hs : |(if u.neg then -1 else 1 : ℚ)| = 1 := by split <;> simp
  have hm : (0 : ℚ) ≤ 2 ^ f.fracBits + u.fraction := by positivity
  rw [if_neg h, abs_mul, abs_mul, hs, abs_of_nonneg hm, abs_of_pos (zpow_pos two_pos _), one_mul]
  push_cast
  rfl

theorem FloatFormat.rat_eq_zero_iff : f.rat u = 0 ↔ u.exponent = 0 := by
  constructor
  · intro h
    by_contra he
    have hp : (0 : ℚ) < (2 ^ f.fracBits + u.fraction : Nat) * (2 : ℚ) ^ ((u.exponent : Int) - f.bias - f.fracBits) := by
      positivity
    rw [← FloatFormat.abs_rat he, h, abs_zero] at hp
    exact hp.false
  · intro h
    unfold FloatFormat.rat
    rw [if_pos h, mul_zero, zero_mul]

theorem FloatFormat.rat_neg_iff (h : f.rat u ≠ 0) : f.rat u < 0 ↔ u.neg = true := by
  have he : u.exponent ≠ 0 := fun he => h (FloatFormat.rat_eq_zero_iff.2 he)
  have hm : 0 < 2 ^ f.fracBits + u.fraction := Nat.add_pos_left (Nat.two_pow_pos _) _
  rw [FloatFormat.rat_eq_toRat, Dyadic.toRat_neg_iff]
  unfold FloatFormat.value
  rw [if_neg he]
  generalize 2 ^ f.fracBits + u.fraction = m at hm
  cases u.neg
  · simp
  · simpa using hm

/-- A usable number that stands for 0 is a zero (R390, R391). -/
theorem FloatFormat.classify_of_usable (hu : f.usable u = true) (h : f.rat u = 0) : f.classify u = .zero := by
  have he := FloatFormat.rat_eq_zero_iff.1 h
  unfold FloatFormat.usable FloatFormat.classify at hu
  unfold FloatFormat.classify
  rw [if_pos he] at hu ⊢
  split_ifs at hu ⊢
  · rfl
  · cases hu

theorem FloatFormat.fields_of_zero (h : f.classify u = .zero) : u.exponent = 0 ∧ u.fraction = 0 := by
  unfold FloatFormat.classify at h
  split_ifs at h with he hf
  exact ⟨he, hf⟩

theorem FloatFormat.eq_of_zero (h : f.classify u = .zero) : u = { neg := u.neg, exponent := 0, fraction := 0 } := by
  obtain ⟨neg, exponent, fraction⟩ := u
  obtain ⟨rfl, rfl⟩ := FloatFormat.fields_of_zero h
  rfl

/-- CC of a number is that of its value (R390). -/
theorem FloatFormat.ccFloat_eq (h : f.rat u = 0 → f.classify u = .zero) :
    f.ccFloat u = if f.rat u < 0 then ccL else if f.rat u = 0 then ccE else ccG := by
  unfold FloatFormat.ccFloat
  by_cases h0 : f.rat u = 0
  · rw [if_pos (h h0), if_neg (by rw [h0]; exact lt_irrefl 0), if_pos h0]
  · have hz : f.classify u ≠ .zero := fun hz => h0 (FloatFormat.rat_eq_zero_iff.2 (FloatFormat.fields_of_zero hz).1)
    rw [if_neg hz, if_neg h0]
    exact if_congr (FloatFormat.rat_neg_iff h0).symm rfl rfl

end

/-! ## Rounding -/

section
variable {num den : Nat}

/-- The exponent of the leading bit of a fraction (R392). -/
theorem binaryExponent_bounds (hn : num ≠ 0) (hd : den ≠ 0) :
    (2 : ℚ) ^ binaryExponent num den ≤ num / den ∧ (num : ℚ) / den < 2 ^ (binaryExponent num den + 1) := by
  have hd' : (0 : ℚ) < den := Nat.cast_pos.2 (Nat.pos_of_ne_zero hd)
  have hn1 : (2 : ℚ) ^ (num.log2 : Int) ≤ num := by exact_mod_cast Nat.log2_self_le hn
  have hn2 : (num : ℚ) < 2 ^ ((num.log2 : Int) + 1) := by exact_mod_cast Nat.lt_log2_self
  have hd1 : (2 : ℚ) ^ (den.log2 : Int) ≤ den := by exact_mod_cast Nat.log2_self_le hd
  have hd2 : (den : ℚ) < 2 ^ ((den.log2 : Int) + 1) := by exact_mod_cast Nat.lt_log2_self
  set e : Int := (num.log2 : Int) - den.log2 with he
  have hlow : (2 : ℚ) ^ (e - 1) ≤ num / den := by
    rw [le_div_iff₀ hd']
    calc (2 : ℚ) ^ (e - 1) * den ≤ 2 ^ (e - 1) * 2 ^ ((den.log2 : Int) + 1) := by gcongr
      _ = 2 ^ (num.log2 : Int) := by rw [← zpow_add₀ two_ne_zero]; congr 1; omega
      _ ≤ num := hn1
  have hhigh : (num : ℚ) / den < 2 ^ (e + 1) := by
    rw [div_lt_iff₀ hd']
    calc (num : ℚ) < 2 ^ ((num.log2 : Int) + 1) := hn2
      _ = 2 ^ (e + 1) * 2 ^ (den.log2 : Int) := by rw [← zpow_add₀ two_ne_zero]; congr 1; omega
      _ ≤ 2 ^ (e + 1) * den := by gcongr
  have htest : num * 2 ^ (-e).toNat < den * 2 ^ e.toNat ↔ (num : ℚ) / den < 2 ^ e := by
    rw [two_zpow_eq_div, div_lt_div_iff₀ hd' (by positivity), mul_comm _ (den : ℚ)]
    exact_mod_cast Iff.rfl
  unfold binaryExponent
  simp only [← he, htest]
  split_ifs with ht
  · exact ⟨hlow, by rwa [sub_add_cancel]⟩
  · exact ⟨not_lt.1 ht, hhigh⟩

/-- The exponent of the leading bit is the only one with its bounds. -/
theorem binaryExponent_le {hi : Int} (hn : num ≠ 0) (hd : den ≠ 0) (h : (num : ℚ) / den < 2 ^ hi) :
    binaryExponent num den < hi :=
  (zpow_lt_zpow_iff_right₀ one_lt_two).1 ((binaryExponent_bounds hn hd).1.trans_lt h)

theorem le_binaryExponent {lo : Int} (hn : num ≠ 0) (hd : den ≠ 0) (h : (2 : ℚ) ^ lo ≤ num / den) :
    lo ≤ binaryExponent num den :=
  Int.lt_add_one_iff.1 ((zpow_lt_zpow_iff_right₀ (one_lt_two (α := ℚ))).1 (h.trans_lt (binaryExponent_bounds hn hd).2))

theorem roundsUp_exact (rm : BitVec 2) (neg lsb : Bool) : roundsUp rm neg lsb false false = false := by
  unfold roundsUp
  split <;> simp

end

section
variable {f : FloatFormat} {rm : BitVec 2} {neg z : Bool} {num den : Nat}

/-- Rounding raises the exponent of the leading bit by one at most (R392). -/
theorem FloatFormat.round_exp :
    (f.round rm neg num den).exp = binaryExponent num den ∨
      (f.round rm neg num den).exp = binaryExponent num den + 1 := by
  unfold FloatFormat.round
  dsimp only
  split_ifs <;> simp

/-- A number well inside the range of the format does not trap (R392). -/
theorem FloatFormat.deliver_trap {wrap lo hi : Int} (hd : den ≠ 0) (hlo : num ≠ 0 → (2 : ℚ) ^ lo ≤ num / den)
    (hhi : (num : ℚ) / den < 2 ^ hi) (h1 : 1 ≤ lo + f.bias) (h2 : hi + f.bias < f.top) :
    (f.deliver wrap rm neg num den z).trap = none := by
  unfold FloatFormat.deliver
  by_cases hn : num = 0
  · rw [if_pos hn]
  · have h3 := le_binaryExponent hn hd (hlo hn)
    have h4 := binaryExponent_le hn hd hhi
    have h5 := f.round_exp (rm := rm) (neg := neg) (num := num) (den := den)
    have h6 : ¬ (f.top : Int) ≤ f.biased (f.round rm neg num den) := by unfold FloatFormat.biased; omega
    have h7 : ¬ f.biased (f.round rm neg num den) < 1 := by unfold FloatFormat.biased; omega
    simp only [hn, h6, h7, if_false]

/-- A number that the precision of the format holds is its own rounding (R392). -/
theorem FloatFormat.round_exact {sig : Nat} {E : Int} (hd : den ≠ 0) (hl : 2 ^ f.fracBits ≤ sig)
    (hh : sig < 2 ^ (f.fracBits + 1)) (h : (num : ℚ) / den = sig * 2 ^ (E - f.fracBits)) :
    (f.round rm neg num den).sig = sig ∧ (f.round rm neg num den).exp = E := by
  have hl' : (2 : ℚ) ^ (f.fracBits : Int) ≤ sig := by exact_mod_cast hl
  have hh' : (sig : ℚ) < 2 ^ ((f.fracBits : Int) + 1) := by exact_mod_cast hh
  have hlow : (2 : ℚ) ^ E ≤ num / den := calc
    (2 : ℚ) ^ E = 2 ^ (f.fracBits : Int) * 2 ^ (E - f.fracBits) := by rw [← zpow_add₀ two_ne_zero]; congr 1; omega
    _ ≤ num / den := by rw [h]; gcongr
  have hhigh : (num : ℚ) / den < 2 ^ (E + 1) := calc
    (num : ℚ) / den < 2 ^ ((f.fracBits : Int) + 1) * 2 ^ (E - f.fracBits) := by rw [h]; gcongr
    _ = 2 ^ (E + 1) := by rw [← zpow_add₀ two_ne_zero]; congr 1; omega
  have hn : num ≠ 0 := by
    rintro rfl
    rw [Nat.cast_zero, zero_div] at hlow
    exact absurd hlow (not_le.2 (zpow_pos two_pos E))
  have he : binaryExponent num den = E :=
    le_antisymm (Int.lt_add_one_iff.1 (binaryExponent_le hn hd hhigh)) (le_binaryExponent hn hd hlow)
  let k : Int := f.fracBits + 1 - E
  have hpos : 0 < den * 2 ^ (-k).toNat := Nat.mul_pos (Nat.pos_of_ne_zero hd) (Nat.two_pow_pos _)
  have hq : num * 2 ^ k.toNat = 2 * sig * (den * 2 ^ (-k).toNat) := by
    have hs := scaled_div num den k
    have e : (2 : ℚ) ^ (E - f.fracBits) * 2 ^ k = 2 := by
      rw [← zpow_add₀ two_ne_zero, show E - f.fracBits + k = 1 by omega, zpow_one]
    rw [h, mul_assoc, e, div_eq_iff (Nat.cast_ne_zero.2 hpos.ne'), mul_comm (sig : ℚ)] at hs
    exact_mod_cast hs
  have hdiv : num * 2 ^ k.toNat / (den * 2 ^ (-k).toNat) = 2 * sig := by rw [hq, Nat.mul_div_cancel _ hpos]
  have hmod : num * 2 ^ k.toNat % (den * 2 ^ (-k).toNat) = 0 := by rw [hq, Nat.mul_mod_left]
  unfold FloatFormat.round
  simp only [he]
  rw [hdiv, hmod]
  simp [roundsUp_exact, hh.ne]

/-- The bits of a number that the precision of the format holds, wrapped by nothing (R392). -/
theorem FloatFormat.deliver_exact {sig : Nat} {E : Int} (hd : den ≠ 0) (hn : num ≠ 0) (hl : 2 ^ f.fracBits ≤ sig)
    (hh : sig < 2 ^ (f.fracBits + 1)) (h : (num : ℚ) / den = sig * 2 ^ (E - f.fracBits)) :
    (f.deliver 0 rm neg num den z).bits = f.build neg (E + f.bias) sig := by
  obtain ⟨hsig, hexp⟩ := f.round_exact (rm := rm) (neg := neg) hd hl hh h
  unfold FloatFormat.deliver FloatFormat.biased
  simp only [hn, hsig, hexp, if_false, sub_zero, add_zero]
  split_ifs <;> rfl

end

/-! ## The bits of an exact result -/

section
variable {f : FloatFormat} {u : Unpacked} {d : Dyadic} {rm : BitVec 2} {z : Bool}

/-- The fields of u have the sizes of the format (R390). -/
structure FloatFormat.Fits (f : FloatFormat) (u : Unpacked) : Prop where
  exponent : u.exponent < 2 ^ f.expBits
  fraction : u.fraction < 2 ^ f.fracBits

theorem FloatFormat.unpack_fits (f : FloatFormat) (v : Nat) : f.Fits (f.unpack v) :=
  ⟨Nat.mod_lt _ (Nat.two_pow_pos _), Nat.mod_lt _ (Nat.two_pow_pos _)⟩

theorem FloatFormat.build_eq_pack {neg : Bool} (hu : f.Fits u) :
    f.build neg u.exponent (2 ^ f.fracBits + u.fraction) =
      f.pack { neg := neg, exponent := u.exponent, fraction := u.fraction } := by
  have he : ((u.exponent : Int) % 2 ^ f.expBits).toNat = u.exponent := by
    have hc : (u.exponent : Int) % 2 ^ f.expBits = (u.exponent % 2 ^ f.expBits : Nat) := by push_cast; rfl
    rw [hc, Int.toNat_natCast, Nat.mod_eq_of_lt hu.exponent]
  have hm : (2 ^ f.fracBits + u.fraction) % 2 ^ f.fracBits = u.fraction := by
    rw [Nat.add_mod_left, Nat.mod_eq_of_lt hu.fraction]
  unfold FloatFormat.build
  rw [he, hm]

/-- A number that the format holds is delivered as it is (R392); z is the sign that a zero is given. -/
theorem FloatFormat.deliverDyadic_exact (hu : f.Fits u) (h : f.rat u = d.toRat)
    (hz : f.rat u = 0 → u = { neg := z, exponent := 0, fraction := 0 }) :
    (f.deliverDyadic 0 rm d z).bits = f.pack u := by
  by_cases h0 : f.rat u = 0
  · have hn : d.num = 0 := Dyadic.num_eq_zero_iff.2 (Dyadic.toRat_eq_zero_iff.1 (h ▸ h0))
    unfold FloatFormat.deliverDyadic FloatFormat.deliver
    rw [if_pos hn, hz h0]
    rfl
  · have he : u.exponent ≠ 0 := fun he => h0 (FloatFormat.rat_eq_zero_iff.2 he)
    have hn : d.num ≠ 0 := fun hn =>
      h0 (h.trans (Dyadic.toRat_eq_zero_iff.2 (Dyadic.num_eq_zero_iff.1 hn)))
    have hneg : decide (d.mant < 0) = u.neg := by
      rw [Bool.eq_iff_iff, decide_eq_true_eq, ← FloatFormat.rat_neg_iff h0, h, Dyadic.toRat_neg_iff]
    have hv : (d.num : ℚ) / d.den =
        (2 ^ f.fracBits + u.fraction : Nat) * 2 ^ ((u.exponent : Int) - f.bias - f.fracBits) := by
      rw [Dyadic.num_div_den, ← h, FloatFormat.abs_rat he]
    have hlt : 2 ^ f.fracBits + u.fraction < 2 ^ (f.fracBits + 1) := by
      have := hu.fraction
      omega
    unfold FloatFormat.deliverDyadic
    rw [FloatFormat.deliver_exact d.den_pos.ne' hn (Nat.le_add_right ..) hlt hv, hneg, sub_add_cancel]
    exact FloatFormat.build_eq_pack hu

theorem double_pack_unpack (r : DWord) : double.pack (double.unpack r.toNat) = r.toNat := by
  have hr := r.isLt
  simp only [FloatFormat.pack, FloatFormat.unpack, double, Nat.toNat_testBit]
  omega

/-- A doubleword that holds the number exactly is the one that is delivered (R392). -/
theorem double_deliver_exact {r : DWord} (h : double.rat (double.unpack r.toNat) = d.toRat)
    (hz : double.rat (double.unpack r.toNat) = 0 → double.unpack r.toNat = { neg := z, exponent := 0, fraction := 0 }) :
    (double.deliverDyadic 0 rm d z).bits = r.toNat :=
  (FloatFormat.deliverDyadic_exact (double.unpack_fits _) h hz).trans (double_pack_unpack r)

end

/-! ## Integers as numbers -/

section
variable {a : Word} {rm : BitVec 2}

theorem toRat_natural (m : Int) : ({ mant := m, exp := 0 } : Dyadic).toRat = m := by
  unfold Dyadic.toRat
  rw [zpow_zero, mul_one]

/-- No integer of a word is too large for a single (R407). -/
theorem single_deliver_word : (single.deliverDyadic 0 rm { mant := a.toInt, exp := 0 } false).trap = none := by
  have hd := Dyadic.den_pos (d := { mant := a.toInt, exp := 0 })
  have ha := BitVec.two_mul_toInt_lt (x := a)
  have ha' := BitVec.le_two_mul_toInt (x := a)
  refine FloatFormat.deliver_trap (lo := 0) (hi := 32) hd.ne' (fun hn => ?_) ?_ (by decide) (by decide)
  · rw [Dyadic.num_div_den, toRat_natural, zpow_zero, ← Int.cast_abs]
    have h0 : a.toInt ≠ 0 := fun h0 => hn (Dyadic.num_eq_zero_iff.2 h0)
    exact_mod_cast Int.one_le_abs h0
  · rw [Dyadic.num_div_den, toRat_natural, ← Int.cast_abs]
    have h1 : |a.toInt| < 2 ^ 32 := abs_lt.2 ⟨by omega, by omega⟩
    exact_mod_cast h1

end

/-! ## The conversions -/

section
variable {i : Instr} {s u : State} {f : FloatFormat} {v : Nat} {k : Unpacked → M End}

theorem withOperand_usable (h : f.usable (f.unpack v) = true) : withOperand f v k = k (f.unpack v) :=
  if_pos (beq_iff_eq.1 h)

theorem withOperand_unusable (h : f.usable (f.unpack v) = false) :
    withOperand f v k = operandTrap 0 (classBits (f.classify (f.unpack v))) :=
  if_neg (beq_eq_false_iff_ne.1 h)

/-- The Operand Trap with the class bits of both operands (R391, R611). -/
theorem RunsBody.operandTrap {m : M End} {below top : Nat} (h : RunsBody i s m)
    (hm : m s = operandTrap below top u) (hc : u.CIR = s.CIR) : EndsInOperandTrap i s u below top := by
  have hu : u.cirHalf = s.cirHalf := congrArg (fun w => (field w 16 16).setWidth 32) hc
  unfold EndsInOperandTrap
  rw [← hu]
  exact endsInTrap_of_body h.body rfl (decide_eq_false h.notDup) (atomic_ok hm)

theorem concludeResult_ok {d : Delivered} (h : d.trap = none) :
    concludeResult f d s = .ok (done, s.noteResult f d) := by
  unfold concludeResult State.noteResult
  cases d.inexact <;> simp only [h, if_true, Bool.false_eq_true, if_false, M.modify_bind, putCC_bind, M.get_bind,
    M.pure_apply]

/-- The body of FLTS, from the rounding mode (R407). -/
def floatTop (rm : BitVec 2) : M End :=
  peek 0 >>= fun a =>
    let d := single.deliverDyadic 0 rm { mant := a.toInt, exp := 0 } false
    poke 0 (BitVec.ofNat 32 d.bits) >>= fun _ => concludeResult single d

theorem flts_runs : RunsBody .flts s (floatTop s.rounding) := .of_get (fun s => floatTop s.rounding) ⟨rfl, nofun⟩

/-- FLTS (R407). -/
theorem flts_completes (hs : s.hasStack 1 0 = true) :
    let d := single.deliverDyadic 0 s.rounding { mant := (s.top 0).toInt, exp := 0 } false
    CompletesAs .flts s ((s.putTop 0 (BitVec.ofNat 32 d.bits)).noteResult single d) := by
  intro d
  refine flts_runs.completes ?_ (done_plain _)
  unfold floatTop
  rw [M.bind_ok (peek_present (State.hasStack_top hs)), M.bind_ok (poke_below hs (by omega)),
    concludeResult_ok single_deliver_word]

/-- FLTD (R408). -/
theorem fltd_onStack {r : DWord} (hr : double.rat (double.unpack r.toNat) = (s.top 0).toInt)
    (h0 : s.top 0 = 0#32 → r = 0#64) :
    OnStack .fltd s 1 1 0 (((s.putTop 0 (hiWord r)).pushed (loWord r)).setCC (ccWord (s.top 0))) := by
  have hz : double.rat (double.unpack r.toNat) = 0 → r = 0#64 := fun h =>
    h0 (BitVec.toInt_inj.1 (Int.cast_eq_zero.1 (hr.symm.trans h)))
  have hbits : (double.deliverDyadic 0 0#2 { mant := (s.top 0).toInt, exp := 0 } false).bits = r.toNat :=
    double_deliver_exact (hr.trans (toRat_natural _).symm) fun h => by rw [hz h]; rfl
  have hcc : double.ccFloat (double.unpack r.toNat) = ccWord (s.top 0) := by
    rw [FloatFormat.ccFloat_eq fun h => by rw [hz h]; rfl, hr]
    simp only [Int.cast_lt_zero, Int.cast_eq_zero]
    rfl
  refine RunsOnStack.onStack (.peek (by omega) (.keeping fun hs => ?_)) (done_plain _) ⟨rfl, nofun⟩
  have hs' : (s.putTop 0 (hiWord r)).hasStack 1 1 = true := State.hasStack_putTop.trans hs
  rw [hbits, BitVec.ofNat_toNat, BitVec.setWidth_eq, hcc, M.bind_ok (poke_below hs (by omega)),
    M.bind_ok (push_room hs')]
  rfl

section
variable {half : Bool}

/-- The integer part of a number, or of its magnitude plus one half (R409). -/
def integerOf (half : Bool) (x : ℚ) : Int := (if x < 0 then -1 else 1) * ⌊|x| + (if half then 1 / 2 else 0)⌋

theorem fixs_runs : RunsBody (.fixs half) s
    (peek 0 >>= fun y => withOperand single y.toNat fun u => arithTop ((single.value u).fix half)) := ⟨rfl, nofun⟩

/-- FIXS (R409). -/
theorem fixs_settingO (h : single.usable (single.unpack (s.top 0).toNat) = true) :
    let r := integerOf half (single.rat (single.unpack (s.top 0).toNat))
    OnStackSettingO (.fixs half) s 1 0 0 (s.replacedTop r) (inexactWord r) 0x01#32 := by
  intro r
  refine RunsOnStack.settingO (kind := 0) (type := 1) (.peek (by omega) ?_) State.replacedTop_overflow fixs_runs
  rw [withOperand_usable h, Dyadic.fix_eq, ← FloatFormat.rat_eq_toRat]
  exact arithTop_runs

theorem fixs_traps (hs : s.hasStack 1 0 = true) (h : single.usable (single.unpack (s.top 0).toNat) = false) :
    EndsInOperandTrap (.fixs half) s s 0 (classBits (single.classify (single.unpack (s.top 0).toNat))) :=
  fixs_runs.operandTrap (by rw [M.bind_ok (peek_present (State.hasStack_top hs)), withOperand_unusable h]) rfl

theorem fixd_runs : RunsBody (.fixd half) s (peekDouble 0 >>= fun x => withOperand double x.toNat fun u =>
    arithResult ((double.value u).fix half) false) := ⟨rfl, nofun⟩

/-- FIXD (R410). -/
theorem fixd_settingO (h : double.usable (double.unpack (s.topDouble 0).toNat) = true) :
    let r := integerOf half (double.rat (double.unpack (s.topDouble 0).toNat))
    OnStackSettingO (.fixd half) s 2 0 1 (s.summedTwo r false) (inexactWord r) 0x01#32 := by
  intro r
  refine RunsOnStack.settingO (kind := 0) (type := 1) (.peekDouble (by omega) ?_) State.summedTwo_overflow fixd_runs
  rw [withOperand_usable h, Dyadic.fix_eq, ← FloatFormat.rat_eq_toRat]
  exact arithResult_runs

theorem fixd_traps (hs : s.hasStack 2 0 = true) (h : double.usable (double.unpack (s.topDouble 0).toNat) = false) :
    EndsInOperandTrap (.fixd half) s s 0 (classBits (double.classify (double.unpack (s.topDouble 0).toNat))) :=
  fixd_runs.operandTrap (by rw [M.bind_ok (peekDouble_below hs (by omega)), withOperand_unusable h]) rfl

end

/-- CSDF with a number (R411). -/
def extendTop (u : Unpacked) : M End :=
  let d := double.deliverDyadic 0 0#2 (single.value u) u.neg
  pokeDouble 0 (BitVec.ofNat 64 d.bits) >>= fun _ => putCC (double.ccFloat (double.unpack d.bits)) >>= fun _ =>
    pure done

theorem csdf_runs : RunsBody .csdf s
    (peek 0 >>= fun y => push 0#32 >>= fun _ => withOperand single y.toNat extendTop) := ⟨rfl, nofun⟩

theorem csdf_completes {r : DWord} (hs : s.hasStack 1 1 = true)
    (h : single.usable (single.unpack (s.top 0).toNat) = true) (hu : double.usable (double.unpack r.toNat) = true)
    (hn : (double.unpack r.toNat).neg = (single.unpack (s.top 0).toNat).neg)
    (hr : double.rat (double.unpack r.toNat) = single.rat (single.unpack (s.top 0).toNat)) :
    let x := single.rat (single.unpack (s.top 0).toNat)
    CompletesAs .csdf s ((((s.pushed 0#32).putTop 1 (hiWord r)).putTop 0 (loWord r)).setCC
      (if x < 0 then ccL else if x = 0 then ccE else ccG)) := by
  intro x
  have hz := FloatFormat.classify_of_usable hu
  have hbits : (double.deliverDyadic 0 0#2 (single.value (single.unpack (s.top 0).toNat))
      (single.unpack (s.top 0).toNat).neg).bits = r.toNat := by
    exact double_deliver_exact (hr.trans FloatFormat.rat_eq_toRat) fun h0 =>
      hn ▸ FloatFormat.eq_of_zero (hz h0)
  have hcc := FloatFormat.ccFloat_eq hz
  have hs' : (s.pushed 0#32).hasStack 2 0 = true := State.pushed_hasStack hs
  refine csdf_runs.completes ?_ (done_plain _)
  rw [M.bind_ok (peek_present (State.hasStack_below hs (by omega))), M.bind_ok (push_room hs), withOperand_usable h]
  unfold extendTop
  rw [hbits, BitVec.ofNat_toNat, BitVec.setWidth_eq, hcc, hr, M.bind_ok (pokeDouble_words hs' (by omega))]
  rfl

theorem csdf_traps (hs : s.hasStack 1 1 = true) (h : single.usable (single.unpack (s.top 0).toNat) = false) :
    EndsInOperandTrap .csdf s (s.pushed 0#32) 0 (classBits (single.classify (single.unpack (s.top 0).toNat))) :=
  csdf_runs.operandTrap (by
    rw [M.bind_ok (peek_present (State.hasStack_below hs (by omega))), M.bind_ok (push_room hs),
      withOperand_unusable h])
    rfl

/-- CDSF with a number, from the rounding mode (R412). -/
def roundTop (rm : BitVec 2) (u : Unpacked) : M End :=
  let d := single.deliverDyadic 0 rm (double.value u) u.neg
  if d.trap.isSome then operandTrap 0 0
  else checkPop 1 >>= fun _ => replaceTwo (BitVec.ofNat 32 d.bits) >>= fun _ => concludeResult single d

theorem cdsf_runs : RunsBody .cdsf s (peekDouble 0 >>= fun x => withOperand double x.toNat (roundTop s.rounding)) :=
  .of_get (fun s => peekDouble 0 >>= fun x => withOperand double x.toNat (roundTop s.rounding)) ⟨rfl, nofun⟩

theorem cdsf_onStack (h : double.usable (double.unpack (s.topDouble 0).toNat) = true) :
    let y := double.unpack (s.topDouble 0).toNat
    let d := single.deliverDyadic 0 s.rounding (double.value y) y.neg
    d.trap = none → OnStack .cdsf s 2 0 1 (((s.putTop 1 (BitVec.ofNat 32 d.bits)).popped 1).noteResult single d) := by
  intro y d hd
  refine RunsOnStack.onStack (.peekDouble (by omega) ?_) (done_plain _) cdsf_runs
  rw [withOperand_usable h]
  unfold roundTop
  rw [if_neg (by rw [hd]; exact Bool.false_ne_true)]
  refine .checkPop (by omega) fun hs => ?_
  rw [M.bind_ok (replaceTwo_below hs (by omega)), concludeResult_ok hd]

theorem cdsf_tooLarge (hs : s.hasStack 2 0 = true) (h : double.usable (double.unpack (s.topDouble 0).toNat) = true) :
    let y := double.unpack (s.topDouble 0).toNat
    (single.deliverDyadic 0 s.rounding (double.value y) y.neg).trap ≠ none → EndsInOperandTrap .cdsf s s 0 0 := by
  intro y hd
  refine cdsf_runs.operandTrap ?_ rfl
  rw [M.bind_ok (peekDouble_below hs (by omega)), withOperand_usable h]
  unfold roundTop
  rw [if_pos (Option.isSome_iff_ne_none.2 hd)]

theorem cdsf_traps (hs : s.hasStack 2 0 = true) (h : double.usable (double.unpack (s.topDouble 0).toNat) = false) :
    EndsInOperandTrap .cdsf s s 0 (classBits (double.classify (double.unpack (s.topDouble 0).toNat))) :=
  cdsf_runs.operandTrap (by rw [M.bind_ok (peekDouble_below hs (by omega)), withOperand_unusable h]) rfl

/-- SRM with the mode in the instruction (R413). -/
theorem srm_completes {m : BitVec 2} : CompletesAs (.srm false m) s (s.setRM m) := by
  have h : RunsBody (.srm false m) s ((modify (·.setRM m) : M PUnit) >>= fun _ => pure done) := ⟨rfl, nofun⟩
  exact h.completes (M.modify_bind ..) (done_plain _)

/-- SRM with the mode on the stack (R413). -/
theorem srm_onStack {m : BitVec 2} : OnStack (.srm true m) s 1 0 1 ((s.popped 1).setRM (field (s.top 0) 30 2)) :=
  RunsOnStack.onStack (m := peek 0 >>= fun a => checkPop 1 >>= fun _ =>
      (modify (·.setRM (field a 30 2)) : M PUnit) >>= fun _ => dropWords 1 >>= fun _ => pure done)
    (.peek (by omega) (.checkPop (by omega) fun _ => rfl)) (done_plain _) ⟨rfl, nofun⟩

end

/-- Settles O21: the conversions from and to integers, then those between the formats, and the rounding mode. -/
theorem floatConversions : Obligations.FloatConversions := by
  refine ⟨fun s half => ?_, fun s m => ?_⟩
  · intro a d q y fix
    exact ⟨fun hs => ⟨single_deliver_word, flts_completes hs⟩, fun r hr h0 => fltd_onStack hr h0,
      fun hs => ⟨fixs_settingO, fixs_traps hs⟩, fun hs => ⟨fixd_settingO, fixd_traps hs⟩⟩
  · intro q y d
    exact ⟨fun hs => ⟨fun h r hu hn hr => csdf_completes hs h hu hn hr, csdf_traps hs⟩,
      fun hs => ⟨cdsf_onStack, cdsf_tooLarge hs, cdsf_traps hs⟩, srm_completes, srm_onStack⟩

end Sys2Proof.Machine

/-! What a delivered result is: the exact number cut, rounded and packed (spec/43_float_decimal.md R390, R392). -/

namespace Sys2Proof.Machine

/-! ## Packing -/

section
variable {f : FloatFormat} {u : Unpacked}

theorem FloatFormat.pack_low_lt (hu : f.Fits u) :
    u.exponent * 2 ^ f.fracBits + u.fraction < 2 ^ (f.expBits + f.fracBits) := by
  have he := hu.exponent
  have hf := hu.fraction
  calc u.exponent * 2 ^ f.fracBits + u.fraction < (u.exponent + 1) * 2 ^ f.fracBits := by
        rw [Nat.add_mul, Nat.one_mul]; omega
    _ ≤ 2 ^ f.expBits * 2 ^ f.fracBits := Nat.mul_le_mul_right _ he
    _ = 2 ^ (f.expBits + f.fracBits) := (Nat.pow_add ..).symm

theorem FloatFormat.pack_eq (hu : f.Fits u) :
    f.pack u = 2 ^ (f.expBits + f.fracBits) * u.neg.toNat + (u.exponent * 2 ^ f.fracBits + u.fraction) := by
  unfold FloatFormat.pack
  rw [Nat.mod_eq_of_lt hu.exponent, Nat.mod_eq_of_lt hu.fraction, Nat.mul_comm u.neg.toNat, Nat.add_assoc]

theorem FloatFormat.pack_lt (hu : f.Fits u) : f.pack u < 2 ^ (f.expBits + f.fracBits + 1) := by
  have hl := FloatFormat.pack_low_lt hu
  have hn := Nat.mul_le_mul_left (2 ^ (f.expBits + f.fracBits)) (Bool.toNat_le u.neg)
  rw [FloatFormat.pack_eq hu, Nat.pow_succ]
  omega

/-- The fields of a number are those it was made of (R390). -/
theorem FloatFormat.unpack_pack (hu : f.Fits u) : f.unpack (f.pack u) = u := by
  have hl := FloatFormat.pack_low_lt hu
  have hf := hu.fraction
  have hp : 2 ^ (f.expBits + f.fracBits) = 2 ^ f.fracBits * 2 ^ f.expBits := by rw [Nat.add_comm, Nat.pow_add]
  have hneg : (f.pack u).testBit (f.expBits + f.fracBits) = u.neg := by
    rw [Nat.testBit_eq_decide_div_mod_eq, FloatFormat.pack_eq hu, Nat.mul_add_div (Nat.two_pow_pos _),
      Nat.div_eq_of_lt hl]
    cases u.neg <;> rfl
  have hexp : f.pack u / 2 ^ f.fracBits % 2 ^ f.expBits = u.exponent := by
    rw [FloatFormat.pack_eq hu, hp, Nat.mul_assoc, Nat.mul_add_div (Nat.two_pow_pos _), Nat.mul_add_mod,
      Nat.mul_comm u.exponent, Nat.mul_add_div (Nat.two_pow_pos _), Nat.div_eq_of_lt hf, Nat.add_zero,
      Nat.mod_eq_of_lt hu.exponent]
  have hfrac : f.pack u % 2 ^ f.fracBits = u.fraction := by
    rw [FloatFormat.pack_eq hu, hp, Nat.mul_assoc, Nat.mul_add_mod, Nat.mul_comm u.exponent, Nat.mul_add_mod,
      Nat.mod_eq_of_lt hf]
  unfold FloatFormat.unpack
  rw [hneg, hexp, hfrac]

theorem FloatFormat.build_fits (f : FloatFormat) (neg : Bool) (ef : Int) (sig : Nat) :
    f.Fits { neg := neg, exponent := (ef % 2 ^ f.expBits).toNat, fraction := sig % 2 ^ f.fracBits } := by
  have h : ef % 2 ^ f.expBits < 2 ^ f.expBits := Int.emod_lt_of_pos _ (by positivity)
  exact ⟨(Int.toNat_lt' (Nat.two_pow_pos _)).2 (by exact_mod_cast h), Nat.mod_lt _ (Nat.two_pow_pos _)⟩

theorem FloatFormat.zero_fits (f : FloatFormat) (neg : Bool) : f.Fits { neg := neg, exponent := 0, fraction := 0 } :=
  ⟨Nat.two_pow_pos _, Nat.two_pow_pos _⟩

end

/-! ## The cut magnitude and its three bits

`t` is the magnitude scaled so that its integer part holds the significand and the round bit. -/

section
variable {t : ℚ} {rm : BitVec 2} {neg : Bool} {m : Nat}

/-- The last bit of the significand (R611). -/
def lastBit (t : ℚ) : Bool := decide (⌊t⌋.toNat / 2 % 2 = 1)

/-- The first bit after the significand (R392). -/
def roundBit (t : ℚ) : Bool := decide (⌊t⌋.toNat % 2 = 1)

/-- Whether anything follows the round bit (R392). -/
def stickyBit (t : ℚ) : Bool := decide ((⌊t⌋.toNat : ℚ) ≠ t)

/-- Whether the magnitude is rounded up (R390). -/
def increments (rm : BitVec 2) (neg : Bool) (t : ℚ) : Bool :=
  roundsUp rm neg (lastBit t) (roundBit t) (stickyBit t)

/-- The rounded significand (R392). -/
def significand (rm : BitVec 2) (neg : Bool) (t : ℚ) : Nat := ⌊t⌋.toNat / 2 + (increments rm neg t).toNat

theorem floor_toNat_bounds (ht : 0 ≤ t) : (⌊t⌋.toNat : ℚ) ≤ t ∧ t < ⌊t⌋.toNat + 1 := by
  rw [Int.floor_toNat]
  exact ⟨Nat.floor_le ht, Nat.lt_floor_add_one t⟩

theorem cut_eq_two_mul_add (t : ℚ) : (⌊t⌋.toNat : ℚ) = 2 * (⌊t⌋.toNat / 2 : Nat) + (⌊t⌋.toNat % 2 : Nat) := by
  exact_mod_cast (Nat.div_add_mod _ 2).symm

/-- Without a round bit the magnitude lies less than a half above the significand. -/
theorem of_roundBit_false (ht : 0 ≤ t) (h : roundBit t = false) :
    2 * ((⌊t⌋.toNat / 2 : Nat) : ℚ) ≤ t ∧ t < 2 * ((⌊t⌋.toNat / 2 : Nat) : ℚ) + 1 ∧
      (stickyBit t = true ↔ 2 * ((⌊t⌋.toNat / 2 : Nat) : ℚ) ≠ t) := by
  have hb : ⌊t⌋.toNat % 2 = 0 := by simpa [roundBit] using h
  have hn := cut_eq_two_mul_add t
  rw [hb, Nat.cast_zero, add_zero] at hn
  rw [stickyBit, decide_eq_true_iff, ← hn]
  exact ⟨(floor_toNat_bounds ht).1, (floor_toNat_bounds ht).2, Iff.rfl⟩

/-- With a round bit it lies a half or more above. -/
theorem of_roundBit_true (ht : 0 ≤ t) (h : roundBit t = true) :
    2 * ((⌊t⌋.toNat / 2 : Nat) : ℚ) + 1 ≤ t ∧ t < 2 * ((⌊t⌋.toNat / 2 : Nat) : ℚ) + 2 ∧
      (stickyBit t = true ↔ 2 * ((⌊t⌋.toNat / 2 : Nat) : ℚ) + 1 ≠ t) := by
  have hb : ⌊t⌋.toNat % 2 = 1 := by simpa [roundBit] using h
  have hn := cut_eq_two_mul_add t
  rw [hb, Nat.cast_one] at hn
  rw [stickyBit, decide_eq_true_iff, ← hn]
  refine ⟨(floor_toNat_bounds ht).1, ?_, Iff.rfl⟩
  have := (floor_toNat_bounds ht).2
  linarith

/-- What the significand cuts off is less than 2, and nothing when both bits are 0. -/
theorem cut_bounds (ht : 0 ≤ t) :
    2 * ((⌊t⌋.toNat / 2 : Nat) : ℚ) ≤ t ∧ t < 2 * ((⌊t⌋.toNat / 2 : Nat) : ℚ) + 2 ∧
      ((roundBit t || stickyBit t) = true ↔ 2 * ((⌊t⌋.toNat / 2 : Nat) : ℚ) ≠ t) := by
  cases h : roundBit t
  · obtain ⟨h1, h2, h3⟩ := of_roundBit_false ht h
    exact ⟨h1, by linarith, h3⟩
  · obtain ⟨h1, h2, -⟩ := of_roundBit_true ht h
    exact ⟨by linarith, h2, iff_of_true rfl (by linarith)⟩

/-- A number is rounded up only when something has been cut off (R390). -/
theorem cut_of_increments (h : increments rm neg t = true) : (roundBit t || stickyBit t) = true := by
  unfold increments at h
  cases hr : roundBit t <;> cases hs : stickyBit t
  · rw [hr, hs, roundsUp_exact] at h
    exact h
  all_goals rfl

theorem significand_of_not_increments (h : increments rm neg t = false) :
    significand rm neg t = ⌊t⌋.toNat / 2 := by
  rw [significand, h]
  rfl

theorem significand_of_increments (h : increments rm neg t = true) :
    (significand rm neg t : ℚ) = (⌊t⌋.toNat / 2 : Nat) + 1 := by
  rw [significand, h]
  exact Nat.cast_succ _

/-- The rounded significand is one of the two around the magnitude, on the side that the increment says, and the
magnitude itself only when nothing has been cut off. -/
theorem significand_bounds (ht : 0 ≤ t) :
    (increments rm neg t = false → 2 * (significand rm neg t : ℚ) ≤ t ∧ t < 2 * (significand rm neg t : ℚ) + 2) ∧
    (increments rm neg t = true → t ≤ 2 * (significand rm neg t : ℚ) ∧ 2 * (significand rm neg t : ℚ) < t + 2) ∧
    ((roundBit t || stickyBit t) = true ↔ 2 * (significand rm neg t : ℚ) ≠ t) := by
  obtain ⟨h1, h2, h3⟩ := cut_bounds ht
  cases hi : increments rm neg t
  · rw [significand_of_not_increments hi]
    exact ⟨fun _ => ⟨h1, h2⟩, nofun, h3⟩
  · have hcut := cut_of_increments hi
    have hlow := lt_of_le_of_ne h1 (h3.1 hcut)
    rw [significand_of_increments hi]
    exact ⟨nofun, fun _ => ⟨by linarith, by linarith⟩, iff_of_true hcut (by linarith)⟩

theorem significand_near (ht : 0 ≤ t) : |2 * (significand rm neg t : ℚ) - t| < 2 := by
  obtain ⟨h1, h2, -⟩ := significand_bounds (rm := rm) (neg := neg) ht
  rw [abs_lt]
  cases hi : increments rm neg t
  · obtain ⟨h3, h4⟩ := h1 hi
    exact ⟨by linarith, by linarith⟩
  · obtain ⟨h3, h4⟩ := h2 hi
    exact ⟨by linarith, by linarith⟩

/-- Rounding to nearest leaves an error of at most a half, and an even significand at a half (R390). -/
theorem significand_nearest (ht : 0 ≤ t) :
    |2 * (significand 0#2 neg t : ℚ) - t| ≤ 1 ∧
      (|2 * (significand 0#2 neg t : ℚ) - t| = 1 → significand 0#2 neg t % 2 = 0) := by
  have hi : increments 0#2 neg t = (roundBit t && (stickyBit t || lastBit t)) := rfl
  cases hr : roundBit t
  · obtain ⟨h1, h2, -⟩ := of_roundBit_false ht hr
    have h3 : |2 * ((⌊t⌋.toNat / 2 : Nat) : ℚ) - t| < 1 := abs_lt.2 ⟨by linarith, by linarith⟩
    rw [significand_of_not_increments (by rw [hi, hr]; rfl)]
    exact ⟨h3.le, fun h => absurd h h3.ne⟩
  · obtain ⟨h1, h2, h3⟩ := of_roundBit_true ht hr
    rw [hr, Bool.true_and] at hi
    cases hs : stickyBit t || lastBit t
    · rw [hs] at hi
      obtain ⟨hs1, hs2⟩ := Bool.or_eq_false_iff.1 hs
      have h4 : 2 * ((⌊t⌋.toNat / 2 : Nat) : ℚ) + 1 = t := by
        by_contra h
        rw [h3.2 h] at hs1
        cases hs1
      have h5 : |2 * ((⌊t⌋.toNat / 2 : Nat) : ℚ) - t| = 1 := by
        rw [show 2 * ((⌊t⌋.toNat / 2 : Nat) : ℚ) - t = -1 by linarith, abs_neg, abs_one]
      rw [significand_of_not_increments hi]
      refine ⟨h5.le, fun _ => ?_⟩
      simpa [lastBit] using hs2
    · rw [hs] at hi
      rw [significand_of_increments hi]
      refine ⟨abs_le.2 ⟨by linarith, by linarith⟩, fun h => ?_⟩
      have h4 : 2 * (((⌊t⌋.toNat / 2 : Nat) : ℚ) + 1) - t = 1 := by
        rwa [abs_of_nonneg (by linarith)] at h
      have h5 : stickyBit t = false := by
        rw [← Bool.not_eq_true, h3, not_not]
        linarith
      rw [h5, Bool.false_or, lastBit, decide_eq_true_iff] at hs
      rw [significand, hi, Bool.toNat_true]
      omega

end

/-! ## The fields of a delivered result -/

/-- The magnitude of x, its leading one at the binary exponent e, scaled for `significand` (R392). -/
def FloatFormat.scaled (f : FloatFormat) (x : ℚ) (e : Int) : ℚ := |x| * (2 : ℚ) ^ ((f.fracBits : Int) + 1 - e)

/-- The significand that x is rounded to (R392). -/
def FloatFormat.sigOf (f : FloatFormat) (rm : BitVec 2) (x : ℚ) (e : Int) : Nat :=
  significand rm (decide (x < 0)) (f.scaled x e)

/-- The biased exponent of the rounded x, one more when the significand has a bit too many (R392). -/
def FloatFormat.exponentOf (f : FloatFormat) (rm : BitVec 2) (x : ℚ) (e : Int) : Int :=
  e + (if decide (f.sigOf rm x e = 2 ^ (f.fracBits + 1)) then 1 else 0) + f.bias

/-- The exponent field of a delivered result: one out of range is wrapped around (R392). -/
def FloatFormat.wrapped (f : FloatFormat) (wrap exponent : Int) : Int :=
  if decide ((f.top : Int) ≤ exponent) then exponent - wrap
  else if decide (exponent < 1) then exponent + wrap else exponent

/-- Bits 11 to 15 of the Result Trap parameter (R611). -/
def trapBits (t : ℚ) (tooBig tooSmall : Bool) : Nat :=
  (lastBit t).toNat * 2 ^ 20 + (roundBit t).toNat * 2 ^ 19 + (stickyBit t).toNat * 2 ^ 18 + tooBig.toNat * 2 ^ 17 +
    tooSmall.toNat * 2 ^ 16

/-- r is x, not 0 and with its leading one at e, rounded, wrapped and packed (R392). -/
structure FloatFormat.DeliversAt (f : FloatFormat) (wrap : Int) (rm : BitVec 2) (r : Delivered) (x : ℚ) (e : Int) :
    Prop where
  bits : f.unpack r.bits =
    { neg := decide (x < 0), exponent := (f.wrapped wrap (f.exponentOf rm x e) % 2 ^ f.expBits).toNat,
      fraction := f.sigOf rm x e % 2 ^ f.fracBits }
  inexact : r.inexact = (roundBit (f.scaled x e) || stickyBit (f.scaled x e))
  trap : r.trap =
    if decide ((f.top : Int) ≤ f.exponentOf rm x e) || decide (f.exponentOf rm x e < 1) then
      some (trapBits (f.scaled x e) (decide ((f.top : Int) ≤ f.exponentOf rm x e)) (decide (f.exponentOf rm x e < 1)))
    else none

/-- r is the exact number x delivered; an exact zero is negative when z holds (R392). -/
structure FloatFormat.Delivers (f : FloatFormat) (wrap : Int) (rm : BitVec 2) (r : Delivered) (x : ℚ) (z : Bool) :
    Prop where
  zero : x = 0 → f.unpack r.bits = { neg := z, exponent := 0, fraction := 0 } ∧ r.inexact = false ∧ r.trap = none
  nonzero : ∀ e : Int, (2 : ℚ) ^ e ≤ |x| → |x| < (2 : ℚ) ^ (e + 1) → f.DeliversAt wrap rm r x e

section
variable {f : FloatFormat} {wrap : Int} {rm : BitVec 2} {num den : Nat} {x : ℚ} {z : Bool} {e : Int}

/-- The exponent of the leading bit is the only one with its bounds. -/
theorem binaryExponent_unique (hd : den ≠ 0) (h1 : (2 : ℚ) ^ e ≤ num / den) (h2 : (num : ℚ) / den < 2 ^ (e + 1)) :
    binaryExponent num den = e := by
  have hn : num ≠ 0 := by
    rintro rfl
    rw [Nat.cast_zero, zero_div] at h1
    exact absurd h1 (not_le.2 (zpow_pos two_pos e))
  exact le_antisymm (Int.lt_add_one_iff.1 (binaryExponent_le hn hd h2)) (le_binaryExponent hn hd h1)

/-- The integers that the model divides give the cut magnitude, and their remainder the sticky bit (R392). -/
theorem FloatFormat.cut_eq (hd : den ≠ 0) (hx : |x| = num / den) :
    let k : Int := f.fracBits + 1 - e
    num * 2 ^ k.toNat / (den * 2 ^ (-k).toNat) = ⌊f.scaled x e⌋.toNat ∧
      (num * 2 ^ k.toNat % (den * 2 ^ (-k).toNat) != 0) = stickyBit (f.scaled x e) := by
  intro k
  have hs : f.scaled x e = ((num * 2 ^ k.toNat : Nat) : ℚ) / (den * 2 ^ (-k).toNat : Nat) := by
    rw [scaled_div, ← hx]
    rfl
  have hpos : 0 < den * 2 ^ (-k).toNat := Nat.mul_pos (Nat.pos_of_ne_zero hd) (Nat.two_pow_pos _)
  unfold stickyBit
  rw [hs, Rat.floor_natCast_div_natCast]
  generalize num * 2 ^ k.toNat = n at *
  generalize den * 2 ^ (-k).toNat = d at *
  refine ⟨rfl, ?_⟩
  have hq : ((n : Int) / (d : Int)).toNat = n / d := rfl
  rw [hq, Bool.eq_iff_iff, bne_iff_ne, decide_eq_true_iff, not_iff_not, ← Nat.dvd_iff_mod_eq_zero,
    eq_div_iff (by positivity)]
  exact ⟨fun h => by exact_mod_cast Nat.div_mul_cancel h, fun h => ⟨n / d, by rw [Nat.mul_comm]; exact_mod_cast h.symm⟩⟩

/-- Rounding a fraction is rounding the number that it stands for (R392). -/
theorem FloatFormat.round_eq (hd : den ≠ 0) (hx : |x| = num / den) (h1 : (2 : ℚ) ^ e ≤ |x|) (h2 : |x| < 2 ^ (e + 1)) :
    f.round rm (decide (x < 0)) num den =
      { sig := if f.sigOf rm x e = 2 ^ (f.fracBits + 1) then 2 ^ f.fracBits else f.sigOf rm x e
        exp := if f.sigOf rm x e = 2 ^ (f.fracBits + 1) then e + 1 else e
        lsb := lastBit (f.scaled x e), round := roundBit (f.scaled x e), sticky := stickyBit (f.scaled x e) } := by
  obtain ⟨hcut, hsticky⟩ := FloatFormat.cut_eq (f := f) (e := e) hd hx
  have hsig : (if roundsUp rm (decide (x < 0)) (⌊f.scaled x e⌋.toNat / 2 % 2 == 1) (⌊f.scaled x e⌋.toNat % 2 == 1)
      (stickyBit (f.scaled x e)) then ⌊f.scaled x e⌋.toNat / 2 + 1 else ⌊f.scaled x e⌋.toNat / 2) = f.sigOf rm x e := by
    change (if increments rm (decide (x < 0)) (f.scaled x e) then _ else _) = _ + _
    cases increments rm (decide (x < 0)) (f.scaled x e) <;> rfl
  rw [hx] at h1 h2
  unfold FloatFormat.round
  simp only [binaryExponent_unique hd h1 h2, hcut, hsticky, hsig]
  split_ifs <;> rfl

/-- Delivery of a number that is not 0 (R392). -/
theorem FloatFormat.deliver_eq {neg : Bool} (hn : num ≠ 0) :
    let r := f.round rm neg num den
    let tooBig := decide ((f.top : Int) ≤ f.biased r)
    f.deliver wrap rm neg num den z =
      { bits := f.build neg (f.wrapped wrap (f.biased r)) r.sig, inexact := r.inexact
        trap := if tooBig || decide (f.biased r < 1) then some (resultBits r tooBig) else none } := by
  unfold FloatFormat.deliver FloatFormat.wrapped
  rw [if_neg hn]
  by_cases hb : (f.top : Int) ≤ f.biased (f.round rm neg num den)
  · simp [hb]
  · by_cases hs : f.biased (f.round rm neg num den) < 1 <;> simp [hb, hs]

/-- The delivery of a fraction is that of the number that it stands for (R392). -/
theorem FloatFormat.deliver_delivers {neg : Bool} (hp : 0 < f.top) (hd : den ≠ 0) (hx : |x| = num / den)
    (hneg : x ≠ 0 → neg = decide (x < 0)) : f.Delivers wrap rm (f.deliver wrap rm neg num den z) x z := by
  have hzero : x = 0 ↔ num = 0 := by
    rw [← abs_eq_zero, hx, div_eq_zero_iff, Nat.cast_eq_zero, Nat.cast_eq_zero, or_iff_left hd]
  refine ⟨fun h0 => ?_, fun e h1 h2 => ?_⟩
  · rw [FloatFormat.deliver, if_pos (hzero.1 h0)]
    exact ⟨FloatFormat.unpack_pack (f.zero_fits z), rfl, rfl⟩
  · have h0 : x ≠ 0 := abs_pos.1 ((zpow_pos two_pos e).trans_le h1)
    have hround := FloatFormat.round_eq (f := f) (rm := rm) hd hx h1 h2
    rw [hneg h0, FloatFormat.deliver_eq (fun hn => h0 (hzero.2 hn))]
    generalize f.round rm (decide (x < 0)) num den = r at hround ⊢
    have hexp : f.biased r = f.exponentOf rm x e := by
      rw [hround, FloatFormat.biased, FloatFormat.exponentOf]
      simp only [decide_eq_true_iff]
      split_ifs <;> ring
    have hfrac : r.sig % 2 ^ f.fracBits = f.sigOf rm x e % 2 ^ f.fracBits := by
      rw [hround]
      dsimp only
      split_ifs with hfull
      · rw [hfull, Nat.pow_succ, Nat.mod_self, Nat.mul_mod_right]
      · rfl
    have htrap : ∀ big, resultBits r big = trapBits (f.scaled x e) big !big := by
      rw [hround]
      rintro (- | -) <;> simp [resultBits, trapBits]
    rw [hexp]
    refine ⟨?_, by rw [hround]; rfl, ?_⟩
    · rw [← hfrac]
      exact FloatFormat.unpack_pack (f.build_fits _ _ _)
    · by_cases hb : (f.top : Int) ≤ f.exponentOf rm x e
      · have hs : ¬ f.exponentOf rm x e < 1 := by omega
        simp [hb, hs, htrap]
      · by_cases hs : f.exponentOf rm x e < 1 <;> simp [hb, hs, htrap]

end

/-! ## The operations deliver the exact results -/

section
variable {f : FloatFormat} {wrap : Int} {rm : BitVec 2} {u v : Unpacked} {d e : Dyadic} {z : Bool}

theorem Dyadic.scaled_mul {m : Int} (hm : m ≤ d.exp) : (d.scaled m : ℚ) * 2 ^ m = d.toRat := by
  have hk : ((d.exp - m).toNat : Int) + m = d.exp := by omega
  unfold Dyadic.scaled Dyadic.toRat
  push_cast
  rw [mul_assoc, ← zpow_natCast, ← zpow_add₀ two_ne_zero, hk]

theorem Dyadic.toRat_add : (d.add e).toRat = d.toRat + e.toRat := by
  change (((d.scaled (min d.exp e.exp) + e.scaled (min d.exp e.exp) : Int) : ℚ)) * 2 ^ min d.exp e.exp = _
  rw [Int.cast_add, add_mul, d.scaled_mul (min_le_left ..), e.scaled_mul (min_le_right ..)]

theorem FloatFormat.rat_neg : f.rat { u with neg := !u.neg } = - f.rat u := by
  have hs : (if !u.neg then -1 else 1 : ℚ) = - (if u.neg then -1 else 1) := by cases u.neg <;> simp
  unfold FloatFormat.rat
  rw [hs, neg_mul, neg_mul]

theorem FloatFormat.rat_pos_iff (h : f.rat u ≠ 0) : 0 < f.rat u ↔ u.neg = false := by
  rw [← Bool.not_eq_true, ← FloatFormat.rat_neg_iff h, not_lt, h.symm.le_iff_lt]

/-- Delivery of a dyadic number (R392). -/
theorem FloatFormat.deliverDyadic_delivers (hp : 0 < f.top) :
    f.Delivers wrap rm (f.deliverDyadic wrap rm d z) d.toRat z :=
  FloatFormat.deliver_delivers hp d.den_pos.ne' Dyadic.num_div_den.symm fun _ => decide_eq_decide.2 d.toRat_neg_iff.symm

theorem FloatFormat.addition_delivers (hp : 0 < f.top) :
    f.Delivers wrap rm (f.addition wrap rm u v) (f.rat u + f.rat v)
      (if u.neg = v.neg then u.neg else decide (rm = 0b11#2)) := by
  rw [FloatFormat.rat_eq_toRat, FloatFormat.rat_eq_toRat, ← Dyadic.toRat_add]
  exact FloatFormat.deliverDyadic_delivers hp

theorem FloatFormat.subtraction_delivers (hp : 0 < f.top) :
    f.Delivers wrap rm (f.subtraction wrap rm u v) (f.rat u - f.rat v)
      (if u.neg ≠ v.neg then u.neg else decide (rm = 0b11#2)) := by
  have h := FloatFormat.addition_delivers (wrap := wrap) (rm := rm) (u := u) (v := { v with neg := !v.neg }) hp
  rw [FloatFormat.rat_neg, ← sub_eq_add_neg, if_congr (Bool.eq_not (a := u.neg) (b := v.neg)) rfl rfl] at h
  exact h

theorem FloatFormat.product_delivers (hp : 0 < f.top) :
    f.Delivers wrap rm (f.product wrap rm u v) (f.rat u * f.rat v) (u.neg != v.neg) := by
  have h : f.rat u * f.rat v =
      ({ mant := (f.value u).mant * (f.value v).mant, exp := (f.value u).exp + (f.value v).exp } : Dyadic).toRat := by
    rw [FloatFormat.rat_eq_toRat, FloatFormat.rat_eq_toRat]
    unfold Dyadic.toRat
    rw [zpow_add₀ two_ne_zero]
    push_cast
    ring
  rw [h]
  exact FloatFormat.deliverDyadic_delivers hp

theorem FloatFormat.quotient_delivers (hp : 0 < f.top) (hv : f.rat v ≠ 0) :
    f.Delivers wrap rm (f.quotient wrap rm u v) (f.rat u / f.rat v) (u.neg != v.neg) := by
  have hnum : (f.value v).num ≠ 0 := fun h =>
    hv (FloatFormat.rat_eq_toRat.trans (Dyadic.toRat_eq_zero_iff.2 (Dyadic.num_eq_zero_iff.1 h)))
  refine FloatFormat.deliver_delivers hp (Nat.mul_ne_zero (Dyadic.den_pos.ne') hnum) ?_ fun h => ?_
  · rw [abs_div, FloatFormat.rat_eq_toRat, FloatFormat.rat_eq_toRat, ← Dyadic.num_div_den, ← Dyadic.num_div_den,
      div_div_div_eq]
    push_cast
    rfl
  · have hu : f.rat u ≠ 0 := fun h0 => h (by rw [h0, zero_div])
    rw [Bool.eq_iff_iff, decide_eq_true_iff, bne_iff_ne, div_neg_iff, FloatFormat.rat_neg_iff hu,
      FloatFormat.rat_neg_iff hv, FloatFormat.rat_pos_iff hu, FloatFormat.rat_pos_iff hv]
    cases u.neg <;> cases v.neg <;> decide

end

/-! ## A delivered number is the exact one rounded -/

section
variable {f : FloatFormat} {wrap : Int} {rm : BitVec 2} {r : Delivered} {x : ℚ} {e : Int}

/-- Every number but 0 has a binary exponent. -/
theorem exists_binary_exponent (h : x ≠ 0) : ∃ e : Int, (2 : ℚ) ^ e ≤ |x| ∧ |x| < 2 ^ (e + 1) :=
  ⟨Int.log 2 |x|, Int.zpow_log_le_self one_lt_two (abs_pos.2 h), Int.lt_zpow_succ_log_self one_lt_two |x|⟩

/-- Half the weight of the last bit of the significand, the leading one being at e. -/
def FloatFormat.halfUlp (f : FloatFormat) (e : Int) : ℚ := 2 ^ (e - f.fracBits - 1)

theorem FloatFormat.halfUlp_pos : 0 < f.halfUlp e := zpow_pos two_pos _

theorem FloatFormat.scaled_nonneg : 0 ≤ f.scaled x e := by
  unfold FloatFormat.scaled
  positivity

theorem FloatFormat.scaled_mul_halfUlp : f.scaled x e * f.halfUlp e = |x| := by
  unfold FloatFormat.scaled FloatFormat.halfUlp
  rw [mul_assoc, ← zpow_add₀ two_ne_zero, show (f.fracBits : Int) + 1 - e + (e - f.fracBits - 1) = 0 by omega,
    zpow_zero, mul_one]

theorem FloatFormat.scaled_bounds (h1 : (2 : ℚ) ^ e ≤ |x|) (h2 : |x| < 2 ^ (e + 1)) :
    2 * (2 : ℚ) ^ f.fracBits ≤ f.scaled x e ∧ f.scaled x e < 2 * (2 : ℚ) ^ (f.fracBits + 1) := by
  have hlow : (2 : ℚ) ^ e * 2 ^ ((f.fracBits : Int) + 1 - e) = 2 * 2 ^ f.fracBits := by
    rw [← zpow_add₀ two_ne_zero, show e + ((f.fracBits : Int) + 1 - e) = (f.fracBits + 1 : Nat) by omega, zpow_natCast,
      pow_succ']
  have hhigh : (2 : ℚ) ^ (e + 1) * 2 ^ ((f.fracBits : Int) + 1 - e) = 2 * 2 ^ (f.fracBits + 1) := by
    rw [← zpow_add₀ two_ne_zero, show e + 1 + ((f.fracBits : Int) + 1 - e) = (f.fracBits + 1 + 1 : Nat) by omega,
      zpow_natCast, pow_succ']
  rw [← hlow, ← hhigh]
  unfold FloatFormat.scaled
  exact ⟨by gcongr, by gcongr⟩

/-- A magnitude of at most twice an integer is rounded to at most that integer. -/
theorem significand_le {t : ℚ} {neg : Bool} {m : Nat} (ht : 0 ≤ t) (h : t ≤ 2 * m) : significand rm neg t ≤ m := by
  have hn := (abs_lt.1 (significand_near (rm := rm) (neg := neg) ht)).2
  have hlt : (significand rm neg t : ℚ) < (m + 1 : Nat) := by
    push_cast
    linarith
  exact Nat.lt_succ_iff.1 (by exact_mod_cast hlt)

theorem le_significand {t : ℚ} {neg : Bool} {m : Nat} (ht : 0 ≤ t) (h : 2 * (m : ℚ) ≤ t) :
    m ≤ significand rm neg t := by
  have hn := (abs_lt.1 (significand_near (rm := rm) (neg := neg) ht)).1
  have hlt : (m : ℚ) < (significand rm neg t + 1 : Nat) := by
    push_cast
    linarith
  exact Nat.lt_succ_iff.1 (by exact_mod_cast hlt)

/-- The rounded significand has the bits of the format, or is the power of two that has one more. -/
theorem FloatFormat.sigOf_bounds (h1 : (2 : ℚ) ^ e ≤ |x|) (h2 : |x| < 2 ^ (e + 1)) :
    2 ^ f.fracBits ≤ f.sigOf rm x e ∧ f.sigOf rm x e ≤ 2 ^ (f.fracBits + 1) := by
  obtain ⟨hlow, hhigh⟩ := FloatFormat.scaled_bounds (f := f) h1 h2
  exact ⟨le_significand FloatFormat.scaled_nonneg (by push_cast; exact hlow),
    significand_le FloatFormat.scaled_nonneg (by push_cast; exact hhigh.le)⟩

/-- Numbers from the smallest normal to the largest finite one do not trap (R392). -/
theorem FloatFormat.DeliversAt.trap_none (h : f.DeliversAt wrap rm r x e) (h1 : (2 : ℚ) ^ e ≤ |x|)
    (h2 : |x| < 2 ^ (e + 1)) (hmin : f.minNormal ≤ |x|) (hmax : |x| ≤ f.maxFinite) : r.trap = none := by
  have hlow : 1 - (f.bias : Int) < e + 1 := (zpow_lt_zpow_iff_right₀ (one_lt_two (α := ℚ))).1 (hmin.trans_lt h2)
  have hhigh : e < f.top - f.bias := by
    refine (zpow_lt_zpow_iff_right₀ (one_lt_two (α := ℚ))).1 (h1.trans_lt (hmax.trans_lt ?_))
    have hsplit : (2 : ℚ) ^ ((f.top : Int) - f.bias) =
        2 ^ (f.fracBits + 1) * 2 ^ ((f.top : Int) - 1 - f.bias - f.fracBits) := by
      rw [← zpow_natCast, ← zpow_add₀ two_ne_zero]
      congr 1
      push_cast
      ring
    rw [hsplit]
    unfold FloatFormat.maxFinite
    gcongr
    linarith
  have htop : f.exponentOf rm x e < f.top := by
    have hfull : f.sigOf rm x e = 2 ^ (f.fracBits + 1) → e < f.top - 1 - f.bias := by
      intro hs
      by_contra hc
      have he : e = f.top - 1 - f.bias := by omega
      have ht : f.scaled x e ≤ 2 * (2 ^ (f.fracBits + 1) - 1 : Nat) := by
        have hg := FloatFormat.halfUlp_pos (f := f) (e := e)
        have hmul : |x| ≤ 2 * (2 ^ (f.fracBits + 1) - 1 : Nat) * f.halfUlp e := by
          refine hmax.trans_eq ?_
          unfold FloatFormat.maxFinite FloatFormat.halfUlp
          rw [he, mul_comm (2 : ℚ), mul_assoc, ← zpow_one_add₀ two_ne_zero, Nat.cast_sub Nat.one_le_two_pow]
          push_cast
          congr 2
          ring
        rw [← FloatFormat.scaled_mul_halfUlp (f := f) (e := e)] at hmul
        exact le_of_mul_le_mul_right hmul hg
      have hle : f.sigOf rm x e ≤ _ := significand_le FloatFormat.scaled_nonneg ht
      have := Nat.two_pow_pos (f.fracBits + 1)
      omega
    unfold FloatFormat.exponentOf
    simp only [decide_eq_true_iff]
    split_ifs with hs
    · have := hfull hs
      omega
    · omega
  have hone : 1 ≤ f.exponentOf rm x e := by
    unfold FloatFormat.exponentOf
    split_ifs <;> omega
  rw [h.trap, decide_eq_false (not_le.2 htop), decide_eq_false (not_lt.2 hone)]
  rfl

/-- The fields of a result that does not trap are those of the rounded number (R392). -/
theorem FloatFormat.DeliversAt.fields (h : f.DeliversAt wrap rm r x e) (ht : r.trap = none) :
    1 ≤ f.exponentOf rm x e ∧ f.exponentOf rm x e < f.top ∧ f.unpack r.bits =
      { neg := decide (x < 0), exponent := (f.exponentOf rm x e).toNat,
        fraction := f.sigOf rm x e % 2 ^ f.fracBits } := by
  have htrap := h.trap
  rw [ht] at htrap
  split_ifs at htrap with hc
  rw [Bool.or_eq_true, decide_eq_true_iff, decide_eq_true_iff, not_or, not_le, not_lt] at hc
  obtain ⟨hbig, hsmall⟩ := hc
  have hmod : f.exponentOf rm x e % 2 ^ f.expBits = f.exponentOf rm x e := by
    refine Int.emod_eq_of_lt (by omega) (hbig.trans ?_)
    have := Nat.two_pow_pos f.expBits
    unfold FloatFormat.top
    exact_mod_cast Nat.sub_lt this one_pos
  refine ⟨hsmall, hbig, ?_⟩
  rw [h.bits, FloatFormat.wrapped, decide_eq_false (not_le.2 hbig), decide_eq_false (not_lt.2 hsmall)]
  simp only [Bool.false_eq_true, if_false, hmod]

theorem FloatFormat.two_mul_halfUlp : 2 * f.halfUlp e = 2 ^ (e - f.fracBits) := by
  unfold FloatFormat.halfUlp
  rw [← zpow_one_add₀ two_ne_zero]
  congr 1
  ring

/-- The fraction and the exponent of the rounded number: those of its significand, or the next power of two (R392). -/
theorem FloatFormat.exponentOf_cases (h1 : (2 : ℚ) ^ e ≤ |x|) (h2 : |x| < 2 ^ (e + 1)) :
    (f.exponentOf rm x e = e + f.bias ∧ 2 ^ f.fracBits + f.sigOf rm x e % 2 ^ f.fracBits = f.sigOf rm x e) ∨
    (f.exponentOf rm x e = e + 1 + f.bias ∧ f.sigOf rm x e % 2 ^ f.fracBits = 0 ∧
      f.sigOf rm x e = 2 ^ (f.fracBits + 1)) := by
  obtain ⟨hlow, hhigh⟩ := FloatFormat.sigOf_bounds (f := f) (rm := rm) h1 h2
  unfold FloatFormat.exponentOf
  by_cases hs : f.sigOf rm x e = 2 ^ (f.fracBits + 1)
  · refine .inr ⟨by simp [hs], ?_, hs⟩
    rw [hs, Nat.pow_succ, Nat.mul_mod_right]
  · refine .inl ⟨by simp [hs], ?_⟩
    have := Nat.pow_succ (n := 2) (m := f.fracBits)
    rw [Nat.mod_eq_sub_mod hlow, Nat.mod_eq_of_lt (by omega)]
    omega

/-- A result that does not trap: its class, its magnitude and the weight of its last bit (R390, R392). -/
theorem FloatFormat.DeliversAt.value (h : f.DeliversAt wrap rm r x e) (h1 : (2 : ℚ) ^ e ≤ |x|)
    (h2 : |x| < 2 ^ (e + 1)) (ht : r.trap = none) :
    f.classify (f.unpack r.bits) = .normal ∧ |f.rat (f.unpack r.bits)| = 2 * f.sigOf rm x e * f.halfUlp e ∧
      2 * f.halfUlp e ≤ f.ulp (f.unpack r.bits) ∧ (f.ulp (f.unpack r.bits) = 2 * f.halfUlp e →
        2 ^ f.fracBits + (f.unpack r.bits).fraction = f.sigOf rm x e) := by
  obtain ⟨hE1, hE2, hu⟩ := h.fields ht
  have hne : (f.unpack r.bits).exponent ≠ 0 := by rw [hu]; dsimp only; omega
  have hnormal : f.classify (f.unpack r.bits) = .normal := by
    have htop : (f.unpack r.bits).exponent ≠ f.top := by rw [hu]; dsimp only; omega
    rw [FloatFormat.classify, if_neg hne, if_neg htop]
  refine ⟨hnormal, ?_⟩
  rw [FloatFormat.abs_rat hne, FloatFormat.ulp, hu]
  dsimp only
  rw [Int.toNat_of_nonneg (by omega), mul_right_comm, FloatFormat.two_mul_halfUlp]
  obtain ⟨hE, hsig⟩ | ⟨hE, hfrac, hsig⟩ := FloatFormat.exponentOf_cases (f := f) (rm := rm) h1 h2
  · rw [hE, add_sub_cancel_right, hsig]
    exact ⟨mul_comm _ _, le_rfl, fun _ => rfl⟩
  · have hnext : (2 : ℚ) ^ (e + 1 - f.fracBits) = 2 * 2 ^ (e - f.fracBits) := by
      rw [← zpow_one_add₀ two_ne_zero]
      congr 1
      ring
    have hpos : (0 : ℚ) < 2 ^ (e - f.fracBits) := zpow_pos two_pos _
    rw [hE, add_sub_cancel_right, hfrac, hsig, hnext]
    refine ⟨?_, by linarith, fun hc => absurd hc (by linarith)⟩
    push_cast
    ring

/-- A magnitude that is not rounded up is rounded toward 0, and one that is rounded up whenever it can be, away from
it. -/
theorem abs_le_of_increments {t : ℚ} {neg : Bool} (ht : 0 ≤ t) :
    (increments rm neg t = false → 2 * (significand rm neg t : ℚ) ≤ t) ∧
    (increments rm neg t = (roundBit t || stickyBit t) → t ≤ 2 * (significand rm neg t : ℚ)) := by
  obtain ⟨h1, h2, h3⟩ := significand_bounds (rm := rm) (neg := neg) ht
  refine ⟨fun hi => (h1 hi).1, fun hi => ?_⟩
  cases hc : roundBit t || stickyBit t
  · rw [hc, Bool.false_eq_true, false_iff, not_not] at h3
    exact h3.ge
  · exact (h2 (hi.trans hc)).1

/-- Numbers of one sign differ as their magnitudes do. -/
theorem abs_sub_of_sign {a b : ℚ} (h : a < 0 ↔ b < 0) : |a - b| = |(|a| - |b|)| := by
  by_cases hb : b < 0
  · rw [abs_of_neg hb, abs_of_neg (h.2 hb), ← abs_neg]
    congr 1
    ring
  · rw [abs_of_nonneg (not_lt.1 hb), abs_of_nonneg (not_lt.1 (mt h.1 hb))]

theorem FloatFormat.rat_ne_zero {u : Unpacked} (h : f.classify u = .normal) : f.rat u ≠ 0 := by
  intro h0
  unfold FloatFormat.classify at h
  rw [if_pos (FloatFormat.rat_eq_zero_iff.1 h0)] at h
  split_ifs at h

/-- An even significand has an even fraction. -/
theorem even_fraction {k frac sig : Nat} (hk : k ≠ 0) (h : 2 ^ k + frac = sig) (hs : sig % 2 = 0) : frac % 2 = 0 := by
  have hd : 2 ∣ 2 ^ k := dvd_pow_self 2 hk
  omega

end

/-! ### The four methods

Of a result that does not trap, and is not 0. -/

section
variable {f : FloatFormat} {wrap : Int} {rm : BitVec 2} {r : Delivered} {x : ℚ} {e : Int}
  (h : f.DeliversAt wrap rm r x e) (h1 : (2 : ℚ) ^ e ≤ |x|) (h2 : |x| < 2 ^ (e + 1)) (ht : r.trap = none)
include h h1 h2 ht

theorem FloatFormat.DeliversAt.sign : f.rat (f.unpack r.bits) < 0 ↔ x < 0 := by
  rw [FloatFormat.rat_neg_iff (FloatFormat.rat_ne_zero (h.value h1 h2 ht).1), h.bits, decide_eq_true_iff]

/-- The error of rounding. -/
theorem FloatFormat.DeliversAt.abs_sub :
    |f.rat (f.unpack r.bits) - x| = |2 * f.sigOf rm x e - f.scaled x e| * f.halfUlp e := by
  obtain ⟨-, habs, -⟩ := h.value h1 h2 ht
  rw [abs_sub_of_sign (h.sign h1 h2 ht), habs, ← FloatFormat.scaled_mul_halfUlp (f := f) (x := x) (e := e), ← sub_mul,
    abs_mul, abs_of_pos FloatFormat.halfUlp_pos]

theorem FloatFormat.DeliversAt.toward (hi : increments rm (decide (x < 0)) (f.scaled x e) = false) :
    |f.rat (f.unpack r.bits)| ≤ |x| := by
  obtain ⟨-, habs, -⟩ := h.value h1 h2 ht
  rw [habs, ← FloatFormat.scaled_mul_halfUlp (f := f) (e := e)]
  exact mul_le_mul_of_nonneg_right ((abs_le_of_increments FloatFormat.scaled_nonneg).1 hi) FloatFormat.halfUlp_pos.le

theorem FloatFormat.DeliversAt.away
    (hi : increments rm (decide (x < 0)) (f.scaled x e) = (roundBit (f.scaled x e) || stickyBit (f.scaled x e))) :
    |x| ≤ |f.rat (f.unpack r.bits)| := by
  obtain ⟨-, habs, -⟩ := h.value h1 h2 ht
  rw [habs, ← FloatFormat.scaled_mul_halfUlp (f := f) (e := e)]
  exact mul_le_mul_of_nonneg_right ((abs_le_of_increments FloatFormat.scaled_nonneg).2 hi) FloatFormat.halfUlp_pos.le

/-- RM = 00: at most half a last bit away, the fraction even at a half. -/
theorem FloatFormat.DeliversAt.nearest (hf : f.fracBits ≠ 0) (hrm : rm = 0#2) :
    2 * |f.rat (f.unpack r.bits) - x| ≤ f.ulp (f.unpack r.bits) ∧
      (2 * |f.rat (f.unpack r.bits) - x| = f.ulp (f.unpack r.bits) → (f.unpack r.bits).fraction % 2 = 0) := by
  subst hrm
  obtain ⟨-, -, hulp, htie⟩ := h.value h1 h2 ht
  obtain ⟨hnear, heven⟩ := significand_nearest (neg := decide (x < 0)) (f.scaled_nonneg (x := x) (e := e))
  have hg : 0 < 2 * f.halfUlp e := mul_pos two_pos FloatFormat.halfUlp_pos
  have hle : |2 * (f.sigOf 0#2 x e : ℚ) - f.scaled x e| * (2 * f.halfUlp e) ≤ 2 * f.halfUlp e :=
    mul_le_of_le_one_left hg.le hnear
  rw [h.abs_sub h1 h2 ht, mul_left_comm]
  refine ⟨hle.trans hulp, fun heq => ?_⟩
  have hulp' := le_antisymm (heq ▸ hle) hulp
  have hone := (mul_eq_right₀ hg.ne').1 (heq.trans hulp')
  exact even_fraction hf (htie hulp') (heven hone)

/-- The other methods: less than a last bit away. -/
theorem FloatFormat.DeliversAt.near : |f.rat (f.unpack r.bits) - x| < f.ulp (f.unpack r.bits) := by
  obtain ⟨-, -, hulp, -⟩ := h.value h1 h2 ht
  rw [h.abs_sub h1 h2 ht]
  exact (mul_lt_mul_of_pos_right (significand_near FloatFormat.scaled_nonneg) FloatFormat.halfUlp_pos).trans_le hulp

/-- RM = 01: toward plus infinity. -/
theorem FloatFormat.DeliversAt.ceiling (hrm : rm = 1#2) : x ≤ f.rat (f.unpack r.bits) := by
  subst hrm
  have hsign := h.sign h1 h2 ht
  by_cases hs : x < 0
  · have hle := h.toward h1 h2 ht (by rw [decide_eq_true hs]; rfl)
    rw [abs_of_neg hs, abs_of_neg (hsign.2 hs)] at hle
    exact neg_le_neg_iff.1 hle
  · have hle := h.away h1 h2 ht (by rw [decide_eq_false hs]; rfl)
    rwa [abs_of_nonneg (not_lt.1 hs), abs_of_nonneg (not_lt.1 (mt hsign.1 hs))] at hle

/-- RM = 11: toward minus infinity. -/
theorem FloatFormat.DeliversAt.floor (hrm : rm = 3#2) : f.rat (f.unpack r.bits) ≤ x := by
  subst hrm
  have hsign := h.sign h1 h2 ht
  by_cases hs : x < 0
  · have hle := h.away h1 h2 ht (by rw [decide_eq_true hs]; rfl)
    rw [abs_of_neg hs, abs_of_neg (hsign.2 hs)] at hle
    exact neg_le_neg_iff.1 hle
  · have hle := h.toward h1 h2 ht (by rw [decide_eq_false hs]; rfl)
    rwa [abs_of_nonneg (not_lt.1 hs), abs_of_nonneg (not_lt.1 (mt hsign.1 hs))] at hle

/-- IR says whether the result differs from the exact number (R392). -/
theorem FloatFormat.DeliversAt.inexact_iff : r.inexact = true ↔ f.rat (f.unpack r.bits) ≠ x := by
  have hbits := (significand_bounds (rm := rm) (neg := decide (x < 0)) (f.scaled_nonneg (x := x) (e := e))).2.2
  have hg : f.halfUlp e ≠ 0 := FloatFormat.halfUlp_pos.ne'
  have hdiff := h.abs_sub h1 h2 ht
  rw [h.inexact, hbits, not_iff_not, ← sub_eq_zero, ← sub_eq_zero (a := f.rat _), ← abs_eq_zero (a := f.rat _ - x),
    hdiff, mul_eq_zero, or_iff_left hg, abs_eq_zero]
  rfl

/-- The result is the exact number rounded (R390). -/
theorem FloatFormat.DeliversAt.rounds (hf : f.fracBits ≠ 0) : f.Rounds rm x (f.unpack r.bits) := by
  have hcls := (h.value h1 h2 ht).1
  have hx : x ≠ 0 := abs_pos.1 ((zpow_pos two_pos e).trans_le h1)
  refine ⟨by rw [FloatFormat.usable, hcls]; rfl, iff_of_false (FloatFormat.rat_ne_zero hcls) hx, ?_, h.ceiling h1 h2 ht,
    fun hrm => ?_, h.floor h1 h2 ht⟩
  · split_ifs with hrm
    · exact h.nearest h1 h2 ht hf hrm
    · exact .inl (h.near h1 h2 ht)
  · subst hrm
    exact h.toward h1 h2 ht rfl

end

section
variable {f : FloatFormat} {wrap : Int} {rm : BitVec 2} {r : Delivered} {x : ℚ} {z : Bool}

/-- A delivered number is the exact one rounded (R390, R392). -/
theorem FloatFormat.Delivers.rounds (hf : f.fracBits ≠ 0) (h : f.Delivers wrap rm r x z) (ht : r.trap = none) :
    f.Rounds rm x (f.unpack r.bits) ∧ (r.inexact = true ↔ f.rat (f.unpack r.bits) ≠ x) ∧
      f.ccFloat (f.unpack r.bits) = (if x < 0 then ccL else if x = 0 then ccE else ccG) := by
  by_cases hx : x = 0
  · obtain ⟨hu, hi, -⟩ := h.zero hx
    have h0 : f.rat (f.unpack r.bits) = 0 := FloatFormat.rat_eq_zero_iff.2 (by rw [hu])
    have hcls : f.classify (f.unpack r.bits) = .zero := by rw [hu]; rfl
    have hulp : 0 ≤ f.ulp (f.unpack r.bits) := (zpow_pos two_pos _).le
    refine ⟨⟨by rw [FloatFormat.usable, hcls]; rfl, iff_of_true h0 hx, ?_, ?_, ?_, ?_⟩, ?_, ?_⟩
    · rw [h0, hx, sub_zero, abs_zero, mul_zero]
      split_ifs
      · exact ⟨hulp, fun _ => congrArg (fun u => u.fraction % 2) hu⟩
      · exact .inr rfl
    all_goals simp [h0, hx, hi, hcls, FloatFormat.ccFloat]
  · obtain ⟨e, h1, h2⟩ := exists_binary_exponent hx
    have ha := h.nonzero e h1 h2
    have hr := ha.rounds h1 h2 ht hf
    have h0 : f.rat (f.unpack r.bits) = 0 ↔ x = 0 := hr.2.1
    refine ⟨hr, ha.inexact_iff h1 h2 ht, ?_⟩
    rw [FloatFormat.ccFloat_eq fun hz => absurd (h0.1 hz) hx, if_congr (ha.sign h1 h2 ht) rfl (if_congr h0 rfl rfl)]

theorem FloatFormat.Delivers.trap_none (h : f.Delivers wrap rm r x z)
    (hx : x = 0 ∨ f.minNormal ≤ |x| ∧ |x| ≤ f.maxFinite) : r.trap = none := by
  by_cases h0 : x = 0
  · exact (h.zero h0).2.2
  · obtain ⟨hmin, hmax⟩ := hx.resolve_left h0
    obtain ⟨e, h1, h2⟩ := exists_binary_exponent h0
    exact (h.nonzero e h1 h2).trap_none h1 h2 hmin hmax

end

/-- What the statement says of a delivered number and of its bits. -/
theorem FloatFormat.Delivers.number {f : FloatFormat} {wrap : Int} {rm : BitVec 2} {r : Delivered} {x : ℚ} {z : Bool}
    (hf : f.fracBits ≠ 0) (h : f.Delivers wrap rm r x z) :
    (r.trap = none → f.Rounds rm x (f.unpack r.bits) ∧ (r.inexact = true ↔ f.rat (f.unpack r.bits) ≠ x) ∧
      f.ccFloat (f.unpack r.bits) = (if x < 0 then ccL else if x = 0 then ccE else ccG)) ∧
    (x = 0 ∨ f.minNormal ≤ |x| ∧ |x| ≤ f.maxFinite → r.trap = none) :=
  ⟨h.rounds hf, h.trap_none⟩

/-- Settles O18: each operation delivers its exact result, and what a delivered result is. -/
theorem deliveredNumbersAreRoundedExactNumbers : Obligations.DeliveredNumbersAreRoundedExactNumbers := by
  refine ⟨fun f wrap rm v w z d hf => ?_, fun f wrap rm v w z d hf => ?_⟩
  · have hfrac : f.fracBits ≠ 0 := by obtain rfl | rfl := hf <;> decide
    have hp : 0 < f.top := by obtain rfl | rfl := hf <;> decide
    intro x y claim
    exact ⟨(FloatFormat.deliverDyadic_delivers hp).number hfrac, fun _ _ =>
      ⟨(FloatFormat.addition_delivers hp).number hfrac, (FloatFormat.subtraction_delivers hp).number hfrac,
        (FloatFormat.product_delivers hp).number hfrac,
        fun hy => (FloatFormat.quotient_delivers hp hy).number hfrac⟩⟩
  · have hp : 0 < f.top := by obtain rfl | rfl := hf <;> decide
    intro x y claim
    have hc : ∀ {r : Delivered} {exact : ℚ} {minusZero : Bool}, f.Delivers wrap rm r exact minusZero →
        claim r exact minusZero := fun h =>
      ⟨h.zero, fun e h1 h2 => ⟨(h.nonzero e h1 h2).bits, (h.nonzero e h1 h2).inexact, (h.nonzero e h1 h2).trap⟩⟩
    exact ⟨hc (FloatFormat.deliverDyadic_delivers hp), fun _ _ =>
      ⟨hc (FloatFormat.addition_delivers hp), hc (FloatFormat.subtraction_delivers hp),
        hc (FloatFormat.product_delivers hp), fun hy => hc (FloatFormat.quotient_delivers hp hy)⟩⟩

end Sys2Proof.Machine

/-! The floating-point arithmetic, the negations, the compares and the tests (spec/43_float_decimal.md R391 to R406). -/

namespace Sys2Proof.Machine

/-! ## Operands and results -/

section
variable {i : Instr} {s u : State} {f : FloatFormat} {v w : Nat} {k : Unpacked → Unpacked → M End} {m : M End}
  {d : Delivered}

theorem withOperands_usable (h1 : f.usable (f.unpack v) = true) (h2 : f.usable (f.unpack w) = true) :
    withOperands f v w k = k (f.unpack v) (f.unpack w) :=
  if_pos ⟨beq_iff_eq.1 h1, beq_iff_eq.1 h2⟩

theorem withOperands_unusable (h : f.usable (f.unpack v) = false ∨ f.usable (f.unpack w) = false) :
    withOperands f v w k =
      operandTrap (classBits (f.classify (f.unpack v))) (classBits (f.classify (f.unpack w))) :=
  if_neg fun ⟨h1, h2⟩ => h.elim (fun h => beq_eq_false_iff_ne.1 h h1) fun h => beq_eq_false_iff_ne.1 h h2

/-- The end of an instruction that delivers d from s (R392). -/
def resultEnd (s : State) (d : Delivered) : End :=
  match d.trap with
  | none => done
  | some b => { own := some (.floatResult, some (BitVec.ofNat 32 b ||| s.cirHalf)) }

theorem concludeResult_apply (f : FloatFormat) (d : Delivered) (s : State) :
    concludeResult f d s = .ok (resultEnd s d, s.noteResult f d) := by
  unfold concludeResult State.noteResult resultEnd
  cases d.trap <;> cases d.inexact <;> rfl

/-- An instruction whose body ends in the delivery of a result (R392). -/
theorem RunsBody.delivers (h : RunsBody i s m) (hm : m s = concludeResult f d u) (hc : u.CIR = s.CIR) :
    EndsWithResult i s u f d := by
  have hu : u.cirHalf = s.cirHalf := congrArg (fun w => (field w 16 16).setWidth 32) hc
  rw [concludeResult_apply, resultEnd, hu] at hm
  unfold EndsWithResult
  cases ht : d.trap with
  | none =>
    rw [ht] at hm
    exact h.completes hm (done_plain _)
  | some b =>
    rw [ht] at hm
    exact endsInTrap_of_body h.body rfl (decide_eq_false h.notDup) (atomic_ok hm)

end

/-! ## Arithmetic -/

section
variable {i : Instr} {s : State} {op : Int → BitVec 2 → Unpacked → Unpacked → Delivered} {divides : Bool}
  {k : Unpacked → Unpacked → M End}

/-- The two doubles on top of the stack, and their check (R391). -/
theorem doubleOperands_apply (hs : s.hasStack 4 0 = true) :
    (peekDouble 1 >>= fun x1 => peekDouble 0 >>= fun x2 => withOperands double x1.toNat x2.toNat k) s =
      withOperands double (s.topDouble 1).toNat (s.topDouble 0).toNat k s := by
  rw [M.bind_ok (peekDouble_below hs (by omega)), M.bind_ok (peekDouble_below hs (by omega))]

/-- The two singles on top of the stack, and their check (R391). -/
theorem singleOperands_apply {n : Nat} (hs : s.hasStack n 0 = true) (hn : 1 < n) :
    (peek 1 >>= fun y1 => peek 0 >>= fun y2 => withOperands single y1.toNat y2.toNat k) s =
      withOperands single (s.top 1).toNat (s.top 0).toNat k s := by
  rw [M.bind_ok (peek_present (State.hasStack_below hs hn)),
    M.bind_ok (peek_present (State.hasStack_below hs (by omega)))]

/-- The operations on doubles (R393 to R396). -/
theorem doubleOp_ends (h : RunsBody i s (doubleOp op divides)) (hdiv : i = .fdiv ↔ divides = true)
    (hs : s.hasStack 4 0 = true) :
    let x := double.unpack (s.topDouble 1).toNat
    let y := double.unpack (s.topDouble 0).toNat
    let d := op s.cfg.wrapDouble s.rounding x y
    let r : DWord := BitVec.ofNat 64 d.bits
    if s.canPop 2 = false then Raises i s .stackUnderflow none
    else if double.usable x = false ∨ double.usable y = false then
      EndsInOperandTrap i s s (classBits (double.classify x)) (classBits (double.classify y))
    else if i = .fdiv ∧ double.classify y = .zero then EndsInOperandTrap i s s 0 0
    else EndsWithResult i s (((s.putTop 3 (hiWord r)).putTop 2 (loWord r)).popped 2) double d := by
  intro x y d r
  by_cases hp : s.canPop 2 = false
  · rw [if_pos hp]
    exact h.raises (M.bind_error (checkPop_cannot hp))
  have hbody : doubleOp op divides s = withOperands double (s.topDouble 1).toNat (s.topDouble 0).toNat _ s :=
    (M.bind_ok (checkPop_can (Bool.eq_true_of_not_eq_false hp))).trans (doubleOperands_apply hs)
  rw [if_neg hp]
  by_cases hu : double.usable x = false ∨ double.usable y = false
  · rw [if_pos hu]
    rw [withOperands_unusable hu] at hbody
    exact h.operandTrap hbody rfl
  rw [if_neg hu]
  rw [not_or, Bool.not_eq_false, Bool.not_eq_false] at hu
  rw [withOperands_usable hu.1 hu.2] at hbody
  by_cases hz : divides = true ∧ double.classify y = .zero
  · rw [if_pos ⟨hdiv.2 hz.1, hz.2⟩]
    rw [if_pos hz] at hbody
    exact h.operandTrap hbody rfl
  · rw [if_neg fun hc => hz ⟨hdiv.1 hc.1, hc.2⟩]
    rw [if_neg hz, M.get_bind, M.bind_ok (pokeDouble_words hs (by omega)), dropWords_bind] at hbody
    exact h.delivers hbody rfl

/-- The operations on singles (R400 to R403). -/
theorem singleOp_ends (h : RunsBody i s (singleOp op divides)) (hdiv : i = .fdvs ↔ divides = true)
    (hs : s.hasStack 2 0 = true) :
    let x := single.unpack (s.top 1).toNat
    let y := single.unpack (s.top 0).toNat
    let d := op s.cfg.wrapSingle s.rounding x y
    if single.usable x = false ∨ single.usable y = false then
      EndsInOperandTrap i s s (classBits (single.classify x)) (classBits (single.classify y))
    else if i = .fdvs ∧ single.classify y = .zero then EndsInOperandTrap i s s 0 0
    else if s.canPop 1 = false then Raises i s .stackUnderflow none
    else EndsWithResult i s ((s.putTop 1 (BitVec.ofNat 32 d.bits)).popped 1) single d := by
  intro x y d
  have hbody : singleOp op divides s = withOperands single (s.top 1).toNat (s.top 0).toNat _ s :=
    singleOperands_apply hs (by omega)
  by_cases hu : single.usable x = false ∨ single.usable y = false
  · rw [if_pos hu]
    rw [withOperands_unusable hu] at hbody
    exact h.operandTrap hbody rfl
  rw [if_neg hu]
  rw [not_or, Bool.not_eq_false, Bool.not_eq_false] at hu
  rw [withOperands_usable hu.1 hu.2] at hbody
  by_cases hz : divides = true ∧ single.classify y = .zero
  · rw [if_pos ⟨hdiv.2 hz.1, hz.2⟩]
    rw [if_pos hz] at hbody
    exact h.operandTrap hbody rfl
  rw [if_neg fun hc => hz ⟨hdiv.1 hc.1, hc.2⟩]
  rw [if_neg hz] at hbody
  by_cases hp : s.canPop 1 = false
  · rw [if_pos hp]
    exact h.raises (hbody.trans (M.bind_error (checkPop_cannot hp)))
  · rw [if_neg hp]
    rw [M.bind_ok (checkPop_can (Bool.eq_true_of_not_eq_false hp)), M.get_bind,
      M.bind_ok (replaceTwo_below hs (by omega))] at hbody
    exact h.delivers hbody rfl

end

/-- Settles O19: the operations on doubles, then those on singles, by their common bodies. -/
theorem floatArithmeticDeliversTheResult : Obligations.FloatArithmeticDeliversTheResult := by
  refine ⟨fun s i op hop => ?_, fun s i op hop => ?_⟩
  · rcases hop with h | h | h | h <;> cases h
    · exact doubleOp_ends (divides := false) ⟨rfl, nofun⟩ (by decide)
    · exact doubleOp_ends (divides := false) ⟨rfl, nofun⟩ (by decide)
    · exact doubleOp_ends (divides := false) ⟨rfl, nofun⟩ (by decide)
    · exact doubleOp_ends (divides := true) ⟨rfl, nofun⟩ (by decide)
  · rcases hop with h | h | h | h <;> cases h
    · exact singleOp_ends (divides := false) ⟨rfl, nofun⟩ (by decide)
    · exact singleOp_ends (divides := false) ⟨rfl, nofun⟩ (by decide)
    · exact singleOp_ends (divides := false) ⟨rfl, nofun⟩ (by decide)
    · exact singleOp_ends (divides := true) ⟨rfl, nofun⟩ (by decide)

end Sys2Proof.Machine

/-! The negations, the compares and the tests of floating-point numbers (spec/43_float_decimal.md R397 to R406). -/

namespace Sys2Proof.Machine

/-! ## The sign bit -/

/-- The number u with the sign b. -/
def Unpacked.withSign (u : Unpacked) (b : Bool) : Unpacked := { u with neg := b }

section
variable {f : FloatFormat} {u : Unpacked} {v : Nat} {a : Word} {b : Bool}

theorem FloatFormat.withSign_fits (hu : f.Fits u) : f.Fits (u.withSign b) := ⟨hu.exponent, hu.fraction⟩

theorem FloatFormat.rat_withSign_eq_zero : f.rat (u.withSign b) = 0 ↔ f.rat u = 0 :=
  (FloatFormat.rat_eq_zero_iff (u := u.withSign b)).trans (FloatFormat.rat_eq_zero_iff (f := f) (u := u)).symm


/-- The bits of a number with another sign (R390). -/
theorem FloatFormat.pack_sign : f.pack ((f.unpack v).withSign b) =
    2 ^ (f.expBits + f.fracBits) * b.toNat + v % 2 ^ (f.expBits + f.fracBits) := by
  rw [FloatFormat.pack_eq (FloatFormat.withSign_fits (f.unpack_fits v)), Nat.add_comm f.expBits, Nat.pow_add,
    Nat.mod_mul]
  change _ + (v / 2 ^ f.fracBits % 2 ^ f.expBits * 2 ^ f.fracBits + v % 2 ^ f.fracBits) = _
  rw [Nat.mul_comm (v / 2 ^ f.fracBits % 2 ^ f.expBits), Nat.add_comm (v % 2 ^ f.fracBits)]
  rfl

/-- A zero has no bit beside its sign. -/
theorem FloatFormat.low_of_zero (h : f.classify (f.unpack v) = .zero) : v % 2 ^ (f.expBits + f.fracBits) = 0 := by
  have hp : f.pack ((f.unpack v).withSign false) = 0 := by
    obtain ⟨he, hf⟩ := FloatFormat.fields_of_zero h
    rw [FloatFormat.pack, Unpacked.withSign, he, hf]
    simp
  rw [FloatFormat.pack_sign] at hp
  exact Nat.eq_zero_of_add_eq_zero_left hp

/-- The word a with the sign bit b. -/
def signedWord (a : Word) (b : Bool) : Word := BitVec.ofNat 32 (2 ^ 31 * b.toNat + a.toNat % 2 ^ 31)

theorem signedWord_flip (h : b = !a.toNat.testBit 31) : signedWord a b = a ^^^ 0x80000000#32 := by
  have ha := a.isLt
  have hdiv : (a.toNat ^^^ 2 ^ 31) / 2 ^ 31 = b.toNat := by
    rw [Nat.xor_div_two_pow, h, Nat.testBit_eq_decide_div_mod_eq]
    obtain h0 | h1 : a.toNat / 2 ^ 31 = 0 ∨ a.toNat / 2 ^ 31 = 1 := by omega
    · rw [h0]; rfl
    · rw [h1]; rfl
  have hmod : (a.toNat ^^^ 2 ^ 31) % 2 ^ 31 = a.toNat % 2 ^ 31 := by
    rw [Nat.xor_mod_two_pow, Nat.mod_self, Nat.xor_zero]
  have hval : 2 ^ 31 * b.toNat + a.toNat % 2 ^ 31 = (a ^^^ 0x80000000#32).toNat := by
    rw [← hdiv, ← hmod, Nat.div_add_mod, BitVec.toNat_xor]
    rfl
  rw [signedWord, hval, BitVec.ofNat_toNat, BitVec.setWidth_eq]

theorem signedWord_zero (h : a.toNat % 2 ^ 31 = 0) : signedWord a b = if b then 0x80000000#32 else 0#32 := by
  rw [signedWord, h]
  cases b <;> rfl

theorem single_sign : BitVec.ofNat 32 (single.pack ((single.unpack a.toNat).withSign b)) = signedWord a b := by
  rw [FloatFormat.pack_sign]
  rfl

theorem dword_toNat {c : Word} : (dword a c).toNat = 2 ^ 32 * a.toNat + c.toNat := by
  rw [dword, BitVec.toNat_append, Nat.shiftLeft_eq, Nat.mul_comm, Nat.two_pow_add_eq_or_of_lt c.isLt]

theorem double_sign {c : Word} :
    let r := BitVec.ofNat 64 (double.pack ((double.unpack (dword a c).toNat).withSign b))
    hiWord r = signedWord a b ∧ loWord r = c := by
  intro r
  have hr : r = BitVec.ofNat 64 (2 ^ 63 * b.toNat + (dword a c).toNat % 2 ^ 63) :=
    congrArg (BitVec.ofNat 64) FloatFormat.pack_sign
  have hc := c.isLt
  rw [hr, dword_toNat, hiWord_ofNat, loWord_ofNat]
  refine ⟨?_, BitVec.eq_of_toNat_eq ?_⟩
  · unfold signedWord
    congr 1
    omega
  · rw [BitVec.toNat_ofNat]
    omega

end

/-! ## Negation -/

section
variable {f : FloatFormat} {rm : BitVec 2} {u : Unpacked}

/-- The sign of (+0) - X (R397). -/
def FloatFormat.negatedSign (f : FloatFormat) (rm : BitVec 2) (u : Unpacked) : Bool :=
  if f.rat u ≠ 0 then !u.neg else !u.neg && rm == 3#2

/-- (+0) - X is X with another sign (R397, R404). -/
theorem FloatFormat.negated_bits (hfit : f.Fits u) (hu : f.usable u = true) :
    (f.negated rm u).bits = f.pack (u.withSign (f.negatedSign rm u)) := by
  have hz : (f.value { neg := false, exponent := 0, fraction := 0 }).toRat = 0 := by
    rw [Dyadic.toRat_eq_zero_iff]
    rfl
  have hx : ((f.value { neg := false, exponent := 0, fraction := 0 }).add (f.value (u.withSign !u.neg))).toRat =
      - f.rat u := by
    rw [Dyadic.toRat_add, hz, zero_add, ← FloatFormat.rat_eq_toRat]
    exact FloatFormat.rat_neg
  refine FloatFormat.deliverDyadic_exact (FloatFormat.withSign_fits hfit) ?_ fun h => ?_
  · refine Eq.trans ?_ hx.symm
    rw [FloatFormat.negatedSign]
    split_ifs with h0
    · exact FloatFormat.rat_neg
    · rw [not_not] at h0
      rw [h0, neg_zero, FloatFormat.rat_withSign_eq_zero, h0]
  · have h0 := FloatFormat.rat_withSign_eq_zero.1 h
    obtain ⟨he, hf⟩ := FloatFormat.fields_of_zero (FloatFormat.classify_of_usable hu h0)
    rw [FloatFormat.negatedSign, if_neg (not_not.2 h0), Unpacked.withSign, he, hf]
    cases u.neg <;> rfl

/-- CC of a negated number (R397, R404). -/
theorem FloatFormat.ccFloat_negated (hfit : f.Fits u) (hu : f.usable u = true) :
    f.ccFloat (f.unpack (f.negated rm u).bits) =
      if 0 < f.rat u then ccL else if 0 = f.rat u then ccE else ccG := by
  have hz : f.rat (u.withSign (f.negatedSign rm u)) = 0 → f.classify (u.withSign (f.negatedSign rm u)) = .zero :=
    fun h => FloatFormat.classify_of_usable (u := u) hu (FloatFormat.rat_withSign_eq_zero.1 h)
  rw [FloatFormat.negated_bits hfit hu, FloatFormat.unpack_pack (FloatFormat.withSign_fits hfit),
    FloatFormat.ccFloat_eq hz]
  by_cases h0 : f.rat u = 0
  · rw [FloatFormat.rat_withSign_eq_zero.2 h0, h0]
  · have hneg : f.rat (u.withSign (f.negatedSign rm u)) = - f.rat u := by
      rw [FloatFormat.negatedSign, if_pos h0]
      exact FloatFormat.rat_neg
    rw [hneg, if_congr neg_lt_zero rfl (if_congr (neg_eq_zero.trans eq_comm) rfl rfl)]

/-- The word with the sign of a negated number (R397, R404). -/
theorem signedWord_negated {a : Word} (hn : u.neg = a.toNat.testBit 31) (hz : f.rat u = 0 → a.toNat % 2 ^ 31 = 0) :
    signedWord a (f.negatedSign rm u) =
      if f.rat u ≠ 0 then a ^^^ 0x80000000#32 else if u.neg = false ∧ rm = 3#2 then 0x80000000#32 else 0#32 := by
  rw [FloatFormat.negatedSign]
  by_cases h0 : f.rat u = 0
  · rw [if_neg (not_not.2 h0), if_neg (not_not.2 h0), signedWord_zero (hz h0)]
    refine if_congr ?_ rfl rfl
    rw [Bool.and_eq_true, Bool.not_eq_true', beq_iff_eq]
  · rw [if_pos h0, if_pos h0]
    exact signedWord_flip (by rw [hn])

end

section
variable {s : State}

/-- The body of FNEG with a number, from the rounding mode (R397). -/
def negateDouble (u : Unpacked) : M End :=
  get >>= fun s =>
    let d := double.negated s.rounding u
    pokeDouble 0 (BitVec.ofNat 64 d.bits) >>= fun _ => putCC (double.ccFloat (double.unpack d.bits)) >>= fun _ =>
      pure done

theorem fneg_runs : RunsBody .fneg s (peekDouble 0 >>= fun x => withOperand double x.toNat negateDouble) := ⟨rfl, nofun⟩

/-- FNEG (R397). -/
theorem fneg_completes (hs : s.hasStack 2 0 = true) (hu : double.usable (double.unpack (s.topDouble 0).toNat) = true) :
    let y := double.unpack (s.topDouble 0).toNat
    let hi : Word := if double.rat y ≠ 0 then s.top 1 ^^^ 0x80000000#32
      else if y.neg = false ∧ s.rounding = 3#2 then 0x80000000#32 else 0#32
    CompletesAs .fneg s (((s.putTop 1 hi).putTop 0 (s.top 0)).setCC
      (if 0 < double.rat y then ccL else if 0 = double.rat y then ccE else ccG)) := by
  intro y hi
  have hfit := double.unpack_fits (s.topDouble 0).toNat
  have hbits := FloatFormat.negated_bits (rm := s.rounding) hfit hu
  obtain ⟨hhi, hlo⟩ := double_sign (a := s.top 1) (c := s.top 0) (b := double.negatedSign s.rounding y)
  have hhi' : signedWord (s.top 1) (double.negatedSign s.rounding y) = hi := by
    have hv := dword_toNat (a := s.top 1) (c := s.top 0)
    have hc := (s.top 0).isLt
    refine signedWord_negated ?_ fun h0 => ?_
    · change (dword (s.top 1) (s.top 0)).toNat.testBit 63 = _
      rw [Nat.testBit_eq_decide_div_mod_eq, Nat.testBit_eq_decide_div_mod_eq, hv, decide_eq_decide]
      omega
    · have hlow : (dword (s.top 1) (s.top 0)).toNat % 2 ^ 63 = 0 :=
        FloatFormat.low_of_zero (FloatFormat.classify_of_usable hu h0)
      omega
  refine fneg_runs.completes ?_ (done_plain _)
  rw [M.bind_ok (peekDouble_below hs (by omega)), withOperand_usable hu]
  unfold negateDouble
  rw [M.get_bind, FloatFormat.ccFloat_negated hfit hu, hbits, M.bind_ok (pokeDouble_words hs (by omega)), ← hhi', ← hhi]
  exact congrArg (fun w => Except.ok (done, ((s.putTop 1 _).putTop 0 w).setCC _)) hlo

/-- The body of FNGS with a number, from the rounding mode (R404). -/
def negateSingle (u : Unpacked) : M End :=
  get >>= fun s =>
    let d := single.negated s.rounding u
    poke 0 (BitVec.ofNat 32 d.bits) >>= fun _ => putCC (single.ccFloat (single.unpack d.bits)) >>= fun _ => pure done

theorem fngs_runs : RunsBody .fngs s (peek 0 >>= fun y => withOperand single y.toNat negateSingle) := ⟨rfl, nofun⟩

/-- FNGS (R404). -/
theorem fngs_completes (hs : s.hasStack 1 0 = true) (hu : single.usable (single.unpack (s.top 0).toNat) = true) :
    let q := single.unpack (s.top 0).toNat
    let one : Word := if single.rat q ≠ 0 then s.top 0 ^^^ 0x80000000#32
      else if q.neg = false ∧ s.rounding = 3#2 then 0x80000000#32 else 0#32
    CompletesAs .fngs s ((s.putTop 0 one).setCC
      (if 0 < single.rat q then ccL else if 0 = single.rat q then ccE else ccG)) := by
  intro q one
  have hfit := single.unpack_fits (s.top 0).toNat
  have hbits := FloatFormat.negated_bits (rm := s.rounding) hfit hu
  have hone : signedWord (s.top 0) (single.negatedSign s.rounding q) = one :=
    signedWord_negated rfl fun h0 => FloatFormat.low_of_zero (FloatFormat.classify_of_usable hu h0)
  refine fngs_runs.completes ?_ (done_plain _)
  rw [M.bind_ok (peek_present (State.hasStack_top hs)), withOperand_usable hu]
  unfold negateSingle
  rw [M.get_bind, FloatFormat.ccFloat_negated hfit hu, hbits, single_sign, M.bind_ok (poke_below hs (by omega)), hone]
  rfl

end

/-! ## Compares and tests -/

section
variable {s : State} {pop : Bool} {f : FloatFormat} {u v : Unpacked}

/-- CC of two numbers is that of their values (R398). -/
theorem FloatFormat.compare_value : (f.value u).compare (f.value v) =
    if f.rat u < f.rat v then ccL else if f.rat u = f.rat v then ccE else ccG := by
  have hu := (f.value u).scaled_mul (min_le_left _ (f.value v).exp)
  have hv := (f.value v).scaled_mul (min_le_right (f.value u).exp _)
  have hp : (0 : ℚ) < 2 ^ min (f.value u).exp (f.value v).exp := zpow_pos two_pos _
  rw [FloatFormat.rat_eq_toRat, FloatFormat.rat_eq_toRat, ← hu, ← hv, Dyadic.compare, ccCompare]
  refine (if_congr ?_ rfl (if_congr ?_ rfl rfl)).symm
  · rw [mul_lt_mul_iff_left₀ hp, Int.cast_lt]
  · rw [mul_left_inj' hp.ne', Int.cast_inj]

/-- CC of a number beside 0 (R399). -/
theorem FloatFormat.ccFloat_usable (hu : f.usable u = true) :
    f.ccFloat u = if f.rat u < 0 then ccL else if f.rat u = 0 then ccE else ccG :=
  FloatFormat.ccFloat_eq (FloatFormat.classify_of_usable hu)

theorem ftst_runs : RunsBody (.ftst pop) s
    (peekDouble 0 >>= fun x => withOperand double x.toNat fun u => testAnd (double.ccFloat u) pop 2) := ⟨rfl, nofun⟩

/-- FTST (R399). -/
theorem ftst_onStack (hu : double.usable (double.unpack (s.topDouble 0).toNat) = true) :
    let y := double.rat (double.unpack (s.topDouble 0).toNat)
    let p := if pop then 2 else 0
    OnStack (.ftst pop) s 2 0 p ((s.popped p).setCC (if y < 0 then ccL else if y = 0 then ccE else ccG)) := by
  intro y p
  refine RunsOnStack.onStack (.peekDouble (by omega) ?_) (done_plain _) ftst_runs
  rw [withOperand_usable hu, FloatFormat.ccFloat_usable hu]
  exact testAnd_runs (by omega)

theorem ftss_runs : RunsBody (.ftss pop) s
    (peek 0 >>= fun y => withOperand single y.toNat fun u => testAnd (single.ccFloat u) pop 1) := ⟨rfl, nofun⟩

/-- FTSS (R406). -/
theorem ftss_onStack (hu : single.usable (single.unpack (s.top 0).toNat) = true) :
    let q := single.rat (single.unpack (s.top 0).toNat)
    let p := if pop then 1 else 0
    OnStack (.ftss pop) s 1 0 p ((s.popped p).setCC (if q < 0 then ccL else if q = 0 then ccE else ccG)) := by
  intro q p
  refine RunsOnStack.onStack (.peek (by omega) ?_) (done_plain _) ftss_runs
  rw [withOperand_usable hu, FloatFormat.ccFloat_usable hu]
  exact testAnd_runs (by omega)

/-- The end of FCMP and FCPS (R398, R405). -/
def compareNumbers (f : FloatFormat) (k : Nat) (u v : Unpacked) : M End :=
  checkPop k >>= fun _ => putCC ((f.value u).compare (f.value v)) >>= fun _ => dropWords k >>= fun _ => pure done

theorem compareNumbers_runs {n k : Nat} (hk : k ≠ 0) :
    RunsOnStack (compareNumbers f k u v) s n 0 k done
      ((s.popped k).setCC (if f.rat u < f.rat v then ccL else if f.rat u = f.rat v then ccE else ccG)) := by
  rw [← FloatFormat.compare_value]
  exact .checkPop hk fun _ => rfl

theorem fcmp_runs : RunsBody (.fcmp pop) s (peekDouble 1 >>= fun x1 => peekDouble 0 >>= fun x2 =>
    withOperands double x1.toNat x2.toNat (compareNumbers double (if pop then 4 else 2))) := ⟨rfl, nofun⟩

/-- FCMP (R398). -/
theorem fcmp_onStack (hu : double.usable (double.unpack (s.topDouble 1).toNat) = true)
    (hv : double.usable (double.unpack (s.topDouble 0).toNat) = true) :
    let x := double.rat (double.unpack (s.topDouble 1).toNat)
    let y := double.rat (double.unpack (s.topDouble 0).toNat)
    let p := if pop then 4 else 2
    OnStack (.fcmp pop) s 4 0 p ((s.popped p).setCC (if x < y then ccL else if x = y then ccE else ccG)) := by
  intro x y p
  refine RunsOnStack.onStack (.peekDouble (by omega) (.peekDouble (by omega) ?_)) (done_plain _) fcmp_runs
  rw [withOperands_usable hu hv]
  exact compareNumbers_runs (by cases pop <;> decide)

theorem fcps_runs : RunsBody (.fcps pop) s (peek 1 >>= fun y1 => peek 0 >>= fun y2 =>
    withOperands single y1.toNat y2.toNat (compareNumbers single (if pop then 2 else 1))) := ⟨rfl, nofun⟩

/-- FCPS (R405). -/
theorem fcps_onStack (hu : single.usable (single.unpack (s.top 1).toNat) = true)
    (hv : single.usable (single.unpack (s.top 0).toNat) = true) :
    let x := single.rat (single.unpack (s.top 1).toNat)
    let y := single.rat (single.unpack (s.top 0).toNat)
    let p := if pop then 2 else 1
    OnStack (.fcps pop) s 2 0 p ((s.popped p).setCC (if x < y then ccL else if x = y then ccE else ccG)) := by
  intro x y p
  refine RunsOnStack.onStack (.peek (by omega) (.peek (by omega) ?_)) (done_plain _) fcps_runs
  rw [withOperands_usable hu hv]
  exact compareNumbers_runs (by cases pop <;> decide)

end

/-! ## Operands that trap -/

section
variable {i : Instr} {s : State} {n : Nat} {k : Unpacked → M End} {g : DWord → Unpacked → M End}
  {j : Unpacked → Unpacked → M End}

theorem RunsBody.doubleTrap (h : RunsBody i s (peekDouble 0 >>= fun x => withOperand double x.toNat (g x)))
    (hs : s.hasStack n 0 = true) (hn : 1 < n) (hu : double.usable (double.unpack (s.topDouble 0).toNat) = false) :
    EndsInOperandTrap i s s 0 (classBits (double.classify (double.unpack (s.topDouble 0).toNat))) :=
  h.operandTrap (by rw [M.bind_ok (peekDouble_below hs (by omega)), withOperand_unusable hu]) rfl

theorem RunsBody.singleTrap (h : RunsBody i s (peek 0 >>= fun x => withOperand single x.toNat k))
    (hs : s.hasStack n 0 = true) (hn : 0 < n) (hu : single.usable (single.unpack (s.top 0).toNat) = false) :
    EndsInOperandTrap i s s 0 (classBits (single.classify (single.unpack (s.top 0).toNat))) :=
  h.operandTrap (by rw [M.bind_ok (peek_present (State.hasStack_below hs hn)), withOperand_unusable hu]) rfl

theorem RunsBody.doublesTrap (h : RunsBody i s (peekDouble 1 >>= fun x1 => peekDouble 0 >>= fun x2 =>
      withOperands double x1.toNat x2.toNat j)) (hs : s.hasStack 4 0 = true) :
    let x := double.unpack (s.topDouble 1).toNat
    let y := double.unpack (s.topDouble 0).toNat
    double.usable x = false ∨ double.usable y = false →
      EndsInOperandTrap i s s (classBits (double.classify x)) (classBits (double.classify y)) :=
  fun hu => h.operandTrap ((doubleOperands_apply hs).trans (congrFun (withOperands_unusable hu) s)) rfl

theorem RunsBody.singlesTrap (h : RunsBody i s (peek 1 >>= fun y1 => peek 0 >>= fun y2 =>
      withOperands single y1.toNat y2.toNat j)) (hs : s.hasStack n 0 = true) (hn : 1 < n) :
    let x := single.unpack (s.top 1).toNat
    let y := single.unpack (s.top 0).toNat
    single.usable x = false ∨ single.usable y = false →
      EndsInOperandTrap i s s (classBits (single.classify x)) (classBits (single.classify y)) :=
  fun hu => h.operandTrap ((singleOperands_apply hs hn).trans (congrFun (withOperands_unusable hu) s)) rfl

end

/-- Settles O20: the negations with the tests, the compares, and the operands that trap. -/
theorem floatNegateCompareAndTest : Obligations.FloatNegateCompareAndTest := by
  intro s pop x y p q order hi one
  refine ⟨fun hs hu => ⟨fneg_completes hs hu, ftst_onStack hu⟩, fun hs hu => ⟨fngs_completes hs hu, ftss_onStack hu⟩,
    fcmp_onStack, fcps_onStack, fun hs => ⟨fun hu => ?_, fun hu => ?_, fcmp_runs.doublesTrap hs,
      fcps_runs.singlesTrap hs (by omega)⟩⟩
  · exact ⟨fneg_runs.doubleTrap hs (by omega) hu, ftst_runs.doubleTrap hs (by omega) hu⟩
  · exact ⟨fngs_runs.singleTrap hs (by omega) hu, ftss_runs.singleTrap hs (by omega) hu⟩

end Sys2Proof.Machine

/-! Decimal digits, and the decimal addition and subtraction (spec/43_float_decimal.md R420 to R422). -/

namespace Sys2Proof.Machine

/-! ## Digits -/

section
variable {k v n : Nat} {s : State}

/-- The last digit and those before it (R420). -/
theorem Digits.succ (h : Digits (k + 1) v n) : v % 16 = n % 10 ∧ Digits k (v / 16) (n / 10) := by
  obtain ⟨hn, hd⟩ := h
  refine ⟨by simpa using hd 0 k.succ_pos, Nat.div_lt_of_lt_mul (by rwa [← Nat.pow_succ']), fun j hj => ?_⟩
  rw [Nat.div_div_eq_div_mul, Nat.div_div_eq_div_mul, ← Nat.pow_succ', ← Nat.pow_succ']
  exact hd (j + 1) (by omega)

theorem Digits.bcdValue_eq (h : Digits k v n) : bcdValue k v = some n := by
  induction k generalizing v n with
  | zero =>
    obtain rfl : n = 0 := Nat.lt_one_iff.1 h.1
    rfl
  | succ k ih =>
    obtain ⟨h0, hk⟩ := h.succ
    rw [bcdValue, if_neg (by omega), ih hk, h0]
    exact congrArg some (Nat.div_add_mod n 10)

theorem Digits.bcdOf_eq (h : Digits k v n) : bcdOf k n = v % 16 ^ k := by
  induction k generalizing v n with
  | zero => rw [Nat.pow_zero, Nat.mod_one, bcdOf]
  | succ k ih =>
    obtain ⟨h0, hk⟩ := h.succ
    rw [bcdOf, ih hk, ← h0, Nat.pow_succ', Nat.mod_mul]

/-- A digit above 9 (R420). -/
theorem bcdValue_none {j : Nat} (hj : j < k) (h : 9 < v / 16 ^ j % 16) : bcdValue k v = none := by
  induction k generalizing v j with
  | zero => omega
  | succ k ih =>
    rw [bcdValue]
    split_ifs with h0
    · rfl
    · cases j with
      | zero => rw [Nat.pow_zero, Nat.div_one] at h; omega
      | succ j =>
        rw [Nat.pow_succ', ← Nat.div_div_eq_div_mul] at h
        rw [ih (by omega) h]

theorem digits_some (h : bcdValue k v = some n) : digits k v s = .ok (n, s) := by
  unfold digits
  rw [M.get_bind, h]
  rfl

theorem digits_none (h : bcdValue k v = none) :
    digits k v s = .error (.trap .illegalDecimal (some s.CIR) s) := by
  unfold digits
  rw [M.get_bind, h]
  rfl

end

/-! ## Addition and subtraction -/

section
variable {i : Instr} {s : State} {ext : Bool} {f : Int → Int → Int} {carryOf : Int → Bool} {m : M End} {n k p : Nat}
  {e : End} {u : State}

/-- A body that tests its pop twice. -/
theorem RunsOnStack.checkPop_again (hp : p ≠ 0) (h : RunsOnStack m s n k p e u) :
    RunsOnStack (Machine.checkPop p >>= fun _ => m) s n k p e u := by
  intro hs
  have hr := h hs
  have hp' : s.popsOk p = s.canPop p := by simp [State.popsOk, hp]
  rw [hp'] at hr ⊢
  cases hc : s.canPop p
  · exact M.bind_error (checkPop_cannot hc)
  · rw [hc] at hr
    exact (M.bind_ok (checkPop_can hc)).trans hr

/-- DLAD and DLSB on digits (R421, R422). -/
theorem decimalLogical_onStack (h : RunsBody i s (decimalLogical f carryOf ext)) {na nb nv : Nat} {v : Word}
    (ha : Digits 8 (s.top 0).toNat na) (hb : Digits 8 (s.top 1).toNat nb) (hv : Digits 8 v.toNat nv)
    (hnv : (nv : Int) = f nb na % 100000000) : OnStack i s 2 0 1 (s.logicalTwo v (carryOf (f nb na)) ext) := by
  have hbits : BitVec.ofNat 32 (bcdOf 8 (f nb na % 100000000).toNat) = v := by
    have hlt : v.toNat < 16 ^ 8 := v.isLt
    rw [← hnv, Int.toNat_natCast, hv.bcdOf_eq, Nat.mod_eq_of_lt hlt, BitVec.ofNat_toNat, BitVec.setWidth_eq]
  refine RunsOnStack.onStack (.peek (by omega) (.peek (by omega) (.reading (fun _ => digits_some ha.bcdValue_eq)
    (.reading (fun _ => digits_some hb.bcdValue_eq) (.checkPop_again (by omega) ?_))))) (done_plain _) h
  dsimp only
  rw [hbits]
  exact logicalResult_runs

/-- DLAD and DLSB on a digit above 9 (R420). -/
theorem decimalLogical_raises (h : RunsBody i s (decimalLogical f carryOf ext)) (hs : s.hasStack 2 0 = true) {j : Nat}
    (hj : j < 8) (hd : 9 < (s.top 0).toNat / 16 ^ j % 16 ∨ 9 < (s.top 1).toNat / 16 ^ j % 16) :
    Raises i s .illegalDecimal (some s.CIR) := by
  refine h.raises ?_
  unfold decimalLogical
  rw [M.bind_ok (peek_present (State.hasStack_below hs (by omega))),
    M.bind_ok (peek_present (State.hasStack_below hs (by omega)))]
  cases ha : bcdValue 8 (s.top 0).toNat with
  | none => exact M.bind_error (digits_none ha)
  | some na =>
    have hb : bcdValue 8 (s.top 1).toNat = none := by
      refine bcdValue_none hj (hd.resolve_left fun hc => ?_)
      rw [bcdValue_none hj hc] at ha
      cases ha
    rw [M.bind_ok (digits_some ha)]
    exact M.bind_error (digits_none hb)

theorem dlad_runs : RunsBody (.dlad ext) s
    (decimalLogical (fun b a => b + a + ofFlag (ext && s.carry)) (fun r => decide (100000000 ≤ r)) ext) :=
  .of_get (fun s => decimalLogical (fun b a => b + a + ofFlag (ext && s.carry)) (fun r => decide (100000000 ≤ r)) ext)
    ⟨rfl, nofun⟩

theorem dlsb_runs : RunsBody (.dlsb ext) s
    (decimalLogical (fun b a => b - a - ofFlag (ext && !s.carry)) (fun r => decide (0 ≤ r)) ext) :=
  .of_get (fun s => decimalLogical (fun b a => b - a - ofFlag (ext && !s.carry)) (fun r => decide (0 ≤ r)) ext)
    ⟨rfl, nofun⟩

end

/-- Settles O22: both instructions by their common body, on digits and on a digit above 9. -/
theorem decimalAddAndSubtract : Obligations.DecimalAddAndSubtract := by
  intro s ext a b carry borrow left
  refine ⟨fun na nb nv v ha hb hv => ⟨?_, ?_⟩, fun hs k hk hd => ?_⟩
  · exact decimalLogical_onStack dlad_runs ha hb hv
  · exact decimalLogical_onStack dlsb_runs ha hb hv
  · exact ⟨decimalLogical_raises dlad_runs hs hk hd, decimalLogical_raises dlsb_runs hs hk hd⟩

end Sys2Proof.Machine

/-! The decimal conversions DTB, BTD and POT (spec/43_float_decimal.md R423 to R425). -/

namespace Sys2Proof.Machine

/-! ## The stack after a pop -/

theorem State.popped_hasStack_below {s : State} {n p : Nat} (h : s.hasStack (n + p) 0 = true) :
    (s.popped p).hasStack n 0 = true := by
  refine (Bool.true_and _).trans (State.hasWords_of fun k hk => ?_)
  have hw := State.hasStack_below h (k := k + p) (by omega)
  have ha : (s.popped p).S + BitVec.ofNat 32 (4 * 0) - BitVec.ofNat 32 (4 * k) =
      s.S - BitVec.ofNat 32 (4 * (k + p)) := by
    change s.S - BitVec.ofNat 32 (4 * p) + BitVec.ofNat 32 (4 * 0) - BitVec.ofNat 32 (4 * k) = _
    rw [Nat.mul_add, BitVec.ofNat_add]
    bv_omega
  rw [ha]
  exact hw

/-! ## Powers of ten -/

section
variable {f : FloatFormat} {wrap : Int} {rm : BitVec 2} {neg z : Bool} {num den : Nat}

/-- A delivered number has the bits of its format (R390). -/
theorem FloatFormat.deliver_bits_lt :
    (f.deliver wrap rm neg num den z).bits < 2 ^ (f.expBits + f.fracBits + 1) := by
  by_cases hn : num = 0
  · rw [FloatFormat.deliver, if_pos hn]
    exact FloatFormat.pack_lt (f.zero_fits z)
  · rw [FloatFormat.deliver_eq hn]
    exact FloatFormat.pack_lt (f.build_fits _ _ _)

theorem nearestPower_toNat (n : Int) :
    (nearestPower n).toNat = (double.deliver 0 0#2 false (10 ^ n.toNat) (10 ^ (-n).toNat) false).bits :=
  (BitVec.toNat_ofNat ..).trans (Nat.mod_eq_of_lt FloatFormat.deliver_bits_lt)

theorem ten_pow_le_maxFinite {n : Nat} (h : n ≤ 308) : (10 : ℚ) ^ n ≤ double.maxFinite := by
  have hmax : double.maxFinite = (2 ^ 53 - 1) * (2 : ℚ) ^ 971 := by
    have hexp : (double.top : Int) - 1 - double.bias - double.fracBits = (971 : Nat) := by decide
    have hfrac : double.fracBits + 1 = 53 := rfl
    rw [FloatFormat.maxFinite, hexp, hfrac, zpow_natCast]
  rw [hmax]
  calc (10 : ℚ) ^ n ≤ 10 ^ 308 := pow_le_pow_right₀ (by norm_num) h
    _ = (10 ^ 77) ^ 4 := by rw [← pow_mul]
    _ ≤ (7 * 2 ^ 253) ^ 4 := by gcongr; norm_num
    _ = 7 ^ 4 * 2 ^ 41 * 2 ^ 971 := by rw [mul_pow, ← pow_mul, mul_assoc, ← pow_add]
    _ ≤ (2 ^ 53 - 1) * 2 ^ 971 := by gcongr; norm_num

theorem minNormal_le_one : double.minNormal ≤ 1 := zpow_le_one_of_nonpos₀ one_le_two (by decide)

/-- The double of a power of ten is the nearest one (R425). -/
theorem nearestPower_rounds {n : Nat} (h : n ≤ 308) :
    double.Rounds 0#2 ((10 : ℚ) ^ n) (double.unpack (nearestPower n).toNat) := by
  have hpos : (0 : ℚ) < 10 ^ n := by positivity
  have hone : (1 : ℚ) ≤ 10 ^ n := one_le_pow₀ (by norm_num)
  have hd : double.Delivers 0 0#2
      (double.deliver 0 0#2 false (10 ^ (n : Int).toNat) (10 ^ (-(n : Int)).toNat) false) ((10 : ℚ) ^ n) false := by
    refine FloatFormat.deliver_delivers (by decide) (by positivity) ?_ fun _ =>
      (decide_eq_false (not_lt.2 hpos.le)).symm
    rw [abs_of_pos hpos]
    simp
  rw [nearestPower_toNat]
  refine (hd.rounds (by decide) (hd.trap_none (.inr ?_))).1
  rw [abs_of_pos hpos]
  exact ⟨minNormal_le_one.trans hone, ten_pow_le_maxFinite h⟩

/-- The default power pairs (R425). -/
theorem powerPair_rounds {c : Config} {n : Int} (hc : c.powers = []) (h1 : -308 ≤ n) (h2 : n < 308) :
    double.Rounds 0#2 ((10 : ℚ) ^ n.toNat) (double.unpack (Config.powerPair c n).1.toNat) ∧
      double.Rounds 0#2 ((10 : ℚ) ^ (-n).toNat) (double.unpack (Config.powerPair c n).2.toNat) := by
  have hpair : Config.powerPair c n = (nearestPower n.toNat, nearestPower (-n).toNat) := by
    unfold Config.powerPair
    rw [hc, List.find?_nil]
    dsimp only
    split_ifs with h0
    · rw [Int.toNat_of_nonneg h0, Int.toNat_of_nonpos (by omega)]
      rfl
    · rw [Int.toNat_of_nonneg (a := -n) (by omega), Int.toNat_of_nonpos (by omega)]
      rfl
  rw [hpair]
  exact ⟨nearestPower_rounds (by omega), nearestPower_rounds (by omega)⟩

end

/-! ## The power pair on the stack -/

section
variable {i : Instr} {s : State} {g : Word → Int} {pw : Int → DWord × DWord}

/-- The power pair in place of the top word (R423, R425). -/
def State.paired (s : State) (ab : DWord × DWord) : State :=
  ((((s.putTop 0 (hiWord ab.1)).pushed (loWord ab.1)).pushed (hiWord ab.2)).pushed (loWord ab.2)).setCC ccG

theorem pushPair_apply {ab : DWord × DWord} (hs : s.hasStack 1 3 = true) : pushPair ab s = .ok (done, s.paired ab) := by
  have h0 : (s.putTop 0 (hiWord ab.1)).hasStack 1 3 = true := State.hasStack_putTop.trans hs
  have h1 := State.pushed_hasStack (v := loWord ab.1) h0
  have h2 := State.pushed_hasStack (v := hiWord ab.2) h1
  unfold pushPair pushDouble
  rw [M.bind_ok (poke_below hs (by omega)), M.bind_ok (push_room h0), M.bind_assoc_apply, M.bind_ok (push_room h1),
    M.bind_ok (push_room h2)]
  rfl

theorem requireExponent_apply {c : Bool} :
    requireExponent c s = if c then .ok ((), s) else .error (.trap .exponentSize (some s.CIR) s) := rfl

/-- DTB with an exponent, and POT: the power pair of an exponent in range (R423, R425). -/
def powerOf (g : Word → Int) (pw : Int → DWord × DWord) : M End :=
  peek 0 >>= fun w => requireExponent (decide (-308 < g w) && decide (g w < 308)) >>= fun _ => pushPair (pw (g w))

theorem powerOf_ends (h : RunsBody i s (powerOf g pw)) (hs : s.hasStack 1 3 = true) :
    let e := g (s.top 0)
    if -308 < e ∧ e < 308 then CompletesAs i s (s.paired (pw e)) else Raises i s .exponentSize (some s.CIR) := by
  intro e
  have hbody : powerOf g pw s = (requireExponent (decide (-308 < e) && decide (e < 308)) >>= fun _ =>
      pushPair (pw e)) s := M.bind_ok (peek_present (State.hasStack_below hs (by omega)))
  have hreq := requireExponent_apply (s := s) (c := decide (-308 < e) && decide (e < 308))
  split_ifs with he
  · rw [decide_eq_true he.1, decide_eq_true he.2] at hbody hreq
    exact h.completes (hbody.trans ((M.bind_ok hreq).trans (pushPair_apply hs))) (done_plain _)
  · rw [← Bool.decide_and, decide_eq_false he] at hbody hreq
    exact h.raises (hbody.trans (M.bind_error hreq))

theorem dtb_power_runs : RunsBody (.dtb true) s
    (powerOf (fun w => (field w 0 10).toInt) fun e => Config.powerPair s.cfg (e - 16)) :=
  .of_get (fun s => powerOf (fun w => (field w 0 10).toInt) fun e => Config.powerPair s.cfg (e - 16)) ⟨rfl, nofun⟩

theorem pot_runs : RunsBody .pot s (powerOf BitVec.toInt fun e => Config.powerPair s.cfg e) :=
  .of_get (fun s => powerOf BitVec.toInt fun e => Config.powerPair s.cfg e) ⟨rfl, nofun⟩

end

/-! ## DTB with digits -/

section
variable {s : State} {n : Nat}

/-- The 68 bits of the digits of a decimal number (R420). -/
def digitBits (u v w : Word) : Nat := (field u 16 16 ++ v ++ field w 0 20).toNat

/-- No integer of 17 digits is too large for a double (R423). -/
theorem double_deliver_integer {rm : BitVec 2} {m : Int} (hm : |m| < 10 ^ 17) :
    (double.deliverDyadic 0 rm { mant := m, exp := 0 } false).trap = none := by
  have hd := Dyadic.den_pos (d := { mant := m, exp := 0 })
  refine FloatFormat.deliver_trap (lo := 0) (hi := 57) hd.ne' (fun hn => ?_) ?_ (by decide) (by decide)
  · rw [Dyadic.num_div_den, toRat_natural, zpow_zero, ← Int.cast_abs]
    have h0 : m ≠ 0 := fun h0 => hn (Dyadic.num_eq_zero_iff.2 h0)
    exact_mod_cast Int.one_le_abs h0
  · rw [Dyadic.num_div_den, toRat_natural, ← Int.cast_abs]
    have h1 : |m| < 2 ^ 57 := hm.trans (by norm_num)
    exact_mod_cast h1

/-- The body of DTB with digits, from the rounding mode (R423). -/
def digitsToDouble (rm : BitVec 2) : M End :=
  peek 0 >>= fun w2 => peek 1 >>= fun w1 => peek 2 >>= fun w0 => decimalInteger w0 w1 w2 >>= fun i =>
    checkPop 1 >>= fun _ =>
      let d := double.deliverDyadic 0 rm { mant := i, exp := 0 } false
      dropWords 1 >>= fun _ => pokeDouble 0 (BitVec.ofNat 64 d.bits) >>= fun _ => concludeResult double d

theorem dtb_runs : RunsBody (.dtb false) s (digitsToDouble s.rounding) :=
  .of_get (fun s => digitsToDouble s.rounding) ⟨rfl, nofun⟩

theorem dtb_onStack (hn : Digits 17 (digitBits (s.top 2) (s.top 1) (s.top 0)) n) :
    let i : Int := if bit (s.top 2) 15 then -n else n
    let d := double.deliverDyadic 0 s.rounding { mant := i, exp := 0 } false
    let r : DWord := BitVec.ofNat 64 d.bits
    d.trap = none ∧
      OnStack (.dtb false) s 3 0 1 ((((s.popped 1).putTop 1 (hiWord r)).putTop 0 (loWord r)).noteResult double d) := by
  intro i d r
  have hi : |i| < 10 ^ 17 := by
    have habs : |i| = n := by
      change |if bit (s.top 2) 15 then -(n : Int) else n| = n
      split_ifs <;> simp
    rw [habs]
    exact_mod_cast hn.1
  have hd : d.trap = none := double_deliver_integer hi
  have hdec : decimalInteger (s.top 2) (s.top 1) (s.top 0) s = .ok (i, s) :=
    M.bind_ok (digits_some hn.bcdValue_eq)
  refine ⟨hd, RunsOnStack.onStack (m := digitsToDouble s.rounding) (.peek (by omega) (.peek (by omega) (.peek (by omega)
    (.reading (fun _ => hdec) (.checkPop (by omega) fun hs => ?_))))) (done_plain _) dtb_runs⟩
  have hs' : (s.popped 1).hasStack 2 0 = true := State.popped_hasStack_below hs
  rw [dropWords_bind, M.bind_ok (pokeDouble_words hs' (by omega)), concludeResult_ok hd]

/-- DTB on a digit above 9 (R420). -/
theorem dtb_raises (hs : s.hasStack 3 0 = true) {k : Nat} (hk : k < 17)
    (hd : 9 < digitBits (s.top 2) (s.top 1) (s.top 0) / 16 ^ k % 16) :
    Raises (.dtb false) s .illegalDecimal (some s.CIR) := by
  have hdec : decimalInteger (s.top 2) (s.top 1) (s.top 0) s = .error (.trap .illegalDecimal (some s.CIR) s) :=
    M.bind_error (digits_none (bcdValue_none hk hd))
  refine dtb_runs.raises ?_
  unfold digitsToDouble
  rw [M.bind_ok (peek_present (State.hasStack_below hs (by omega))),
    M.bind_ok (peek_present (State.hasStack_below hs (by omega))),
    M.bind_ok (peek_present (State.hasStack_below hs (by omega))), M.bind_error hdec]

end

/-! ## Decimal exponents -/

section
variable {num den n fuel : Nat}

theorem decimalDigits_zero : decimalDigits fuel 0 = 0 := by cases fuel <;> rfl

/-- The number of digits (R424). -/
theorem decimalDigits_bounds (h : n < 10 ^ fuel) :
    n < 10 ^ decimalDigits fuel n ∧ (n ≠ 0 → 10 ^ decimalDigits fuel n ≤ 10 * n) := by
  induction fuel generalizing n with
  | zero =>
    obtain rfl : n = 0 := Nat.lt_one_iff.1 h
    exact ⟨Nat.one_pos, fun h0 => absurd rfl h0⟩
  | succ fuel ih =>
    rw [decimalDigits]
    split_ifs with h0
    · rw [h0]
      exact ⟨Nat.one_pos, fun h => absurd rfl h⟩
    · obtain ⟨hlt, hle⟩ := ih (n := n / 10) (Nat.div_lt_of_lt_mul (by rwa [← Nat.pow_succ']))
      rw [Nat.add_comm, Nat.pow_succ']
      refine ⟨by omega, fun _ => ?_⟩
      by_cases h1 : n / 10 = 0
      · rw [h1, decimalDigits_zero]
        omega
      · have := hle h1
        omega

/-- The decimal exponent of a fraction (R424). -/
theorem floorLog10_bounds (hn : num ≠ 0) (hd : den ≠ 0) (hn' : num < 10 ^ 400) (hd' : den < 10 ^ 400) :
    (10 : ℚ) ^ floorLog10 num den ≤ num / den ∧ (num : ℚ) / den < 10 ^ (floorLog10 num den + 1) := by
  have hnpos := Nat.pos_of_ne_zero hn
  have hdpos := Nat.pos_of_ne_zero hd
  have hnq : (0 : ℚ) < num := Nat.cast_pos.2 hnpos
  have hdq : (0 : ℚ) < den := Nat.cast_pos.2 hdpos
  unfold floorLog10
  split_ifs with h
  · obtain ⟨hlt, hle⟩ := decimalDigits_bounds ((Nat.div_le_self num den).trans_lt hn')
    have hle' := hle (Nat.div_pos h hdpos).ne'
    generalize decimalDigits 400 (num / den) = D at *
    have h1 : (10 ^ D * den : ℚ) ≤ 10 * num := by
      exact_mod_cast (Nat.mul_le_mul_right den hle').trans (by
        rw [Nat.mul_assoc]
        exact Nat.mul_le_mul_left 10 (Nat.div_mul_le_self num den))
    have h2 : (num : ℚ) < 10 ^ D * den := by exact_mod_cast (Nat.div_lt_iff_lt_mul hdpos).1 hlt
    rw [sub_add_cancel, zpow_sub_one₀ (by norm_num), zpow_natCast, le_div_iff₀ hdq, div_lt_iff₀ hdq]
    exact ⟨by linarith, h2⟩
  · have hlow : num ≤ den - 1 := by omega
    obtain ⟨hlt, hle⟩ := decimalDigits_bounds (fuel := 400) (n := (den - 1) / num)
      ((Nat.div_le_self _ num).trans_lt (by omega))
    have hle' := hle (Nat.div_pos hlow hnpos).ne'
    generalize decimalDigits 400 ((den - 1) / num) = D at *
    have h1 : (den : ℚ) ≤ num * 10 ^ D := by
      have := (Nat.div_lt_iff_lt_mul hnpos).1 hlt
      rw [Nat.mul_comm] at this
      exact_mod_cast (by omega : den ≤ num * 10 ^ D)
    have h2 : (num * 10 ^ D : ℚ) < 10 * den := by
      have hmul : 10 ^ D * num ≤ 10 * (den - 1) := (Nat.mul_le_mul_right num hle').trans (by
        rw [Nat.mul_assoc]
        exact Nat.mul_le_mul_left 10 (Nat.div_mul_le_self (den - 1) num))
      rw [Nat.mul_comm] at hmul
      exact_mod_cast (by omega : num * 10 ^ D < 10 * den)
    have hp : (0 : ℚ) < 10 ^ D := by positivity
    rw [zpow_add_one₀ (by norm_num), zpow_neg, zpow_natCast, inv_mul_eq_div, div_lt_div_iff₀ hdq hp,
      inv_le_iff_one_le_mul₀ hp, div_mul_eq_mul_div, one_le_div hdq]
    exact ⟨h1, h2⟩

/-- The decimal exponent is the only one with its bounds. -/
theorem floorLog10_unique {x : ℚ} {g : Int} (h1 : (10 : ℚ) ^ floorLog10 num den ≤ x)
    (h2 : x < 10 ^ (floorLog10 num den + 1)) (h3 : (10 : ℚ) ^ g ≤ x) (h4 : x < 10 ^ (g + 1)) :
    floorLog10 num den = g := by
  have hten : (1 : ℚ) < 10 := by norm_num
  have hlt := (zpow_lt_zpow_iff_right₀ hten).1 (h1.trans_lt h4)
  have hgt := (zpow_lt_zpow_iff_right₀ hten).1 (h3.trans_lt h2)
  omega

end

section
variable {u : Unpacked}

theorem two_pow_lt_ten_pow {n k : Nat} (hk : k ≠ 0) (h : n ≤ 3 * k) : 2 ^ n < 10 ^ k :=
  calc 2 ^ n ≤ 2 ^ (3 * k) := Nat.pow_le_pow_right two_pos h
    _ = (2 ^ 3) ^ k := Nat.pow_mul ..
    _ < 10 ^ k := Nat.pow_lt_pow_left (by decide) hk

/-- The numerator and the denominator of a double are within the fuel of `floorLog10`. -/
theorem double_value_lt (hu : double.Fits u) :
    (double.value u).num < 10 ^ 400 ∧ (double.value u).den < 10 ^ 400 := by
  have he : u.exponent < 2048 := hu.exponent
  have hf : u.fraction < 2 ^ 52 := hu.fraction
  have hexp : (double.value u).exp = (u.exponent : Int) - 1075 := by
    change (u.exponent : Int) - 1023 - 52 = _
    omega
  have hmant : (double.value u).mant.natAbs < 2 ^ 53 := by
    change Int.natAbs (if u.neg then - (if u.exponent = 0 then 0 else ((2 ^ 52 + u.fraction : Nat) : Int))
      else if u.exponent = 0 then 0 else ((2 ^ 52 + u.fraction : Nat) : Int)) < 2 ^ 53
    split_ifs <;> omega
  unfold Dyadic.num Dyadic.den
  rw [hexp]
  refine ⟨?_, two_pow_lt_ten_pow (by omega) (by omega)⟩
  calc (double.value u).mant.natAbs * 2 ^ ((u.exponent : Int) - 1075).toNat
      ≤ 2 ^ 53 * 2 ^ ((u.exponent : Int) - 1075).toNat := Nat.mul_le_mul_right _ hmant.le
    _ = 2 ^ (53 + ((u.exponent : Int) - 1075).toNat) := (Nat.pow_add ..).symm
    _ < 10 ^ 400 := two_pow_lt_ten_pow (by omega) (by omega)

/-- The decimal exponent of a double (R424). -/
theorem double_floorLog10 (hu : double.Fits u) (h0 : double.rat u ≠ 0) {g : Int} (h1 : (10 : ℚ) ^ g ≤ |double.rat u|)
    (h2 : |double.rat u| < 10 ^ (g + 1)) : floorLog10 (double.value u).num (double.value u).den = g := by
  obtain ⟨hn, hd⟩ := double_value_lt hu
  rw [FloatFormat.rat_eq_toRat] at h0 h1 h2
  have hn0 : (double.value u).num ≠ 0 := fun h => h0 (Dyadic.toRat_eq_zero_iff.2 (Dyadic.num_eq_zero_iff.1 h))
  obtain ⟨h3, h4⟩ := floorLog10_bounds hn0 Dyadic.den_pos.ne' hn hd
  rw [Dyadic.num_div_den] at h3 h4
  exact floorLog10_unique h3 h4 h1 h2

end

/-! ## The guess of BTD -/

section
variable {s : State}

/-- The body of BTD's guess form with a number (R424). -/
def guessExponent (s : State) (n : DWord) (u : Unpacked) : M End :=
  checkPop 1 >>= fun _ =>
    let i : Int := if double.classify u = .zero then 0 else Config.exponentGuess s.cfg n (double.value u)
    replaceTwo (wordOf i) >>= fun _ => putCC (ccWord (wordOf i)) >>= fun _ => pure done

theorem btd_guess_runs : RunsBody (.btd true) s
    (peekDouble 0 >>= fun n => withOperand double n.toNat (guessExponent s n)) :=
  .of_get (fun s => peekDouble 0 >>= fun n => withOperand double n.toNat (guessExponent s n)) ⟨rfl, nofun⟩

theorem classify_ne_zero {f : FloatFormat} {u : Unpacked} (h : f.rat u ≠ 0) : f.classify u ≠ .zero := fun hz =>
  h (FloatFormat.rat_eq_zero_iff.2 (FloatFormat.fields_of_zero hz).1)

theorem btd_guess_onStack (hu : double.usable (double.unpack (s.topDouble 0).toNat) = true) {g : Int} :
    let x := double.rat (double.unpack (s.topDouble 0).toNat)
    let guess : Int := if s.topDouble 0 ∈ s.cfg.guessHigh then 1 else 0
    (x = 0 → g = 0) → (x ≠ 0 → (10 : ℚ) ^ (g - guess) ≤ |x| ∧ |x| < (10 : ℚ) ^ (g - guess + 1)) →
      OnStack (.btd true) s 2 0 1 (((s.putTop 1 (wordOf g)).popped 1).setCC (ccWord (wordOf g))) := by
  intro x guess hz hg
  have hi : (if double.classify (double.unpack (s.topDouble 0).toNat) = .zero then 0
      else Config.exponentGuess s.cfg (s.topDouble 0) (double.value (double.unpack (s.topDouble 0).toNat))) = g := by
    by_cases h0 : x = 0
    · rw [if_pos (FloatFormat.classify_of_usable hu h0), hz h0]
    · obtain ⟨h1, h2⟩ := hg h0
      rw [if_neg (classify_ne_zero h0), Config.exponentGuess,
        double_floorLog10 (double.unpack_fits _) h0 h1 h2]
      exact sub_add_cancel g guess
  refine RunsOnStack.onStack (.peekDouble (by omega) ?_) (done_plain _) btd_guess_runs
  rw [withOperand_usable hu]
  unfold guessExponent
  rw [hi]
  refine .checkPop (by omega) fun hs => ?_
  rw [M.bind_ok (replaceTwo_below hs (by omega))]
  rfl

end

/-! ## The digits of BTD -/

section
variable {s : State} {u v w : Word} {n : Nat} {neg : Bool}

/-- The digits in their fields (R420). -/
theorem digitBits_fields (h : Digits 17 (digitBits u v w) n) :
    let d : BitVec 68 := BitVec.ofNat 68 (bcdOf 17 n)
    field d 0 16 = field u 16 16 ∧ field d 16 32 = v ∧ field d 48 20 = field w 0 20 := by
  intro d
  have hd : d = field u 16 16 ++ v ++ field w 0 20 := by
    have hlt : (field u 16 16 ++ v ++ field w 0 20).toNat < 16 ^ 17 := BitVec.isLt _
    change BitVec.ofNat 68 (bcdOf 17 n) = _
    rw [h.bcdOf_eq, digitBits, Nat.mod_eq_of_lt hlt, BitVec.ofNat_toNat]
    exact BitVec.setWidth_eq ..
  have hhead : field d 0 48 = field u 16 16 ++ v := by
    rw [hd]
    exact BitVec.extractLsb'_append_eq_left
  refine ⟨?_, ?_, ?_⟩
  · rw [← field_field d (n := 0) (m := 48) (i := 0) (by omega) (by omega), hhead]
    exact BitVec.extractLsb'_append_eq_left
  · rw [← field_field d (n := 0) (m := 48) (i := 16) (by omega) (by omega), hhead]
    exact BitVec.extractLsb'_append_eq_right
  · rw [hd]
    exact BitVec.extractLsb'_append_eq_right

theorem bit_zero {k : Nat} : bit 0#32 k = false := by simp [bit]

/-- A field of zeros (R7). -/
theorem bit_of_field_zero {m j k : Nat} (h : field u j m = 0) (hk : j ≤ k) (hm : k < j + m) (hw : j + m ≤ 32) :
    bit u k = false := by
  have hb := bit_field u (k := k - j) hw (by omega)
  rw [Nat.add_sub_cancel' hk, h] at hb
  rw [← hb]
  simp [bit]

/-- The first word of a decimal number (R424, R420). -/
theorem decimalHead_eq {i : BitVec 10} (h1 : field u 0 10 = i) (h2 : field u 10 5 = 0#5) (h3 : bit u 15 = neg) :
    setField (setBit (setField 0#32 0 10 i) 15 neg) 16 16 (field u 16 16) = u := by
  refine eq_of_bits fun k hk => ?_
  rw [bit_setField _ _ _ _ _ (by omega) hk]
  split_ifs with hlow
  · rw [bit_field u (by omega) (by omega), Nat.add_sub_cancel' hlow.1]
  by_cases hsign : k = 15
  · rw [hsign, bit_setBit_same (n := 15), h3]
  rw [bit_setBit_other _ _ _ _ (by omega) hk hsign, bit_setField _ _ _ _ _ (by omega) hk]
  split_ifs with hexp
  · rw [← h1, bit_field u (by omega) (by omega), Nat.add_sub_cancel' hexp.1]
  · rw [bit_zero, bit_of_field_zero h2 (by omega) (by omega) (by omega)]

/-- The last word of a decimal number (R424, R420). -/
theorem decimalTail_eq (h : field w 20 12 = 0#12) : setField 0#32 0 20 (field w 0 20) = w := by
  refine eq_of_bits fun k hk => ?_
  rw [bit_setField _ _ _ _ _ (by omega) hk]
  split_ifs with hd
  · rw [bit_field w (by omega) (by omega), Nat.add_sub_cancel' hd.1]
  · rw [bit_zero, bit_of_field_zero h (by omega) (by omega) (by omega)]

theorem pokeDecimal_apply {i : Word} (hs : s.hasStack 3 0 = true) (h1 : field u 0 10 = field i 22 10)
    (h2 : field u 10 5 = 0#5) (h3 : bit u 15 = neg) (h4 : Digits 17 (digitBits u v w) n) (h5 : field w 20 12 = 0#12) :
    pokeDecimal i neg n s = .ok ((), ((s.putTop 2 u).putTop 1 v).putTop 0 w) := by
  obtain ⟨hu, hv, hw⟩ := digitBits_fields h4
  have hs1 : (s.putTop 2 u).hasStack 3 0 = true := State.hasStack_putTop.trans hs
  have hs2 : ((s.putTop 2 u).putTop 1 v).hasStack 3 0 = true := State.hasStack_putTop.trans hs1
  unfold pokeDecimal
  rw [hu, hv, hw, decimalHead_eq h1 h2 h3, decimalTail_eq h5, M.bind_ok (poke_below hs (by omega)),
    M.bind_ok (poke_below hs1 (by omega)), poke_below hs2 (by omega)]

end

section
variable {d : Dyadic}

theorem Dyadic.num_lt_den_iff : d.num < d.den ↔ |d.toRat| < 1 := by
  rw [← Dyadic.num_div_den, div_lt_one (Nat.cast_pos.2 d.den_pos), Nat.cast_lt]

theorem Dyadic.ten_den_le_num_iff : 10 * d.den ≤ d.num ↔ 10 ≤ |d.toRat| := by
  rw [← Dyadic.num_div_den, le_div_iff₀ (Nat.cast_pos.2 d.den_pos)]
  exact_mod_cast Iff.rfl

/-- The 17 digits of a magnitude are those of a floor (R424). -/
theorem seventeenDigits_eq : seventeenDigits d = ⌊|d.toRat| * 10 ^ 16⌋.toNat := by
  have h : |d.toRat| * 10 ^ 16 = ((d.num * 10 ^ 16 : Nat) : ℚ) / d.den := by
    rw [← Dyadic.num_div_den]
    push_cast
    ring
  rw [h, Rat.floor_natCast_div_natCast]
  rfl

end

section
variable {s : State}

/-- The body of BTD's digit form with a number, from the word I (R424). -/
def numberToDigits (i : Word) (u : Unpacked) : M End :=
  let d := double.value u
  if double.classify u = .zero then
    poke 2 0#32 >>= fun _ => poke 1 0#32 >>= fun _ => poke 0 0#32 >>= fun _ => putCC ccE >>= fun _ => pure done
  else if d.num < d.den then btdCorrect (i - 1#32) ccL
  else if 10 * d.den ≤ d.num then btdCorrect (i + 1#32) ccG
  else requireExponent (decide (-512 < i.toInt) && decide (i.toInt < 511)) >>= fun _ =>
    pokeDecimal i u.neg (seventeenDigits d) >>= fun _ => putCC ccE >>= fun _ => pure done

theorem btd_digits_runs : RunsBody (.btd false) s
    (peek 2 >>= fun i => peekDouble 0 >>= fun n => withOperand double n.toNat (numberToDigits i)) := ⟨rfl, nofun⟩

/-- BTD of a number (R424). -/
theorem btd_digits_onStack {p : Nat} {t : State} (hu : double.usable (double.unpack (s.topDouble 0).toNat) = true)
    (h : RunsOnStack (numberToDigits (s.top 2) (double.unpack (s.topDouble 0).toNat)) s 3 0 p done t) :
    OnStack (.btd false) s 3 0 p t := by
  refine RunsOnStack.onStack (.peek (by omega) (.peekDouble (by omega) ?_)) (done_plain _) btd_digits_runs
  rw [withOperand_usable hu]
  exact h

/-- The correction of a wrong guess (R424). -/
theorem btdCorrect_runs {i : Word} {cc : BitVec 2} :
    RunsOnStack (btdCorrect i cc) s 3 0 2 done (((s.popped 2).putTop 0 i).setCC cc) := by
  refine .checkPop (by omega) fun hs => ?_
  have hs' : (s.popped 2).hasStack 1 0 = true := State.popped_hasStack_below hs
  rw [dropWords_bind, M.bind_ok (poke_below hs' (by omega))]
  rfl

theorem numberToDigits_zero {i : Word} {u : Unpacked} (hs : s.hasStack 3 0 = true) (h : double.classify u = .zero) :
    numberToDigits i u s = .ok (done, (((s.putTop 2 0#32).putTop 1 0#32).putTop 0 0#32).setCC ccE) := by
  have hs1 : (s.putTop 2 0#32).hasStack 3 0 = true := State.hasStack_putTop.trans hs
  have hs2 : ((s.putTop 2 0#32).putTop 1 0#32).hasStack 3 0 = true := State.hasStack_putTop.trans hs1
  unfold numberToDigits
  rw [if_pos h, M.bind_ok (poke_below hs (by omega)), M.bind_ok (poke_below hs1 (by omega)),
    M.bind_ok (poke_below hs2 (by omega))]
  rfl

theorem numberToDigits_below {i : Word} {u : Unpacked} (h0 : double.rat u ≠ 0) (h1 : |double.rat u| < 1) :
    numberToDigits i u = btdCorrect (i - 1#32) ccL := by
  rw [FloatFormat.rat_eq_toRat, ← Dyadic.num_lt_den_iff] at h1
  exact (if_neg (classify_ne_zero h0)).trans (if_pos h1)

theorem numberToDigits_from_one {i : Word} {u : Unpacked} (h1 : 1 ≤ |double.rat u|) :
    let d := double.value u
    numberToDigits i u =
      if 10 * d.den ≤ d.num then btdCorrect (i + 1#32) ccG
      else requireExponent (decide (-512 < i.toInt) && decide (i.toInt < 511)) >>= fun _ =>
        pokeDecimal i u.neg (seventeenDigits d) >>= fun _ => putCC ccE >>= fun _ => pure done := by
  intro d
  have h0 : double.rat u ≠ 0 := abs_pos.1 (one_pos.trans_le h1)
  rw [FloatFormat.rat_eq_toRat, ← not_lt, ← Dyadic.num_lt_den_iff] at h1
  exact (if_neg (classify_ne_zero h0)).trans (if_neg h1)

theorem numberToDigits_above {i : Word} {u : Unpacked} (h : 10 ≤ |double.rat u|) :
    numberToDigits i u = btdCorrect (i + 1#32) ccG := by
  have h1 := numberToDigits_from_one (i := i) (le_trans (by norm_num) h)
  rw [FloatFormat.rat_eq_toRat, ← Dyadic.ten_den_le_num_iff] at h
  exact h1.trans (if_pos h)

theorem numberToDigits_between {i : Word} {u : Unpacked} (h1 : 1 ≤ |double.rat u|) (h2 : |double.rat u| < 10) :
    numberToDigits i u = (requireExponent (decide (-512 < i.toInt) && decide (i.toInt < 511)) >>= fun _ =>
      pokeDecimal i u.neg ⌊|double.rat u| * 10 ^ 16⌋.toNat >>= fun _ => putCC ccE >>= fun _ => pure done) := by
  have h := numberToDigits_from_one (i := i) h1
  rw [FloatFormat.rat_eq_toRat, ← not_le, ← Dyadic.ten_den_le_num_iff] at h2
  rw [FloatFormat.rat_eq_toRat, ← seventeenDigits_eq]
  exact h.trans (if_neg h2)

/-- BTD of a number between 1 and 10 (R424). -/
theorem btd_digits_ends (hu : double.usable (double.unpack (s.topDouble 0).toNat) = true) (hs : s.hasStack 3 0 = true) :
    let y := double.unpack (s.topDouble 0).toNat
    let x := double.rat y
    let i := s.top 2
    1 ≤ |x| → |x| < 10 →
      if -512 < i.toInt ∧ i.toInt < 511 then
        ∀ u v w : Word, field u 0 10 = field i 22 10 → field u 10 5 = 0#5 → bit u 15 = y.neg →
          Digits 17 (digitBits u v w) ⌊|x| * 10 ^ 16⌋.toNat → field w 20 12 = 0#12 →
          CompletesAs (.btd false) s ((((s.putTop 2 u).putTop 1 v).putTop 0 w).setCC ccE)
      else Raises (.btd false) s .exponentSize (some s.CIR) := by
  intro y x i h1 h10
  have hbody : (peek 2 >>= fun i => peekDouble 0 >>= fun n => withOperand double n.toNat (numberToDigits i)) s =
      numberToDigits i y s := by
    rw [M.bind_ok (peek_present (State.hasStack_below hs (by omega))), M.bind_ok (peekDouble_below hs (by omega)),
      withOperand_usable hu]
  have hreq := requireExponent_apply (s := s) (c := decide (-512 < i.toInt) && decide (i.toInt < 511))
  rw [numberToDigits_between h1 h10] at hbody
  split_ifs with he
  · intro u v w h2 h3 h4 h5 h6
    rw [decide_eq_true he.1, decide_eq_true he.2] at hbody hreq
    refine btd_digits_runs.completes (hbody.trans ?_) (done_plain _)
    rw [M.bind_ok hreq, M.bind_ok (pokeDecimal_apply hs h2 h3 h4 h5 h6)]
    rfl
  · rw [← Bool.decide_and, decide_eq_false he] at hbody hreq
    exact btd_digits_runs.raises (hbody.trans (M.bind_error hreq))

/-- BTD of a number that is no number (R391). -/
theorem btd_digits_traps (hs : s.hasStack 3 0 = true)
    (hu : double.usable (double.unpack (s.topDouble 0).toNat) = false) :
    EndsInOperandTrap (.btd false) s s 0 (classBits (double.classify (double.unpack (s.topDouble 0).toNat))) :=
  btd_digits_runs.operandTrap (by
    rw [M.bind_ok (peek_present (State.hasStack_below hs (by omega))), M.bind_ok (peekDouble_below hs (by omega)),
      withOperand_unusable hu]) rfl

/-- BTD of a zero (R424). -/
theorem btd_zero (hs : s.hasStack 3 0 = true) (hu : double.usable (double.unpack (s.topDouble 0).toNat) = true)
    (h0 : double.rat (double.unpack (s.topDouble 0).toNat) = 0) :
    CompletesAs (.btd false) s ((((s.putTop 2 0#32).putTop 1 0#32).putTop 0 0#32).setCC ccE) :=
  (if_pos rfl).mp (btd_digits_onStack (p := 0) hu
    (.keeping fun hs => numberToDigits_zero hs (FloatFormat.classify_of_usable hu h0)) hs)

end

/-- Settles O23: the power pairs, DTB and POT with them, DTB with digits, and BTD with a guess and with digits. -/
theorem decimalConversions : Obligations.DecimalConversions := by
  intro s w0 w1 w2 digits pair e y x guess
  refine ⟨fun hc n h1 h2 => powerPair_rounds hc h1 h2,
    fun hs => ⟨powerOf_ends dtb_power_runs hs, powerOf_ends pot_runs hs⟩, fun n hn => dtb_onStack hn, ?_,
    fun hu g => btd_guess_onStack hu, fun hu hs => ⟨btd_guess_runs.doubleTrap hs (by omega) hu, btd_digits_traps hs hu⟩,
    fun hu hs => ⟨btd_zero hs hu, fun h0 h1 => btd_digits_onStack hu ?_, fun h => btd_digits_onStack hu ?_,
      btd_digits_ends hu hs⟩⟩
  · rintro hs ⟨k, hk, hd⟩
    exact dtb_raises hs hk hd
  · rw [numberToDigits_below h0 h1]
    exact btdCorrect_runs
  · rw [numberToDigits_above h]
    exact btdCorrect_runs

end Sys2Proof.Machine
